-- ==== Sys2Proof/Word.lean ====
section
/-! DEFINITION. The byte of the part's lines and the plainest arithmetic of the manual's formulas. -/

namespace Sys2Proof

/-- A byte of a loop frame or of a station link frame (Section 12). -/
abbrev Byte := BitVec 8

/-- "ceil(a / b)" of the manual's formulas on whole numbers (Introduction, Numbers and Arithmetic). -/
def ceilDiv (a b : Nat) : Nat := (a + b - 1) / b

end Sys2Proof
end

