-- ==== Sys2Proof/Config.lean ====
section
/-! DEFINITION. What one part fixes: the sizes the manual states, and the free values it leaves open. -/

namespace Sys2Proof.Config

/-- Places of the journal ring (R121). -/
def ringPlaces : Nat := 2048

/-- The entry limit of the journal: the ring less the exit reserve of 64 (R121). -/
def entryLimit : Nat := 1984

/-- Most worker records (R33). -/
def tableSize : Nat := 4096

/-- Places of the report queue (R169). -/
def reportPlaces : Nat := 32

/-- Places of a zone's pending queue (R158). -/
def zonePlaces : Nat := 4

/-- Limit of a bank's three minute totals (Table 3.3). -/
def minutesLimit : Nat := 65535

/-- Limit of a bank's pay (Table 3.3). -/
def payLimit : Nat := 99999999

/-- Limit of a bank's attendance count (Table 3.3). -/
def countLimit : Nat := 255

/-- Limit of the backup duration (R163). -/
def durationLimit : Nat := 4294967295

/-- The start byte of a loop frame (R56). -/
def loopStart : Byte := 0xE7

/-- The start byte of a station link frame (R167). -/
def stationStart : Byte := 0xA7

/-- FREE VALUE, DESIGN CHOICE (log 10): the place of one of the two short ticks in a group of ten. R154 states that two
ticks of the ten are of 3,276 periods and does not say which. -/
opaque firstShortTick : Fin 10

/-- FREE VALUE, DESIGN CHOICE (log 10): how far after the first short tick the other one stands, less one. -/
opaque secondShortGap : Fin 9

/-- FREE VALUE, DESIGN CHOICE (log 9): the first record number of a CLOSE_READ reply that carries no record, by the
stream's record count. R147 names the field and gives it no value in that reply. -/
opaque firstOfNone : Nat → BitVec 16

/-- Crystal periods of the tick at a place 0 to 9 of its group: eight of 3,277 and two of 3,276 (R154). -/
def tickPeriods (place : Nat) : Nat :=
  if place = firstShortTick.val ∨ place = (firstShortTick.val + 1 + secondShortGap.val) % 10 then 3276 else 3277

end Sys2Proof.Config
end

