-- ==== Sys2Proof/Syntax.lean ====
section
/-! DEFINITION. The commands of the part: one constructor of Instr for each row of the table of operations and events.

A request of the host carries its tag byte (R168) and its fields in the order the owning rule lists them. A number stands
as the number sent, in range or not; a value from a named list stands as the byte sent, numbered as R173 numbers it (log 6).
An event carries what the part samples at it (log 5). -/

namespace Sys2Proof

/-- Direction of a punch, of a release or of a passage pulse (Table 0.4: entry IN, exit OUT). -/
inductive Direction where
  | inward
  | outward
  deriving DecidableEq, Repr

/-- The two master clock impulse lines MIA and MIB (R8). -/
inductive MasterLine where
  | mia
  | mib
  deriving DecidableEq, Repr

/-- A break of a shift definition: the unpaid span [S + offset, S + offset + length) (Table 2.1). -/
structure Break where
  offset : Nat
  length : Nat
  deriving DecidableEq, Repr

/-- The fields of a shift definition (Table 2.1), as a request carries them and as the calendar stores them. The bell
flags WARN, START, BREAK, END are bits 0 to 3 of their byte, and the zones 0 to 3 bits 0 to 3 of theirs (R173). -/
structure ShiftDef where
  start : Nat
  length : Nat
  entryWindow : Nat
  lateGrace : Nat
  leaveGrace : Nat
  unit : Nat
  otThreshold : Nat
  otCap : Nat
  closeDelay : Nat
  breaks : List Break
  bellFlags : Nat
  warnLead : Nat
  zoneMask : Nat
  cadence : Nat
  deriving DecidableEq, Repr

/-- The seven tally parameters (Table 2.3). -/
structure TallyParams where
  nightStart : Nat
  nightEnd : Nat
  otFactor : Nat
  nightFactor : Nat
  unschedUnit : Nat
  unschedCap : Nat
  unschedLimit : Nat
  deriving DecidableEq, Repr

/-- One pair of RATE_SET (R27). -/
structure GradeRate where
  grade : Nat
  rate : Nat
  deriving DecidableEq, Repr

/-- The eight host-set fields of a worker record, as WORKER_PUT carries them (R48); `status` is the byte sent. -/
structure WorkerFields where
  badge : Nat
  status : Nat
  validUntil : Option Nat
  crew : Option Nat
  grade : Nat
  gateMask : BitVec 16
  anytime : Bool
  unschedAuth : Bool
  deriving DecidableEq, Repr

/-- One reader binding as LOOP_CONFIG carries it (Table 4.2); `direction` is the byte sent. -/
structure BindingFields where
  address : Nat
  gate : Nat
  direction : Nat
  deriving DecidableEq, Repr

/-- The fields of LOOP_CONFIG (Table 4.2); `rate`, `coding` and `check` are the bytes sent. -/
structure LoopFields where
  rate : Nat
  coding : Nat
  check : Nat
  npre : Nat
  nsync : Nat
  window : Nat
  nmiss : Nat
  dlos : Nat
  clos : Nat
  positions : List BindingFields
  deriving DecidableEq, Repr

/-- The fields of GATE_CONFIG (Table 6.2); `kind`, `passback` and `policy` are the bytes sent. -/
structure GateFields where
  kind : Nat
  release : Nat
  heldOpen : Nat
  passback : Nat
  policy : Nat
  partner : Option Nat
  deriving DecidableEq, Repr

/-- One step of CADENCE_DEFINE (R153): the byte sent for ON or OFF, and the duration in tenths. -/
structure StepFields where
  level : Nat
  tenths : Nat
  deriving DecidableEq, Repr

/-- The levels of the input pins at one instant, active or high as `true`: bit n of `gate0` is GnI0, bit n of `gate1` is
GnI1 (Table 0.6). A start samples them (R8, R97, R111, R172; log 5). -/
structure InputLevels where
  gate0 : BitVec 16
  gate1 : BitVec 16
  fire : Bool
  mia : Bool
  mib : Bool
  baud0 : Bool
  baud1 : Bool
  deriving DecidableEq, Repr

/-- One byte as the station link's receiver takes it after its start bit (R167): the nine cells in the order they come, bits 0 to 7 of
the data, least significant first, and then, as bit 8, the stop bit (high where it is there). -/
structure LineByte where
  cells : BitVec 9
  deriving DecidableEq, Repr

/-- A master clock line that has been active for its span (R8). `rearmed` says that it has been inactive since it last delivered an
impulse, or since the last start found it active (log 4). -/
structure ActiveLine where
  line : MasterLine
  rearmed : Bool
  deriving DecidableEq, Repr

/-- A turnstile input, by its direction, that has been active for its span (R97). `rearmed` says that it has been inactive since it
last delivered a pulse, or since it was last taken active at a start or a change of kind (log 4). -/
structure ActiveInput where
  direction : Direction
  rearmed : Bool
  deriving DecidableEq, Repr

/-- The commands. A loop's received line is a list with one entry for each sixteenth-of-a-cell step of the receiver,
true where a transition fell in that step (R57). -/
inductive Instr where
  | clockSet (tag day second : Nat)
  | clockConfig (tag : Nat) (enable : Bool) (window : Nat) (trim : Int)
  | clockRead (tag : Nat) (clearLatches : Bool)
  | shiftDefine (tag code : Nat) (fields : ShiftDef)
  | shiftDelete (tag code : Nat)
  | crewDefine (tag crew n anchor : Nat) (pattern : List Nat)
  | tallyConfig (tag : Nat) (params : TallyParams)
  | rateSet (tag : Nat) (rates : List GradeRate)
  | calendarReadShift (tag code : Nat)
  | calendarReadCrew (tag crew : Nat)
  | calendarReadDay (tag crew day : Nat)
  | calendarReadTally (tag : Nat)
  | calendarReadRates (tag : Nat)
  | workerPut (tag : Nat) (fields : WorkerFields)
  | workerGet (tag badge : Nat)
  | workerRemove (tag badge : Nat)
  | workerPresence (tag badge presence : Nat)
  | collectChanged (tag cursor k : Nat)
  | loopConfig (tag loop : Nat) (fields : LoopFields)
  | loopStart (tag loop : Nat)
  | loopStop (tag loop : Nat)
  | loopTest (tag loop k : Nat)
  | loopStatus (tag loop : Nat) (clearLatches : Bool)
  | gateConfig (tag gate : Nat) (fields : GateFields) (in0 in1 : Bool)
  | gateCommandNormal (tag gate : Nat)
  | gateCommandFree (tag gate : Nat)
  | gateCommandLockdown (tag gate : Nat)
  | gateCommandRelease (tag gate direction : Nat)
  | gateRead (tag gate : Nat)
  | musterRead (tag cursor k : Nat)
  | journalRead (tag k : Nat)
  | journalRelease (tag n expected : Nat)
  | periodClose (tag number : Nat)
  | closeRead (tag k : Nat) (rewind : Bool)
  | closeRelease (tag : Nat)
  | periodRead (tag : Nat)
  | cadenceDefine (tag cadence : Nat) (steps : List StepFields) (repeats : Nat)
  | bellEntryPut (tag slot minute days zones cadence : Nat)
  | bellEntryRemove (tag slot : Nat)
  | zoneConfig (tag mask : Nat)
  | bellManual (tag mask cadence : Nat)
  | bellSilence (tag mask : Nat)
  | bellRead (tag : Nat)
  | restart (tag : Nat)
  | factoryClear (tag : Nat)
  | status (tag : Nat)
  | reportFetch (tag k : Nat)
  | unknownKind (kind tag : Nat) (body : List Byte)
  | requestOverrun (kind tag : Nat) (body : List Byte)
  | stationFrameDiscarded (line : List LineByte)
  | byteGapTimeout
  | replySent (levels : InputLevels)
  | secondEvent
  | impulseEvent (line : ActiveLine)
  | readyEvent
  | cadenceStepEnded (zone : Fin 4)
  | pollSent (loop : Fin 4)
  | wakeSent (loop : Fin 4)
  | verdictSent (loop : Fin 4)
  | responseWindowExpired (loop : Fin 4)
  | loopAnswerReceived (loop : Fin 4) (line : List Bool)
  | loopFrameAborted (loop : Fin 4) (line : List Bool)
  | huntBoundExpired (loop : Fin 4) (line : List Bool)
  | abortQuietEnded (loop : Fin 4)
  | testFrameSettled (loop : Fin 4) (line : List Bool)
  | punchTaken
  | passagePulse (gate : Fin 16) (input : ActiveInput)
  | turnstileReleaseExpired (gate : Fin 16)
  | hingedReleaseExpired (gate : Fin 16)
  | heldOpenExpired (gate : Fin 16)
  | contactOpens (gate : Fin 16)
  | contactCloses (gate : Fin 16)
  | fireTaken
  | fireCleared
  | mainLoss (vbakLow : Bool)
  | backupLow
  | mainRestored (levels : InputLevels)
  | resetnLow
  | resetnReleased (levels : InputLevels)
  | firstPower
  | tenthTick
  deriving DecidableEq, Repr

end Sys2Proof
end

