-- ==== Sys2Proof/WellFormed.lean ====
section
/-! DEFINITION. Which commands a frame of the station link, or a line of the part, can carry: every operand fits the
bytes R173 gives its field. A command outside this is no message of the host's; `exec` still answers it by the owning rule. -/

namespace Sys2Proof

/-- The number fits in `n` bytes (R173). -/
def fits (n v : Nat) : Bool := v < 256 ^ n

/-- An optional field, when present, fits in `n` bytes. -/
def fitsOpt (n : Nat) : Option Nat → Bool
  | none => true
  | some v => fits n v

/-- A list goes under a count byte (R173). -/
def fitsCount {α : Type} (l : List α) : Bool := fits 1 l.length

/-- The fields of Table 2.1, each in the bytes its range needs. -/
def ShiftDef.fits (d : ShiftDef) : Bool :=
  Sys2Proof.fits 2 d.start && Sys2Proof.fits 2 d.length && Sys2Proof.fits 1 d.entryWindow && Sys2Proof.fits 1 d.lateGrace
    && Sys2Proof.fits 1 d.leaveGrace && Sys2Proof.fits 1 d.unit && Sys2Proof.fits 1 d.otThreshold && Sys2Proof.fits 2 d.otCap
    && Sys2Proof.fits 2 d.closeDelay && fitsCount d.breaks
    && d.breaks.all (fun b => Sys2Proof.fits 2 b.offset && Sys2Proof.fits 1 b.length)
    && Sys2Proof.fits 1 d.bellFlags && Sys2Proof.fits 1 d.warnLead && Sys2Proof.fits 1 d.zoneMask && Sys2Proof.fits 1 d.cadence

/-- The parameters of Table 2.3, each in the bytes its range needs. -/
def TallyParams.fits (p : TallyParams) : Bool :=
  Sys2Proof.fits 2 p.nightStart && Sys2Proof.fits 2 p.nightEnd && Sys2Proof.fits 1 p.otFactor && Sys2Proof.fits 1 p.nightFactor
    && Sys2Proof.fits 1 p.unschedUnit && Sys2Proof.fits 2 p.unschedCap && Sys2Proof.fits 2 p.unschedLimit

/-- The host-set fields of Table 3.1, each in the bytes its range needs. -/
def WorkerFields.fits (w : WorkerFields) : Bool :=
  Sys2Proof.fits 3 w.badge && Sys2Proof.fits 1 w.status && fitsOpt 2 w.validUntil && fitsOpt 1 w.crew && Sys2Proof.fits 1 w.grade

/-- The fields of Table 4.2, each in the bytes its range needs. -/
def LoopFields.fits (f : LoopFields) : Bool :=
  Sys2Proof.fits 1 f.rate && Sys2Proof.fits 1 f.coding && Sys2Proof.fits 1 f.check && Sys2Proof.fits 1 f.npre
    && Sys2Proof.fits 2 f.nsync && Sys2Proof.fits 1 f.window && Sys2Proof.fits 1 f.nmiss && Sys2Proof.fits 1 f.dlos
    && Sys2Proof.fits 1 f.clos && fitsCount f.positions
    && f.positions.all (fun b => Sys2Proof.fits 1 b.address && Sys2Proof.fits 1 b.gate && Sys2Proof.fits 1 b.direction)

/-- The fields of Table 6.2, each in the bytes its range needs. -/
def GateFields.fits (f : GateFields) : Bool :=
  Sys2Proof.fits 1 f.kind && Sys2Proof.fits 1 f.release && Sys2Proof.fits 2 f.heldOpen && Sys2Proof.fits 1 f.passback
    && Sys2Proof.fits 1 f.policy && fitsOpt 1 f.partner

/-- Well-formedness of a command: what R167 and R173 let a frame carry. An event's operands are what the part samples, and
every value of theirs is well formed. -/
def WellFormed : Instr → Bool
  | .clockSet tag day second => fits 1 tag && fits 2 day && fits 3 second
  | .clockConfig tag _ window trim => fits 1 tag && fits 1 window && (-128 ≤ trim && trim ≤ 127)
  | .clockRead tag _ => fits 1 tag
  | .shiftDefine tag code fields => fits 1 tag && fits 1 code && fields.fits
  | .shiftDelete tag code => fits 1 tag && fits 1 code
  | .crewDefine tag crew n anchor pattern =>
    fits 1 tag && fits 1 crew && fits 1 n && fits 2 anchor && fitsCount pattern && pattern.all (fits 1)
  | .tallyConfig tag params => fits 1 tag && params.fits
  | .rateSet tag rates => fits 1 tag && fitsCount rates && rates.all (fun r => fits 1 r.grade && fits 2 r.rate)
  | .calendarReadShift tag code => fits 1 tag && fits 1 code
  | .calendarReadCrew tag crew => fits 1 tag && fits 1 crew
  | .calendarReadDay tag crew day => fits 1 tag && fits 1 crew && fits 2 day
  | .calendarReadTally tag => fits 1 tag
  | .calendarReadRates tag => fits 1 tag
  | .workerPut tag fields => fits 1 tag && fields.fits
  | .workerGet tag badge => fits 1 tag && fits 3 badge
  | .workerRemove tag badge => fits 1 tag && fits 3 badge
  | .workerPresence tag badge presence => fits 1 tag && fits 3 badge && fits 1 presence
  | .collectChanged tag cursor k => fits 1 tag && fits 3 cursor && fits 1 k
  | .loopConfig tag loop fields => fits 1 tag && fits 1 loop && fields.fits
  | .loopStart tag loop => fits 1 tag && fits 1 loop
  | .loopStop tag loop => fits 1 tag && fits 1 loop
  | .loopTest tag loop k => fits 1 tag && fits 1 loop && fits 1 k
  | .loopStatus tag loop _ => fits 1 tag && fits 1 loop
  | .gateConfig tag gate fields _ _ => fits 1 tag && fits 1 gate && fields.fits
  | .gateCommandNormal tag gate => fits 1 tag && fits 1 gate
  | .gateCommandFree tag gate => fits 1 tag && fits 1 gate
  | .gateCommandLockdown tag gate => fits 1 tag && fits 1 gate
  | .gateCommandRelease tag gate direction => fits 1 tag && fits 1 gate && fits 1 direction
  | .gateRead tag gate => fits 1 tag && fits 1 gate
  | .musterRead tag cursor k => fits 1 tag && fits 3 cursor && fits 1 k
  | .journalRead tag k => fits 1 tag && fits 1 k
  | .journalRelease tag n expected => fits 1 tag && fits 2 n && fits 2 expected
  | .periodClose tag number => fits 1 tag && fits 2 number
  | .closeRead tag k _ => fits 1 tag && fits 1 k
  | .closeRelease tag => fits 1 tag
  | .periodRead tag => fits 1 tag
  | .cadenceDefine tag cadence steps repeats =>
    fits 1 tag && fits 1 cadence && fitsCount steps && steps.all (fun s => fits 1 s.level && fits 1 s.tenths) && fits 1 repeats
  | .bellEntryPut tag slot minute days zones cadence =>
    fits 1 tag && fits 1 slot && fits 2 minute && fits 1 days && fits 1 zones && fits 1 cadence
  | .bellEntryRemove tag slot => fits 1 tag && fits 1 slot
  | .zoneConfig tag mask => fits 1 tag && fits 1 mask
  | .bellManual tag mask cadence => fits 1 tag && fits 1 mask && fits 1 cadence
  | .bellSilence tag mask => fits 1 tag && fits 1 mask
  | .bellRead tag => fits 1 tag
  | .restart tag => fits 1 tag
  | .factoryClear tag => fits 1 tag
  | .status tag => fits 1 tag
  | .reportFetch tag k => fits 1 tag && fits 1 k
  | .unknownKind kind tag body => fits 1 kind && fits 1 tag && body.length ≤ 248
  | .requestOverrun kind tag body => fits 1 kind && fits 1 tag && body.length ≤ 248
  | .stationFrameDiscarded _ => true
  | .byteGapTimeout => true
  | .replySent _ => true
  | .secondEvent => true
  | .impulseEvent _ => true
  | .readyEvent => true
  | .cadenceStepEnded _ => true
  | .pollSent _ => true
  | .wakeSent _ => true
  | .verdictSent _ => true
  | .responseWindowExpired _ => true
  | .loopAnswerReceived _ _ => true
  | .loopFrameAborted _ _ => true
  | .huntBoundExpired _ _ => true
  | .abortQuietEnded _ => true
  | .testFrameSettled _ _ => true
  | .punchTaken => true
  | .passagePulse _ _ => true
  | .turnstileReleaseExpired _ => true
  | .hingedReleaseExpired _ => true
  | .heldOpenExpired _ => true
  | .contactOpens _ => true
  | .contactCloses _ => true
  | .fireTaken => true
  | .fireCleared => true
  | .mainLoss _ => true
  | .backupLow => true
  | .mainRestored _ => true
  | .resetnLow => true
  | .resetnReleased _ => true
  | .firstPower => true
  | .tenthTick => true

end Sys2Proof
end

