-- ==== Sys2Proof/Decode.lean ====
section
/-! DEFINITION. The command a word of the table's bits spells. The table gives no row any bits, so no word spells one. -/

namespace Sys2Proof

/-- Every row of the table has an empty list of fields and no fixed bits: a word spells no command. The requests' own byte
layouts are in Machine/Layout.lean (R173). -/
def decodeTableWord (_nbits _w : Nat) : Option Instr := none

end Sys2Proof
end

