-- ==== Sys2Proof/Machine/State.lean ====
section
/-! DEFINITION. The state of the part as plain data, block by block, the reasons a step can stop, and the state after reset. -/

namespace Sys2Proof.Machine

/-! ## Timebase and Impulse Follower (Section 1) -/

/-- Time validity (R4). -/
inductive Validity where
  | unset
  | set
  deriving DecidableEq, Repr

/-- The correction mark (R2). -/
inductive Mark where
  | none
  | hold
  | holding
  | omit
  deriving DecidableEq, Repr

/-- Table 1.1. `divider` is the crystal periods remaining to the next second event. -/
structure Timebase where
  day : Nat
  second : Nat
  trim : Int
  divider : Nat
  mark : Mark
  validity : Validity
  deriving DecidableEq, Repr

/-- Discipline states of the Impulse Follower (Table 1.2). -/
inductive FollowerState where
  | off
  | search
  | locked
  | holdover
  deriving DecidableEq, Repr

/-- Table 1.2. `minuteWindow` is the C in force when the local minute in progress began (R9); `miaHeld` and `mibHeld` say
that the line's qualifier has taken it active and delivers nothing until it has gone inactive (R8). -/
structure Follower where
  enable : Bool
  state : FollowerState
  window : Nat
  minuteWindow : Nat
  lastLine : Option MasterLine
  windowFlag : Bool
  missingRun : Nat
  wideRun : Nat
  miss1 : Bool
  miss2 : Bool
  wide1 : Bool
  wide2 : Bool
  phase : Int
  miaHeld : Bool
  mibHeld : Bool
  deriving DecidableEq, Repr

/-! ## Shift Calendar (Section 2) -/

/-- A crew's rotation (Table 2.2); the rotation length N is the length of the pattern. -/
structure Rotation where
  anchor : Nat
  pattern : List Nat
  deriving DecidableEq, Repr

/-- The four tables of the calendar and the open reference counts. Place c - 1 of `shifts`, `openRefs` and `rotations`
belongs to code or crew c. -/
structure Calendar where
  shifts : Vector (Option ShiftDef) 15
  openRefs : Vector Nat 15
  rotations : Vector Rotation 8
  tally : TallyParams
  rates : Vector Nat 16
  deriving DecidableEq, Repr

/-- Marks of CALENDAR_READ DAY (R30). -/
inductive DayMark where
  | resting
  | undefinedCode
  | working
  deriving DecidableEq, Repr

/-! ## Worker Table (Section 3) -/

/-- Status of a worker (Table 3.1). -/
inductive WorkerStatus where
  | active
  | suspended
  deriving DecidableEq, Repr

/-- Presence (R35). -/
inductive Presence where
  | inside
  | outside
  | unknown
  deriving DecidableEq, Repr

/-- The eight anomalies (Table 3.4). -/
inductive Anomaly where
  | missedOut
  | orphanOut
  | unscheduled
  | segmentLimit
  | timeStepped
  | unrecordedExit
  | saturated
  | softPassback
  deriving DecidableEq, Repr

/-- A set of anomalies (R41). -/
structure AnomalySet where
  missedOut : Bool
  orphanOut : Bool
  unscheduled : Bool
  segmentLimit : Bool
  timeStepped : Bool
  unrecordedExit : Bool
  saturated : Bool
  softPassback : Bool
  deriving DecidableEq, Repr

/-- The empty anomaly set. -/
def AnomalySet.empty : AnomalySet := ⟨false, false, false, false, false, false, false, false⟩

/-- The two totals banks, as a bank tag names them (Table 3.2). -/
inductive BankTag where
  | current
  | closing
  deriving DecidableEq, Repr

/-- Table 3.3. -/
structure Bank where
  regular : Nat
  overtime : Nat
  night : Nat
  pay : Nat
  count : Nat
  crew : Option Nat
  anomalies : AnomalySet
  deriving DecidableEq, Repr

/-- The empty bank (R40). -/
def Bank.empty : Bank := ⟨0, 0, 0, 0, 0, none, AnomalySet.empty⟩

/-- Kind of an attendance, with the shift code and E that only a SCHEDULED one has (Table 3.2). -/
inductive AttendanceKind where
  | scheduled (code stop : Nat)
  | unscheduled
  deriving DecidableEq, Repr

/-- One stretch inside the plant (R38): the out minute is absent while it is open. -/
structure Segment where
  inMinute : Nat
  outMinute : Option Nat
  deriving DecidableEq, Repr

/-- Table 3.2; `start` is S. -/
structure Attendance where
  kind : AttendanceKind
  start : Nat
  tag : BankTag
  crew : Option Nat
  segments : List Segment
  deriving DecidableEq, Repr

/-- The last punch (R36). -/
structure LastPunch where
  second : Nat
  gate : Nat
  deriving DecidableEq, Repr

/-- Table 3.1. -/
structure WorkerRecord where
  badge : Nat
  status : WorkerStatus
  validUntil : Option Nat
  crew : Option Nat
  grade : Nat
  gateMask : BitVec 16
  anytime : Bool
  unschedAuth : Bool
  presence : Presence
  lastPunch : Option LastPunch
  pendingGate : Option Nat
  attendance : Option Attendance
  pendingSet : AnomalySet
  current : Bank
  closing : Bank
  changed : Bool
  deriving DecidableEq, Repr

/-! ## Verdicts (Section 5) and Reader Loops (Section 4) -/

/-- The refusals of Table 5.1, in its order. -/
inductive Denial where
  | unknownBadge
  | clockUnset
  | evacuation
  | gateLockdown
  | suspended
  | expired
  | gateDenied
  | outOfWindow
  | passback
  | journalFull
  deriving DecidableEq, Repr

/-- Verdict codes (Table 5.1). -/
inductive VerdictCode where
  | accept
  | releaseUntimed
  | wait
  | denied (reason : Denial)
  deriving DecidableEq, Repr

/-- A verdict: verdict code, display code and the SEE_OFFICE flag (Section 5.2). -/
structure Verdict where
  code : VerdictCode
  display : Nat
  seeOffice : Bool
  deriving DecidableEq, Repr

/-- Bit rates of a loop (Table 4.2). -/
inductive BitRate where
  | b9600
  | b19200
  | b38400
  deriving DecidableEq, Repr

/-- Line codings (R55). -/
inductive Coding where
  | biphaseMark
  | biphaseSpace
  deriving DecidableEq, Repr

/-- Checks of a loop frame (R59). -/
inductive CheckKind where
  | sum8
  | crc16
  deriving DecidableEq, Repr

/-- Loop states (Table 4.6). -/
inductive LoopMode where
  | off
  | testing
  | training
  | up
  | lost
  deriving DecidableEq, Repr

/-- Tracker states (Table 4.1). -/
inductive TrackerState where
  | search
  | locked
  deriving DecidableEq, Repr

/-- The duplicate record of a position (R72). -/
structure DuplicateRecord where
  sequence : Nat
  verdict : Verdict
  deriving DecidableEq, Repr

/-- One row of the position table (Table 4.1). -/
structure Position where
  address : Nat
  gate : Nat
  direction : Direction
  present : Bool
  silence : Nat
  duplicate : Option DuplicateRecord
  deriving DecidableEq, Repr

/-- The configuration of Table 4.2 less the positions. -/
structure LoopConfig where
  rate : BitRate
  coding : Coding
  check : CheckKind
  npre : Nat
  nsync : Nat
  window : Nat
  nmiss : Nat
  dlos : Nat
  clos : Nat
  deriving DecidableEq, Repr

/-- A punch as a loop offers it (R66): the position is the pair (loop, address). -/
structure Offer where
  loop : Nat
  address : Nat
  sequence : Nat
  badge : Nat
  second : Nat
  deriving DecidableEq, Repr

/-- Where the loop's exchange stands (R60, R62, R65, R66, R74). -/
inductive Exchange where
  /-- nothing in hand: OFF, or stopped by a loss of supply -/
  | idle
  /-- the WAKE frame is being sent -/
  | sendingWake
  /-- a POLL to the address is being sent -/
  | sendingPoll (address : Nat)
  /-- the POLL has been sent and its answer is awaited -/
  | awaiting (address : Nat)
  /-- an answer was aborted and quiet is awaited before the next frame -/
  | quiet
  /-- a new punch is offered and the exchange halts -/
  | offering (offer : Offer)
  /-- a VERDICT to the address is being sent -/
  | sendingVerdict (address sequence : Nat) (verdict : Verdict)
  /-- TEST frame `frame` of `k` is in hand -/
  | testing (k frame : Nat)
  deriving DecidableEq, Repr

/-- Table 4.1. -/
structure LoopState where
  config : LoopConfig
  mode : LoopMode
  intent : Bool
  tracker : TrackerState
  miss1 : Bool
  miss2 : Bool
  deadRun : Nat
  validRun : Nat
  positions : List Position
  cursor : Nat
  good : Nat
  checkFailed : Nat
  aborted : Nat
  exchange : Exchange
  deriving DecidableEq, Repr

/-- State of the Punch Processor (R79). -/
structure PunchProcessor where
  hand : Option Offer
  lastLoop : Nat
  deriving DecidableEq, Repr

/-! ## Gates (Section 6) -/

/-- Kinds of gate (Table 6.2). -/
inductive GateKind where
  | turnstile
  | hinged
  deriving DecidableEq, Repr

/-- Passback modes (R86). -/
inductive PassbackMode where
  | hard
  | soft
  | off
  deriving DecidableEq, Repr

/-- Cut-off policies (R98). -/
inductive CutOffPolicy where
  | locked
  | exitFree
  | free
  deriving DecidableEq, Repr

/-- Control modes (R100). -/
inductive ControlMode where
  | normal
  | free
  | lockdown
  deriving DecidableEq, Repr

/-- Causes of an arming, and of a hinged release (Table 6.1, R107). -/
inductive ReleaseCause where
  | punch
  | host
  | untracked
  deriving DecidableEq, Repr

/-- States of a hinged gate (Table 6.4); RELEASED carries the cause of its release (R107). -/
inductive HingedState where
  | locked
  | released (cause : ReleaseCause)
  | opened
  | held
  | forced
  | free
  deriving DecidableEq, Repr

/-- The arming of a turnstile (R103). -/
structure Arming where
  direction : Direction
  cause : ReleaseCause
  deriving DecidableEq, Repr

/-- A pending passage (Table 6.1); its reservation is one unit of the journal's reserved count (R117). -/
structure Passage where
  badge : Nat
  direction : Direction
  second : Nat
  loop : Nat
  address : Nat
  deriving DecidableEq, Repr

/-- The configuration of Table 6.2. -/
structure GateConfig where
  kind : GateKind
  release : Nat
  heldOpen : Nat
  passback : PassbackMode
  policy : CutOffPolicy
  partner : Option Nat
  deriving DecidableEq, Repr

/-- Table 6.1. `hinged` is the state of a hinged gate and is not read for a turnstile, whose state is defined by its arming
and its standing (R103). A timer is absent while it is stopped; at 0 it has expired and its expiry is not yet taken (R102).
`pulse0` and `pulse1` say that the input has been taken active and delivers nothing until it has gone inactive (R97). -/
structure Gate where
  config : GateConfig
  mode : ControlMode
  hinged : HingedState
  arming : Option Arming
  releaseTimer : Option Nat
  heldTimer : Option Nat
  passage : Option Passage
  contactOpen : Bool
  pulse0 : Bool
  pulse1 : Bool
  deriving DecidableEq, Repr

/-- The gate states STATUS and GATE_READ show (Table 6.1). -/
inductive GateState where
  | idle
  | armed
  | free
  | locked
  | released
  | opened
  | held
  | forced
  deriving DecidableEq, Repr

/-- A standing: the set of directions released continuously (R98). -/
inductive Standing where
  | nothing
  | outOnly
  | both
  deriving DecidableEq, Repr

/-! ## Punch Journal (Section 7) -/

/-- Outcomes of a journal entry; the refusal code is present only with REFUSED (Table 7.2). -/
inductive JournalOutcome where
  | passed
  | voided
  | fireExit
  | refused (reason : Denial)
  deriving DecidableEq, Repr

/-- Table 7.2. -/
structure JournalEntry where
  number : Nat
  second : Nat
  badge : Nat
  loop : Nat
  address : Nat
  gate : Nat
  direction : Direction
  outcome : JournalOutcome
  anomalies : AnomalySet
  restartVoid : Bool
  deriving DecidableEq, Repr

/-- Table 7.1; the held count is the length of `entries` (R117). -/
structure Journal where
  entries : List JournalEntry
  reserved : Nat
  nextNumber : Nat
  deriving DecidableEq, Repr

/-! ## Period Unit (Section 9) -/

/-- Bank states (Table 9.2). -/
inductive BankState where
  | free
  | pending
  | ready
  | drained
  deriving DecidableEq, Repr

/-- A crew summary, or the grand totals (Table 9.3). -/
structure Summary where
  workers : Nat
  regular : Nat
  overtime : Nat
  night : Nat
  pay : Nat
  count : Nat
  anomalyWorkers : Nat
  deriving DecidableEq, Repr

/-- A summary of zeros. -/
def Summary.zero : Summary := ⟨0, 0, 0, 0, 0, 0, 0⟩

/-- Table 9.1; place c of `crews` is the summary of crew c. -/
structure PeriodUnit where
  state : BankState
  boundary : Nat
  previous : Nat
  number : Nat
  counter : Nat
  crews : Vector Summary 9
  grand : Summary
  workerCount : Nat
  cursor : Nat
  cursorBadge : Nat
  deriving DecidableEq, Repr

/-- A record of the close stream (Table 9.4). -/
inductive StreamRecord where
  | periodStart (number previous boundary n : Nat)
  | crewSummary (crew : Nat) (row : Summary)
  | worker (badge : Nat) (bank : Bank)
  | periodEnd (grand : Summary) (count : Nat)
  deriving DecidableEq, Repr

/-! ## Bells (Section 10) -/

/-- The classes, from highest to lowest (R158). -/
inductive BellClass where
  | evacuation
  | manual
  | shift
  | fixed
  deriving DecidableEq, Repr

/-- One step of a cadence (R153). -/
structure CadenceStep where
  on : Bool
  tenths : Nat
  deriving DecidableEq, Repr

/-- A defined cadence (R153). -/
structure Cadence where
  steps : List CadenceStep
  repeats : Nat
  deriving DecidableEq, Repr

/-- A fixed bell entry (R155); days and zones are masks of bits. -/
structure FixedBell where
  minute : Nat
  days : Nat
  zones : Nat
  cadence : Nat
  deriving DecidableEq, Repr

/-- What a sounding zone holds (Table 10.1); `repeats` is absent for cadence 0, which has no repeat count (R154). -/
structure Sounding where
  cadence : Nat
  cls : BellClass
  steps : List CadenceStep
  repeats : Option Nat
  index : Nat
  repeatNo : Nat
  down : Nat
  deriving DecidableEq, Repr

/-- One entry of a zone's pending queue (Table 10.1). -/
structure QueuedBell where
  cadence : Nat
  cls : BellClass
  deriving DecidableEq, Repr

/-- A zone: SILENT when `sounding` is absent. -/
structure Zone where
  sounding : Option Sounding
  queue : List QueuedBell
  deriving DecidableEq, Repr

/-- Outcomes of a submission (R158). -/
inductive BellOutcome where
  | started
  | preempted
  | queued
  | dropped
  deriving DecidableEq, Repr

/-- Table 10.1, and the tenth tick divider of R154: the crystal periods counted since the last tick and that tick's place in
its group of ten; where it counts and which starts keep it is log 30 (DESIGN CHOICE). Place c - 1 of `cadences` is cadence c. -/
structure Bells where
  cadences : Vector (Option Cadence) 7
  fixed : Vector (Option FixedBell) 32
  fireMask : Nat
  highWater : Nat
  zones : Vector Zone 4
  tickElapsed : Nat
  tickPlace : Nat
  deriving DecidableEq, Repr

/-! ## Supply (Section 11) -/

/-- Supply states (R163). -/
inductive SupplyState where
  | run
  | backup
  deriving DecidableEq, Repr

/-- Retention states (R163). -/
inductive Retention where
  | valid
  | lost
  deriving DecidableEq, Repr

/-- The Supply Monitor. `firstPower` marks the next start as first power, and `startOwed` says that the main supply was
restored while RESETn was low, so that its start waits for RESETn (R165). `resetnHigh` is the RESETn pin. -/
structure SupplyMonitor where
  state : SupplyState
  retention : Retention
  duration : Nat
  firstPower : Bool
  startOwed : Bool
  resetnHigh : Bool
  deriving DecidableEq, Repr

/-- Kinds of start (R166). -/
inductive StartKind where
  | warm
  | cold
  deriving DecidableEq, Repr

/-- Causes a START report carries (R166). -/
inductive StartCause where
  | supply
  | resetn
  | restart
  | factoryClear
  | firstPower
  deriving DecidableEq, Repr

/-! ## Station Link (Section 12) -/

/-- Causes of a CLOCK_EVENT (R16). -/
inductive ClockCause where
  | enable
  | disable
  | align
  | wide
  | miss
  | clockSet
  deriving DecidableEq, Repr

/-- Causes of a LOOP_EVENT (R64). -/
inductive LoopCause where
  | start
  | test
  | trained
  | loss
  | regained
  | testEnd
  | stop
  deriving DecidableEq, Repr

/-- Causes of a READER_EVENT (R67, R68). -/
inductive ReaderCause where
  | fault
  | present
  | absent
  deriving DecidableEq, Repr

/-- Alarms (R110). -/
inductive Alarm where
  | forced
  | held
  deriving DecidableEq, Repr

/-- Phases of an alarm (R110). -/
inductive AlarmPhase where
  | raised
  | cleared
  deriving DecidableEq, Repr

/-- Levels of a JOURNAL_LIMIT (R122). -/
inductive LimitLevel where
  | entryLimit
  | full
  deriving DecidableEq, Repr

/-- The reports (R169), each with the fields of its owning rule. -/
inductive Report where
  | clockEvent (left entered : FollowerState) (cause : ClockCause) (second : Nat) (phase : Int)
  | loopEvent (loop : Nat) (left entered : LoopMode) (cause : LoopCause) (second : Nat) (present : List Nat)
  | readerEvent (loop address : Nat) (cause : ReaderCause) (faultCode second : Nat)
  | loopTestDone (loop k good checkFailed aborted : Nat)
  | gateAlarm (gate : Nat) (alarm : Alarm) (phase : AlarmPhase) (direction : Option Direction) (second : Nat)
  | fireEvent (taken : Bool) (second : Nat)
  | journalLimit (level : LimitLevel) (held reserved second : Nat)
  | closeReady (number boundary n count second : Nat)
  | start (kind : StartKind) (cause : StartCause) (duration second : Nat)
  deriving DecidableEq, Repr

/-- Result codes (Table 12.2). -/
inductive Result where
  | ok
  | unknownKind
  | badValue
  | state
  | busy
  | notFound
  | tableFull
  | inUse
  | totalsPending
  | notReady
  | notDrained
  deriving DecidableEq, Repr

/-- Reply content of CLOCK_READ (R15). -/
structure ClockReading where
  day : Nat
  second : Nat
  validity : Validity
  trim : Int
  enable : Bool
  window : Nat
  state : FollowerState
  lastLine : Option MasterLine
  mark : Mark
  miss1 : Bool
  miss2 : Bool
  wide1 : Bool
  wide2 : Bool
  phase : Int
  deriving DecidableEq, Repr

/-- Reply content of LOOP_STATUS (R76). -/
structure LoopReading where
  config : LoopConfig
  mode : LoopMode
  intent : Bool
  miss1 : Bool
  miss2 : Bool
  deadRun : Nat
  validRun : Nat
  positions : List Position
  deriving DecidableEq, Repr

/-- Reply content of GATE_READ (R114); the contact (OPEN as `true`) and the held-open timer are for a hinged gate, and a timer
that is stopped reads as absent (log 19). -/
structure GateReading where
  config : GateConfig
  mode : ControlMode
  state : GateState
  standing : Standing
  cutOff : Bool
  arming : Option Arming
  releaseTimer : Option Nat
  contactOpen : Option Bool
  heldTimer : Option Nat
  passage : Option Passage
  fire : Bool
  deriving DecidableEq, Repr

/-- One entry of a MUSTER_READ reply (R113). -/
structure MusterEntry where
  badge : Nat
  presence : Presence
  gate : Option Nat
  second : Option Nat
  deriving DecidableEq, Repr

/-- Reply content of PERIOD_READ (R150). -/
structure PeriodReading where
  state : BankState
  number : Nat
  boundary : Nat
  previous : Nat
  counter : Nat
  workerCount : Nat
  cursor : Nat
  grand : Option Summary
  deriving DecidableEq, Repr

/-- Reply content of BELL_READ (R161). -/
structure BellReading where
  cadences : List (Option Cadence)
  fixed : List (Option FixedBell)
  fireMask : Nat
  highWater : Nat
  zones : List Zone
  deriving DecidableEq, Repr

/-- State and control mode of one gate in a STATUS reply (R171). -/
structure GateStatus where
  state : GateState
  mode : ControlMode
  deriving DecidableEq, Repr

/-- Reply content of STATUS (R171). -/
structure StatusReading where
  validity : Validity
  follower : FollowerState
  loops : List LoopMode
  gates : List GateStatus
  fire : Bool
  held : Nat
  reserved : Nat
  bank : BankState
  counter : Nat
  reports : Nat
  overrun : Bool
  dropped : Bool
  deriving DecidableEq, Repr

/-- Outcome of BELL_MANUAL in one zone (R160). -/
structure ZoneOutcome where
  zone : Nat
  outcome : BellOutcome
  deriving DecidableEq, Repr

/-- What a reply carries after its result byte (R168, Table 12.3). -/
inductive Content where
  | nothing
  | clock (reading : ClockReading)
  | shift (fields : ShiftDef) (openCount : Nat)
  | crew (rotation : Rotation)
  | day (index code : Nat) (mark : DayMark) (window : Option (Nat × Nat))
  | tally (params : TallyParams)
  | rates (rates : List Nat)
  | recordCount (n : Nat)
  | worker (record : WorkerRecord) (n : Nat)
  | workers (records : List WorkerRecord) (more : Bool)
  | loop (reading : LoopReading)
  | gate (reading : GateReading)
  | muster (entries : List MusterEntry) (more : Bool)
  | journal (held reserved next : Nat) (entries : List JournalEntry)
  | journalCounts (held reserved : Nat) (oldest : Option Nat)
  | periodClosed (boundary number counter : Nat) (state : BankState)
  | stream (first : Nat) (records : List StreamRecord) (count : Nat) (state : BankState)
  | periodReleased (number previous : Nat)
  | period (reading : PeriodReading)
  | outcomes (zones : List ZoneOutcome)
  | silenced (zones : List Nat)
  | bells (reading : BellReading)
  | status (reading : StatusReading)
  | reports (reports : List Report) (left : Nat)
  deriving DecidableEq, Repr

/-- A reply: the result code and its content (R168). -/
structure Reply where
  result : Result
  content : Content
  deriving DecidableEq, Repr

/-- The held request with the reply its owning block has decided (R168): the request is held until the reply has been sent. -/
structure HeldRequest where
  kind : Nat
  tag : Nat
  reply : Reply
  deriving DecidableEq, Repr

/-- The Station Link (Table 0.1). `partialFrame` holds the bytes of a frame in progress from its start byte on; `baud1` and
`baud0` are the straps as read at the last start (R167, R172). -/
structure StationLink where
  held : Option HeldRequest
  reports : List Report
  overrun : Bool
  dropped : Bool
  partialFrame : List Byte
  baud0 : Bool
  baud1 : Bool
  deriving DecidableEq, Repr

/-! ## The whole part -/

/-- The part, and the queue of the commands that wait (the model's own field). -/
structure State where
  time : Timebase
  follower : Follower
  calendar : Calendar
  workers : List WorkerRecord
  loops : Vector LoopState 4
  punch : PunchProcessor
  gates : Vector Gate 16
  fire : Bool
  journal : Journal
  period : PeriodUnit
  bells : Bells
  supply : SupplyMonitor
  link : StationLink
  pending : List Instr
  deriving DecidableEq, Repr

/-- Reasons a step can stop with a fault. There is none: the part answers every command, and an event whose condition does
not hold has no effect (log 3). Safe: no run of the model ends early. -/
inductive Fault where
  deriving DecidableEq, Repr

/-- Reasons a step can refuse. -/
inductive Refusal where
  /-- Raised by an arm of `exec` whose command has no meaning yet, with the row's mnemonic. Safe: the model stops. No arm
  raises it. -/
  | notModelled (mnemonic : String)
  deriving DecidableEq, Repr

/-! ## Start values -/

/-- R7: day 0, second 0, trim 0, mark NONE, UNSET, the divider loaded with 32,768 periods. -/
def Timebase.cold : Timebase := ⟨0, 0, 0, 32768, .none, .unset⟩

/-- R17. -/
def Follower.cold : Follower :=
  { enable := false, state := .off, window := 5, minuteWindow := 5, lastLine := none, windowFlag := false
    missingRun := 0, wideRun := 0, miss1 := false, miss2 := false, wide1 := false, wide2 := false, phase := 0
    miaHeld := false, mibHeld := false }

/-- R31: a cycle of one rest day. -/
def Rotation.rest : Rotation := ⟨0, [0]⟩

/-- R31, Table 2.5. -/
def Calendar.cold : Calendar :=
  { shifts := Vector.replicate 15 none, openRefs := Vector.replicate 15 0, rotations := Vector.replicate 8 Rotation.rest
    tally := ⟨0, 0, 12, 0, 15, 240, 720⟩, rates := Vector.replicate 16 0 }

/-- R77. -/
def LoopConfig.cold : LoopConfig := ⟨.b19200, .biphaseMark, .crc16, 4, 64, 48, 3, 16, 4⟩

/-- R77. -/
def LoopState.cold : LoopState :=
  { config := LoopConfig.cold, mode := .off, intent := false, tracker := .search, miss1 := false, miss2 := false
    deadRun := 0, validRun := 0, positions := [], cursor := 0, good := 0, checkFailed := 0, aborted := 0, exchange := .idle }

/-- R115. -/
def GateConfig.cold : GateConfig := ⟨.hinged, 5, 30, .soft, .locked, none⟩

/-- R115, with the contact CLOSED and the inputs inactive. -/
def Gate.cold : Gate :=
  { config := GateConfig.cold, mode := .normal, hinged := .locked, arming := none, releaseTimer := none, heldTimer := none
    passage := none, contactOpen := false, pulse0 := false, pulse1 := false }

/-- R125. -/
def Journal.cold : Journal := ⟨[], 0, 0⟩

/-- R151. -/
def PeriodUnit.cold : PeriodUnit :=
  { state := .free, boundary := 0, previous := 0, number := 0, counter := 0, crews := Vector.replicate 9 Summary.zero
    grand := Summary.zero, workerCount := 0, cursor := 1, cursorBadge := 0 }

/-- A SILENT zone with an empty queue (R162). -/
def Zone.silent : Zone := ⟨none, []⟩

/-- R162. -/
def Bells.cold : Bells :=
  { cadences := Vector.replicate 7 none, fixed := Vector.replicate 32 none, fireMask := 0, highWater := 0
    zones := Vector.replicate 4 Zone.silent, tickElapsed := 0, tickPlace := 0 }

/-- R95. -/
def PunchProcessor.start : PunchProcessor := ⟨none, 3⟩

/-- The part right after the cold start of first power (R165, R166, Table 11.3), with every input pin inactive or low, the
START report in the queue and no command waiting. DESIGN CHOICE (log 2): which start "reset" is, the levels of the inputs, and
the values the manual does not give. -/
def State.reset : State :=
  { time := Timebase.cold, follower := Follower.cold, calendar := Calendar.cold, workers := []
    loops := Vector.replicate 4 LoopState.cold, punch := PunchProcessor.start, gates := Vector.replicate 16 Gate.cold
    fire := false, journal := Journal.cold, period := PeriodUnit.cold, bells := Bells.cold
    supply := ⟨.run, .valid, 0, false, false, true⟩
    link := ⟨none, [.start .cold .firstPower 0 0], false, false, [], false, false⟩
    pending := [] }

end Sys2Proof.Machine
end

