-- ==== Sys2Proof/Machine/Operands.lean ====
section
/-! DEFINITION. The operand forms of the requests: the values of the named lists by the byte sent (R173: numbered from 0 in
the order in which the manual first lists them, log 17), the masks, and the range checks of the rules. -/

namespace Sys2Proof.Machine

/-- ACTIVE 0, SUSPENDED 1 (Table 3.1). -/
def workerStatusOf : Nat → Option WorkerStatus
  | 0 => some .active
  | 1 => some .suspended
  | _ => none

/-- IN 0, OUT 1, UNKNOWN 2 (R35). -/
def presenceOf : Nat → Option Presence
  | 0 => some .inside
  | 1 => some .outside
  | 2 => some .unknown
  | _ => none

/-- IN 0, OUT 1. -/
def directionOf : Nat → Option Direction
  | 0 => some .inward
  | 1 => some .outward
  | _ => none

/-- 9,600 is 0, 19,200 is 1, 38,400 is 2 (Table 4.2): a named list (DESIGN CHOICE, log 27). -/
def bitRateOf : Nat → Option BitRate
  | 0 => some .b9600
  | 1 => some .b19200
  | 2 => some .b38400
  | _ => none

/-- BIPHASE_MARK 0, BIPHASE_SPACE 1 (Table 4.2). -/
def codingOf : Nat → Option Coding
  | 0 => some .biphaseMark
  | 1 => some .biphaseSpace
  | _ => none

/-- SUM8 0, CRC16 1 (Table 4.2). -/
def checkKindOf : Nat → Option CheckKind
  | 0 => some .sum8
  | 1 => some .crc16
  | _ => none

/-- TURNSTILE 0, HINGED 1 (Table 6.2). -/
def gateKindOf : Nat → Option GateKind
  | 0 => some .turnstile
  | 1 => some .hinged
  | _ => none

/-- HARD 0, SOFT 1, OFF 2 (Table 6.2). -/
def passbackOf : Nat → Option PassbackMode
  | 0 => some .hard
  | 1 => some .soft
  | 2 => some .off
  | _ => none

/-- LOCKED 0, EXIT_FREE 1, FREE 2 (Table 6.2). -/
def policyOf : Nat → Option CutOffPolicy
  | 0 => some .locked
  | 1 => some .exitFree
  | 2 => some .free
  | _ => none

/-- ON 0, OFF 1 (Table 10.1). -/
def stepLevelOf : Nat → Option Bool
  | 0 => some true
  | 1 => some false
  | _ => none

/-- `lo` to `hi`, both included. -/
def within (lo v hi : Nat) : Bool := lo ≤ v && v ≤ hi

/-- An optional field, when given, lies in `lo` to `hi`. -/
def withinOpt (lo : Nat) (v : Option Nat) (hi : Nat) : Bool :=
  match v with
  | none => true
  | some x => within lo x hi

/-- Member `i` of a mask, the first listed member in the least significant bit (R173). -/
def inMask (mask i : Nat) : Bool := mask.testBit i

/-- The members 0 to `n` - 1 of a mask, ascending. -/
def maskMembers (mask n : Nat) : List Nat := (List.range n).filter (inMask mask)

/-- The six rounding units of Tables 2.1 and 2.3. -/
def isUnit (u : Nat) : Bool := [1, 5, 6, 10, 15, 30].contains u

/-- A badge number (Table 0.3). -/
def isBadge (b : Nat) : Bool := within 1 b 16777215

/-- The break's own conditions of R18 in a shift of length `l`: offset up to L - 5, length 5 to 120, ending by L. -/
def breakValid (l : Nat) (b : Break) : Bool :=
  b.offset + 5 ≤ l && within 5 b.length 120 && b.offset + b.length ≤ l

/-- Two breaks overlap when their spans have a minute in common (Section 2.1). -/
def breakOverlap (a b : Break) : Bool :=
  a.offset < b.offset + b.length && b.offset < a.offset + a.length

/-- R18: at most two breaks, each valid, not overlapping. -/
def breaksValid (l : Nat) : List Break → Bool
  | [] => true
  | [a] => breakValid l a
  | [a, b] => breakValid l a && breakValid l b && !breakOverlap a b
  | _ => false

/-- The break list in ascending order of offset (R18). -/
def sortBreaks : List Break → List Break
  | [a, b] => if b.offset < a.offset then [b, a] else [a, b]
  | l => l

/-- The conditions of R18 on the fields (Table 2.1); a flag or zone byte naming a member the table does not list is out of
its range (DEDUCED, log 21). -/
def shiftDefValid (d : ShiftDef) : Bool :=
  within 0 d.start 1439 && within 60 d.length 960 && within 0 d.entryWindow 240 && within 0 d.lateGrace 15
    && within 0 d.leaveGrace 15 && isUnit d.unit && within 0 d.otThreshold 120 && within 0 d.otCap 480
    && within 30 d.closeDelay 600 && breaksValid d.length d.breaks
    && within 0 d.bellFlags 15 && within 1 d.warnLead 30 && within 0 d.zoneMask 15 && within 1 d.cadence 7

/-- R25 on Table 2.3. -/
def tallyParamsValid (p : TallyParams) : Bool :=
  within 0 p.nightStart 1439 && within 0 p.nightEnd 1439 && within 8 p.otFactor 24 && within 0 p.nightFactor 8
    && isUnit p.unschedUnit && within 60 p.unschedCap 480 && within 60 p.unschedLimit 960

/-- R27 on the list of RATE_SET: 1 to 16 pairs in range, no grade twice. -/
def ratesValid (rates : List GradeRate) : Bool :=
  within 1 rates.length 16 && rates.all (fun r => within 0 r.grade 15 && within 0 r.rate 65535)
    && decide ((rates.map (·.grade)).Nodup)

/-- R23 on CREW_DEFINE. -/
def crewDefineValid (crew n anchor : Nat) (pattern : List Nat) : Bool :=
  within 1 crew 8 && within 1 n 28 && within 0 anchor 65535 && pattern.length == n && pattern.all (within 0 · 15)

/-- R54, the binding's own conditions. -/
def bindingValid (b : BindingFields) : Bool :=
  within 1 b.address 8 && within 0 b.gate 15 && (directionOf b.direction).isSome

/-- The configuration a LOOP_CONFIG carries, when every field is in range (R54). -/
def loopConfigOf (f : LoopFields) : Option LoopConfig :=
  match bitRateOf f.rate, codingOf f.coding, checkKindOf f.check with
  | some rate, some coding, some check =>
    if within 2 f.npre 16 && within 16 f.nsync 4095 && within 16 f.window 255 && within 1 f.nmiss 15
        && within 4 f.dlos 64 && within 2 f.clos 32 && f.positions.length ≤ 8 && f.positions.all bindingValid
        && decide ((f.positions.map (·.address)).Nodup) then
      some ⟨rate, coding, check, f.npre, f.nsync, f.window, f.nmiss, f.dlos, f.clos⟩
    else none
  | _, _, _ => none

/-- The configuration a GATE_CONFIG for gate `g` carries, when every field is in range (R96). -/
def gateConfigOf (g : Nat) (f : GateFields) : Option GateConfig :=
  match gateKindOf f.kind, passbackOf f.passback, policyOf f.policy with
  | some kind, some passback, some policy =>
    if within 1 f.release 30 && within 5 f.heldOpen 300 && withinOpt 0 f.partner 15 && f.partner != some g then
      some ⟨kind, f.release, f.heldOpen, passback, policy, f.partner⟩
    else none
  | _, _, _ => none

/-- The steps a CADENCE_DEFINE carries, when each is in range (R153). -/
def cadenceStepsOf : List StepFields → Option (List CadenceStep)
  | [] => some []
  | f :: rest =>
    match stepLevelOf f.level, cadenceStepsOf rest with
    | some on, some steps => if within 1 f.tenths 255 then some (⟨on, f.tenths⟩ :: steps) else none
    | _, _ => none

end Sys2Proof.Machine
end

