-- ==== Sys2Proof/Machine/Flags.lean ====
section
/-! DEFINITION. Flag computations: anomaly sets, the raising of an anomaly with the changed mark, and the latches. -/

namespace Sys2Proof.Machine

/-- Is the anomaly in the set? -/
def AnomalySet.has (s : AnomalySet) : Anomaly → Bool
  | .missedOut => s.missedOut
  | .orphanOut => s.orphanOut
  | .unscheduled => s.unscheduled
  | .segmentLimit => s.segmentLimit
  | .timeStepped => s.timeStepped
  | .unrecordedExit => s.unrecordedExit
  | .saturated => s.saturated
  | .softPassback => s.softPassback

/-- The set with the anomaly in it; one already present stays present once (R41). -/
def AnomalySet.add (s : AnomalySet) : Anomaly → AnomalySet
  | .missedOut => { s with missedOut := true }
  | .orphanOut => { s with orphanOut := true }
  | .unscheduled => { s with unscheduled := true }
  | .segmentLimit => { s with segmentLimit := true }
  | .timeStepped => { s with timeStepped := true }
  | .unrecordedExit => { s with unrecordedExit := true }
  | .saturated => { s with saturated := true }
  | .softPassback => { s with softPassback := true }

/-- Is the set empty? -/
def AnomalySet.isEmpty (s : AnomalySet) : Bool := s == AnomalySet.empty

/-- Is the bank empty (R40)? -/
def Bank.isEmpty (b : Bank) : Bool := b == Bank.empty

/-- The bank with the anomaly in its set. -/
def Bank.addAnomaly (b : Bank) (a : Anomaly) : Bank := { b with anomalies := b.anomalies.add a }

/-- The record with the bank the tag names changed by `f`. -/
def WorkerRecord.onBank (w : WorkerRecord) (tag : BankTag) (f : Bank → Bank) : WorkerRecord :=
  match tag with
  | .current => { w with current := f w.current }
  | .closing => { w with closing := f w.closing }

/-- The bank the tag names. -/
def WorkerRecord.bank (w : WorkerRecord) : BankTag → Bank
  | .current => w.current
  | .closing => w.closing

/-- Raising an anomaly (R41, R43): it enters the pending set, and, when it belongs to an attendance of tag `owner`, the
anomaly set of the bank the tag names; the changed mark is set. -/
def raise (a : Anomaly) (owner : Option BankTag) (w : WorkerRecord) : WorkerRecord :=
  let w := { w with pendingSet := w.pendingSet.add a, changed := true }
  match owner with
  | none => w
  | some tag => w.onBank tag (·.addAnomaly a)

/-- Raising an anomaly only where the condition holds. -/
def raiseIf (c : Bool) (a : Anomaly) (owner : Option BankTag) (w : WorkerRecord) : WorkerRecord :=
  if c then raise a owner w else w

/-- The follower with its four latches clear (R9, R15, R17). -/
def Follower.clearLatches (f : Follower) : Follower :=
  { f with miss1 := false, miss2 := false, wide1 := false, wide2 := false }

/-- The loop with its two latches clear (R58, R76). -/
def LoopState.clearLatches (l : LoopState) : LoopState := { l with miss1 := false, miss2 := false }

end Sys2Proof.Machine
end

