-- ==== Sys2Proof/Machine/Ops.lean ====
section
/-! DEFINITION. The operations every block shares: the derived time quantities, the banks of like units, the report queue,
and the taking of a request. -/

namespace Sys2Proof.Machine

/-! ## Time quantities (Table 0.2) -/

/-- Minute of day. -/
def Timebase.minuteOfDay (t : Timebase) : Nat := t.second / 60

/-- Second of minute. -/
def Timebase.secondOfMinute (t : Timebase) : Nat := t.second % 60

/-- Plant minute. -/
def Timebase.plantMinute (t : Timebase) : Nat := t.day * 1440 + t.minuteOfDay

/-- Plant second. -/
def Timebase.plantSecond (t : Timebase) : Nat := t.day * 86400 + t.second

/-- Day of week of a day number, 0 = Sunday. -/
def dayOfWeek (day : Nat) : Nat := (day + 6) % 7

/-- The plant second as a report stamps it. -/
def State.plantSecond (s : State) : Nat := s.time.plantSecond

/-- The plant minute as the blocks read it. -/
def State.plantMinute (s : State) : Nat := s.time.plantMinute

/-! ## Supply -/

/-- The part works: the supply state is RUN and RESETn is high. Otherwise its inputs are not seen, the link takes no bytes
and no field or host work is done (R163, R165). -/
def State.live (s : State) : Bool := s.supply.state == .run && s.supply.resetnHigh

/-! ## Banks of like units -/

/-- The bank with unit `i` made by `f` from its number and its old value. -/
def mapUnits {α : Type} {n : Nat} (f : Nat → α → α) (v : Vector α n) : Vector α n :=
  Vector.ofFn fun i => f i.val v[i]

/-- Gate `g` (0 to 15). -/
def State.gateAt (s : State) (g : Nat) : Gate := s.gates.getD g Gate.cold

/-- The part with gate `g` replaced. -/
def State.setGate (s : State) (g : Nat) (x : Gate) : State := { s with gates := s.gates.setIfInBounds g x }

/-- Loop `l` (0 to 3). -/
def State.loopAt (s : State) (l : Nat) : LoopState := s.loops.getD l LoopState.cold

/-- The part with loop `l` replaced. -/
def State.setLoop (s : State) (l : Nat) (x : LoopState) : State := { s with loops := s.loops.setIfInBounds l x }

/-- Zone `z` (0 to 3). -/
def Bells.zoneAt (b : Bells) (z : Nat) : Zone := b.zones.getD z Zone.silent

/-- The bells with zone `z` replaced. -/
def Bells.setZone (b : Bells) (z : Nat) (x : Zone) : Bells := { b with zones := b.zones.setIfInBounds z x }

/-! ## Reports and requests (R168, R169) -/

/-- Queueing a report: it joins the newest end, or, with 32 held, it is dropped and REPORTS_DROPPED is set (R169). -/
def StationLink.queue (l : StationLink) (r : Report) : StationLink :=
  if l.reports.length < Config.reportPlaces then { l with reports := l.reports ++ [r] } else { l with dropped := true }

/-- The part with a report queued. -/
def queueReport (r : Report) (s : State) : State := { s with link := s.link.queue r }

/-- A complete frame that arrives while a request is held is discarded and REQUEST_OVERRUN is set (R168). -/
def overrun (s : State) : State := { s with link := { s.link with overrun := true, partialFrame := [] } }

/-- The part holding the request with its decided reply (R168). -/
def hold (kind tag : Nat) (r : Reply) (s : State) : State :=
  { s with link := { s.link with held := some ⟨kind, tag, r⟩, partialFrame := [] } }

/-- Taking a complete frame (R168): not seen unless the part works; discarded with REQUEST_OVERRUN while a request is held;
otherwise the owning block decides it and the request is held with its reply. -/
def serve (kind tag : Nat) (decideRequest : State → State × Reply) (s : State) :
    Host.Outcome State Fault Refusal :=
  if !s.live then .next s
  else if s.link.held.isSome then .next (overrun s)
  else
    let r := decideRequest s
    .next (hold kind tag r.2 r.1)

/-- A reply with a result and no content. -/
def bare (r : Result) : Reply := ⟨r, .nothing⟩

/-- A refusal: the part is left as it was and the reply is the result byte alone. -/
def refuse (r : Result) (s : State) : State × Reply := (s, bare r)

/-- The reply OK with no content. -/
def okay (s : State) : State × Reply := (s, bare .ok)

/-- The reply OK with content. -/
def okayWith (c : Content) (s : State) : State × Reply := (s, ⟨.ok, c⟩)

/-- An event the part takes only while it works (R163, R165). -/
def whileLive (f : State → State) (s : State) : Host.Outcome State Fault Refusal :=
  .next (if s.live then f s else s)

end Sys2Proof.Machine
end

