-- ==== Sys2Proof/Machine/Calendar.lean ====
section
/-! DEFINITION. The Shift Calendar (Section 2): its questions and its requests. -/

namespace Sys2Proof.Machine

/-- The definition a shift code holds, if it is in 1 to 15 and defined. -/
def Calendar.shiftOf (c : Calendar) (code : Nat) : Option ShiftDef :=
  if within 1 code 15 then c.shifts.getD (code - 1) none else none

/-- The open reference count of a code (R21). -/
def Calendar.openRef (c : Calendar) (code : Nat) : Nat := c.openRefs.getD (code - 1) 0

/-- The calendar with the open reference count of a code changed (R21). -/
def Calendar.onRef (c : Calendar) (code : Nat) (f : Nat → Nat) : Calendar :=
  { c with openRefs := c.openRefs.setIfInBounds (code - 1) (f (c.openRef code)) }

/-- The rotation of a crew 1 to 8. -/
def Calendar.rotationOf (c : Calendar) (crew : Nat) : Rotation := c.rotations.getD (crew - 1) Rotation.rest

/-- Index of day D in a rotation: (D - anchor) mod N, non-negative (R24). -/
def Rotation.indexOf (r : Rotation) (day : Nat) : Nat :=
  (((day : Int) - (r.anchor : Int)) % (r.pattern.length : Int)).toNat

/-- The code the rotation gives day D (R24). -/
def Rotation.codeOn (r : Rotation) (day : Nat) : Nat := r.pattern.getD (r.indexOf day) 0

/-- A scheduled window of a crew: {day, code, S, E} (R28). -/
structure Window where
  day : Nat
  code : Nat
  start : Nat
  stop : Nat
  deriving DecidableEq, Repr

/-- S of a definition on day D (R24). -/
def shiftStart (d : ShiftDef) (day : Nat) : Nat := day * 1440 + d.start

/-- E of a definition on day D (R24). -/
def shiftStop (d : ShiftDef) (day : Nat) : Nat := shiftStart d day + d.length

/-- The shift a crew works on day D: none when it rests, by code 0 or by an undefined code (R24). -/
def Calendar.shiftOn (c : Calendar) (crew day : Nat) : Option (Nat × ShiftDef) :=
  let code := (c.rotationOf crew).codeOn day
  (c.shiftOf code).map fun d => (code, d)

/-- The candidate of day D for an entry at minute `t`, when it qualifies: S - We ≤ t < E (R28). -/
def Calendar.candidate (c : Calendar) (crew t day : Nat) : Option Window :=
  match c.shiftOn crew day with
  | none => none
  | some (code, d) =>
    let w : Window := ⟨day, code, shiftStart d day, shiftStop d day⟩
    if w.start ≤ t + d.entryWindow && t < w.stop then some w else none

/-- The days whose shifts are candidates for an entry on day D: D - 1, D and D + 1, without crossing the day wrap (R28). -/
def candidateDays (day : Nat) : List Nat :=
  (if day = 0 then [] else [day - 1]) ++ [day] ++ (if day = 65535 then [] else [day + 1])

/-- Distance of `t` from S. -/
def Window.distance (w : Window) (t : Nat) : Nat := (w.start - t) + (t - w.start)

/-- Of two qualifying windows the one with its start nearest `t`, and of two equally near the earlier (R29). -/
def nearerWindow (t : Nat) (a b : Window) : Window :=
  if a.distance t < b.distance t then a
  else if b.distance t < a.distance t then b
  else if b.start < a.start then b else a

/-- The choice among the qualifying candidates (R29). -/
def chooseWindow (t : Nat) : List Window → Option Window
  | [] => none
  | w :: rest => some (rest.foldl (nearerWindow t) w)

/-- Matching: the window that claims an entry at plant minute `t` by a worker of the crew, or none (R28, R29). -/
def Calendar.matchEntry (c : Calendar) (crew : Option Nat) (t : Nat) : Option Window :=
  match crew with
  | none => none
  | some k => chooseWindow t ((candidateDays (t / 1440)).filterMap (c.candidate k t))

/-- Is minute of day `m` a night minute (R26)? -/
def isNight (p : TallyParams) (m : Nat) : Bool :=
  if p.nightStart < p.nightEnd then p.nightStart ≤ m && m < p.nightEnd
  else if p.nightEnd < p.nightStart then p.nightStart ≤ m || m < p.nightEnd
  else false

/-- SHIFT_DEFINE (R18, R19). -/
def execShiftDefine (tag code : Nat) (fields : ShiftDef) (s : State) : Host.Outcome State Fault Refusal :=
  serve 0x10 tag (fun s =>
    if !(within 1 code 15 && shiftDefValid fields) then refuse .badValue s
    else if s.calendar.openRef code ≠ 0 then refuse .inUse s
    else okay { s with calendar := { s.calendar with
      shifts := s.calendar.shifts.setIfInBounds (code - 1) (some { fields with breaks := sortBreaks fields.breaks }) } }) s

/-- SHIFT_DELETE (R20). -/
def execShiftDelete (tag code : Nat) (s : State) : Host.Outcome State Fault Refusal :=
  serve 0x11 tag (fun s =>
    if !within 1 code 15 then refuse .badValue s
    else if (s.calendar.shiftOf code).isNone then refuse .notFound s
    else if s.calendar.openRef code ≠ 0 then refuse .inUse s
    else okay { s with calendar := { s.calendar with shifts := s.calendar.shifts.setIfInBounds (code - 1) none } }) s

/-- CREW_DEFINE (R23). -/
def execCrewDefine (tag crew n anchor : Nat) (pattern : List Nat) (s : State) : Host.Outcome State Fault Refusal :=
  serve 0x12 tag (fun s =>
    if !crewDefineValid crew n anchor pattern then refuse .badValue s
    else okay { s with calendar := { s.calendar with
      rotations := s.calendar.rotations.setIfInBounds (crew - 1) ⟨anchor, pattern⟩ } }) s

/-- TALLY_CONFIG (R25). -/
def execTallyConfig (tag : Nat) (params : TallyParams) (s : State) : Host.Outcome State Fault Refusal :=
  serve 0x13 tag (fun s =>
    if !tallyParamsValid params then refuse .badValue s
    else okay { s with calendar := { s.calendar with tally := params } }) s

/-- RATE_SET (R27). -/
def execRateSet (tag : Nat) (rates : List GradeRate) (s : State) : Host.Outcome State Fault Refusal :=
  serve 0x14 tag (fun s =>
    if !ratesValid rates then refuse .badValue s
    else okay { s with calendar := { s.calendar with
      rates := rates.foldl (fun v r => v.setIfInBounds r.grade r.rate) s.calendar.rates } }) s

/-- CALENDAR_READ, selector SHIFT (R30). -/
def execCalendarReadShift (tag code : Nat) (s : State) : Host.Outcome State Fault Refusal :=
  serve 0x15 tag (fun s =>
    if !within 1 code 15 then refuse .badValue s
    else match s.calendar.shiftOf code with
      | none => refuse .notFound s
      | some d => okayWith (.shift d (s.calendar.openRef code)) s) s

/-- CALENDAR_READ, selector CREW (R30). -/
def execCalendarReadCrew (tag crew : Nat) (s : State) : Host.Outcome State Fault Refusal :=
  serve 0x15 tag (fun s =>
    if !within 1 crew 8 then refuse .badValue s else okayWith (.crew (s.calendar.rotationOf crew)) s) s

/-- The DAY answer: the index and code of R24, the mark, and for WORKING the S and E of the window (R30). -/
def Calendar.dayReading (c : Calendar) (crew day : Nat) : Content :=
  let r := c.rotationOf crew
  let code := r.codeOn day
  if code = 0 then .day (r.indexOf day) code .resting none
  else match c.shiftOf code with
    | none => .day (r.indexOf day) code .undefinedCode none
    | some d => .day (r.indexOf day) code .working (some (shiftStart d day, shiftStop d day))

/-- CALENDAR_READ, selector DAY (R30). -/
def execCalendarReadDay (tag crew day : Nat) (s : State) : Host.Outcome State Fault Refusal :=
  serve 0x15 tag (fun s =>
    if !(within 1 crew 8 && within 0 day 65535) then refuse .badValue s
    else okayWith (s.calendar.dayReading crew day) s) s

/-- CALENDAR_READ, selector TALLY (R30). -/
def execCalendarReadTally (tag : Nat) (s : State) : Host.Outcome State Fault Refusal :=
  serve 0x15 tag (fun s => okayWith (.tally s.calendar.tally) s) s

/-- CALENDAR_READ, selector RATES (R30). -/
def execCalendarReadRates (tag : Nat) (s : State) : Host.Outcome State Fault Refusal :=
  serve 0x15 tag (fun s => okayWith (.rates s.calendar.rates.toList) s) s

end Sys2Proof.Machine
end

