-- ==== Sys2Proof/Machine/Bells.lean ====
section
/-! DEFINITION. The Bell Controller (Section 10). -/

namespace Sys2Proof.Machine

/-! ## Cadences and zones (R154, R158) -/

/-- The fixed evacuation cadence 0: ON 10, OFF 10 (R154). -/
def evacuationSteps : List CadenceStep := [⟨true, 10⟩, ⟨false, 10⟩]

/-- Cadence c of 1 to 7 as it stands; none when it is empty (R153). -/
def Bells.cadenceOf (b : Bells) (c : Nat) : Option Cadence :=
  if within 1 c 7 then b.cadences.getD (c - 1) none else none

/-- What a zone holds when it starts a cadence: the steps copied, the first step's duration loaded; none for an empty cadence,
which completes at once (R154). -/
def Bells.startSounding (b : Bells) (c : Nat) (cls : BellClass) : Option Sounding :=
  if c = 0 then some ⟨0, cls, evacuationSteps, none, 0, 1, 10⟩
  else match b.cadenceOf c with
    | none => none
    | some d => d.steps.head?.map fun first => ⟨c, cls, d.steps, some d.repeats, 0, 1, first.tenths⟩

/-- The zone takes up its pending queue: the first entry starts, an empty cadence completing at the same event; with no entry
left the zone is SILENT (R154, R158). -/
def Bells.takeUpQueue (b : Bells) : List QueuedBell → Zone
  | [] => Zone.silent
  | q :: rest =>
    match b.startSounding q.cadence q.cls with
    | some x => ⟨some x, rest⟩
    | none => Bells.takeUpQueue b rest

/-- The zone with a cadence started; the queue is not changed unless the cadence is empty, when it is taken up. -/
def Bells.startIn (b : Bells) (c : Nat) (cls : BellClass) (queue : List QueuedBell) : Zone :=
  match b.startSounding c cls with
  | some x => ⟨some x, queue⟩
  | none => b.takeUpQueue queue

/-- Rank of a class, the highest first (R158). -/
def BellClass.rank : BellClass → Nat
  | .evacuation => 3
  | .manual => 2
  | .shift => 1
  | .fixed => 0

/-- Joining the queue after every entry of equal or higher class and before every entry of lower class (R158). -/
def joinQueue (q : QueuedBell) : List QueuedBell → List QueuedBell
  | [] => [q]
  | x :: rest => if q.cls.rank ≤ x.cls.rank then x :: joinQueue q rest else q :: x :: rest

/-- Queueing a submission in a zone that goes on sounding (R158). -/
def queueBell (z : Zone) (q : QueuedBell) : Zone × BellOutcome :=
  if z.queue.length < Config.zonePlaces then ({ z with queue := joinQueue q z.queue }, .queued)
  else match z.queue.getLast? with
    | some last =>
      if last.cls.rank < q.cls.rank then ({ z with queue := joinQueue q z.queue.dropLast }, .queued) else (z, .dropped)
    | none => (z, .dropped)

/-- A zone's decision on one submission (R158). -/
def Bells.submitTo (b : Bells) (z : Zone) (c : Nat) (cls : BellClass) : Zone × BellOutcome :=
  match z.sounding with
  | none => (b.startIn c cls z.queue, .started)
  | some x => if x.cls.rank < cls.rank then (b.startIn c cls z.queue, .preempted) else queueBell z ⟨c, cls⟩

/-- The bells after a submission to zone `z`. -/
def Bells.submit (b : Bells) (z c : Nat) (cls : BellClass) : Bells := b.setZone z (b.submitTo (b.zoneAt z) c cls).1

/-- Is the zone sounding evacuation? -/
def Zone.evacuating (z : Zone) : Bool :=
  match z.sounding with
  | some x => x.cls == .evacuation
  | none => false

/-- The step in hand of a sounding zone. -/
def Sounding.step (x : Sounding) : Option CadenceStep := x.steps[x.index]?

/-- A sounding zone moves on when its downcounter has reached 0: next step, next repeat, or completion (R154). -/
def Bells.moveOn (b : Bells) (x : Sounding) (queue : List QueuedBell) : Zone :=
  match x.steps[x.index + 1]?, x.steps.head? with
  | some next, _ => ⟨some { x with index := x.index + 1, down := next.tenths }, queue⟩
  | none, some first =>
    match x.repeats with
    | none => ⟨some { x with index := 0, down := first.tenths }, queue⟩
    | some r =>
      if x.repeatNo < r then ⟨some { x with index := 0, repeatNo := x.repeatNo + 1, down := first.tenths }, queue⟩
      else b.takeUpQueue queue
  | none, none => b.takeUpQueue queue

/-- The zone's step downcounter decreased by one tenth tick; at 0 its end waits to be taken (R154, log 3). -/
def Zone.tick (z : Zone) : Zone :=
  match z.sounding with
  | some x => { z with sounding := some { x with down := x.down - 1 } }
  | none => z

/-! ## The due check (R156) -/

/-- Does a fixed entry fall due at plant minute `m` in zone `z` with cadence `c`? -/
def fixedDue (m z c : Nat) (e : FixedBell) : Bool :=
  e.minute == m % 1440 && inMask e.days (dayOfWeek (m / 1440)) && inMask e.zones z && e.cadence == c

/-- Is `m` a bell minute of the definition worked on day D (R156)? -/
def bellMinute (d : ShiftDef) (day m : Nat) : Bool :=
  (inMask d.bellFlags 0 && shiftStart d day == m + d.warnLead)
    || (inMask d.bellFlags 1 && shiftStart d day == m)
    || (inMask d.bellFlags 2 && d.breaks.any fun b =>
        shiftStart d day + b.offset == m || shiftStart d day + b.offset + b.length == m)
    || (inMask d.bellFlags 3 && shiftStop d day == m)

/-- The days whose shifts' bells are considered at a minute of day D: D - 1 and D (R156). -/
def bellDays (day : Nat) : List Nat := if day = 0 then [0] else [day - 1, day]

/-- Does a shift bell of cadence `c` fall due in zone `z` at plant minute `m`? -/
def Calendar.shiftBellDue (cal : Calendar) (m z c : Nat) : Bool :=
  (List.range 8).any fun i => (bellDays (m / 1440)).any fun day =>
    match cal.shiftOn (i + 1) day with
    | some (_, d) => bellMinute d day m && inMask d.zoneMask z && d.cadence == c
    | none => false

/-- Does a fixed bell of cadence `c` fall due in zone `z` at plant minute `m`? -/
def Bells.fixedBellDue (b : Bells) (m z c : Nat) : Bool :=
  b.fixed.toList.any fun slot => match slot with
    | some e => fixedDue m z c e
    | none => false

/-- The submissions to zone `z` at plant minute `m`: one for each distinct cadence, with class SHIFT where a shift gives it;
in descending order of class and then ascending order of cadence (R156). -/
def Bells.dueIn (b : Bells) (cal : Calendar) (m z : Nat) : List QueuedBell :=
  let cadences := [1, 2, 3, 4, 5, 6, 7]
  (cadences.filter (cal.shiftBellDue m z)).map (fun c => ⟨c, .shift⟩)
    ++ (cadences.filter fun c => b.fixedBellDue m z c && !cal.shiftBellDue m z c).map (fun c => ⟨c, .fixed⟩)

/-- One zone's submissions, each arbitrated before the next is made (R156). -/
def Bells.submitAll (z : Nat) (due : List QueuedBell) (b : Bells) : Bells :=
  due.foldl (fun b q => b.submit z q.cadence q.cls) b

/-- The due check of a minute event (R156): nothing unless the event carries SET and its minute is above the mark. -/
def Bells.dueCheck (cal : Calendar) (validity : Validity) (m : Nat) (b : Bells) : Bells :=
  if validity = .set ∧ b.highWater < m then
    let b := { b with highWater := m }
    [0, 1, 2, 3].foldl (fun acc z => acc.submitAll z (b.dueIn cal m z)) b
  else b

/-- The high-water mark raised to a minute above it, and left otherwise (R157). -/
def Bells.raiseMark (m : Nat) (b : Bells) : Bells := if b.highWater < m then { b with highWater := m } else b

/-! ## Evacuation (R159) -/

/-- Evacuation submitted to each zone of a mask, in ascending order. -/
def Bells.evacuate (mask : Nat) (b : Bells) : Bells :=
  (maskMembers mask 4).foldl (fun b z => b.submit z 0 .evacuation) b

/-- Fire TAKEN: evacuation in every zone of the fire mask (R159). -/
def Bells.onFireTaken (b : Bells) : Bells := b.evacuate b.fireMask

/-- Fire CLEAR: every zone that sounds evacuation becomes SILENT with an empty queue (R159). -/
def Bells.onFireCleared (b : Bells) : Bells :=
  { b with zones := mapUnits (fun _ z => if z.evacuating then Zone.silent else z) b.zones }

/-! ## Requests and events -/

/-- CADENCE_DEFINE (R153). -/
def execCadenceDefine (tag cadence : Nat) (steps : List StepFields) (repeats : Nat) (s : State) :
    Host.Outcome State Fault Refusal :=
  serve 0x58 tag (fun s =>
    match cadenceStepsOf steps with
    | none => refuse .badValue s
    | some list =>
      if !(within 1 cadence 7 && within 1 list.length 8 && within 1 repeats 15) then refuse .badValue s
      else okay { s with bells := { s.bells with
        cadences := s.bells.cadences.setIfInBounds (cadence - 1) (some ⟨list, repeats⟩) } }) s

/-- BELL_ENTRY, action PUT (R155). -/
def execBellEntryPut (tag slot minute days zones cadence : Nat) (s : State) : Host.Outcome State Fault Refusal :=
  serve 0x59 tag (fun s =>
    if !(within 0 slot 31 && within 0 minute 1439 && within 0 days 127 && within 0 zones 15 && within 1 cadence 7) then
      refuse .badValue s
    else okay { s with bells := { s.bells with
      fixed := s.bells.fixed.setIfInBounds slot (some ⟨minute, days, zones, cadence⟩) } }) s

/-- BELL_ENTRY, action REMOVE (R155). -/
def execBellEntryRemove (tag slot : Nat) (s : State) : Host.Outcome State Fault Refusal :=
  serve 0x59 tag (fun s =>
    if !within 0 slot 31 then refuse .badValue s
    else if (s.bells.fixed.getD slot none).isNone then refuse .notFound s
    else okay { s with bells := { s.bells with fixed := s.bells.fixed.setIfInBounds slot none } }) s

/-- ZONE_CONFIG (R159): while fire is taken, each zone added to the mask that is not sounding evacuation is submitted it. -/
def execZoneConfig (tag mask : Nat) (s : State) : Host.Outcome State Fault Refusal :=
  serve 0x5A tag (fun s =>
    if !within 0 mask 15 then refuse .badValue s
    else
      let old := s.bells.fireMask
      let b := { s.bells with fireMask := mask }
      let added := (maskMembers mask 4).filter fun z => !inMask old z && !(b.zoneAt z).evacuating
      okay { s with bells := if s.fire then added.foldl (fun b z => b.submit z 0 .evacuation) b else b }) s

/-- BELL_MANUAL in each zone of a list, with the outcomes. -/
def Bells.submitManual (cadence : Nat) : List Nat → Bells → Bells × List ZoneOutcome
  | [], b => (b, [])
  | z :: rest, b =>
    let r := b.submitTo (b.zoneAt z) cadence .manual
    let later := Bells.submitManual cadence rest (b.setZone z r.1)
    (later.1, ⟨z, r.2⟩ :: later.2)

/-- BELL_MANUAL (R160). -/
def execBellManual (tag mask cadence : Nat) (s : State) : Host.Outcome State Fault Refusal :=
  serve 0x5B tag (fun s =>
    if !(within 1 cadence 7 && within 0 mask 15) then refuse .badValue s
    else
      let r := s.bells.submitManual cadence (maskMembers mask 4)
      okayWith (.outcomes r.2) { s with bells := r.1 }) s

/-- BELL_SILENCE (R160). -/
def execBellSilence (tag mask : Nat) (s : State) : Host.Outcome State Fault Refusal :=
  serve 0x5C tag (fun s =>
    if !within 0 mask 15 then refuse .badValue s
    else
      let silenced := (maskMembers mask 4).filter fun z => !(s.bells.zoneAt z).evacuating
      okayWith (.silenced silenced) { s with bells := { s.bells with
        zones := mapUnits (fun z x => if silenced.contains z then Zone.silent else x) s.bells.zones } }) s

/-- BELL_READ (R161). -/
def execBellRead (tag : Nat) (s : State) : Host.Outcome State Fault Refusal :=
  serve 0x5D tag (fun s =>
    okayWith (.bells ⟨s.bells.cadences.toList, s.bells.fixed.toList, s.bells.fireMask, s.bells.highWater,
      s.bells.zones.toList⟩) s) s

/-- The tenth tick's work in the zones (R154). -/
def tenthTick (s : State) : State :=
  if s.live then { s with bells := { s.bells with zones := mapUnits (fun _ z => z.tick) s.bells.zones } } else s

/-- TENTH_TICK (R154): the crystal's tick, whose divider begins its next count, in every state of the part (DESIGN CHOICE, logs 1 and
30). -/
def execTenthTick (s : State) : Host.Outcome State Fault Refusal :=
  .next (tenthTick { s with bells := { s.bells with tickElapsed := 0, tickPlace := (s.bells.tickPlace + 1) % 10 } })

/-- CADENCE_STEP_ENDED (R154): taken when the zone's downcounter has reached 0. -/
def execCadenceStepEnded (zone : Fin 4) (s : State) : Host.Outcome State Fault Refusal :=
  whileLive (fun s =>
    let z := s.bells.zoneAt zone
    match z.sounding with
    | some x => if x.down = 0 then { s with bells := s.bells.setZone zone (s.bells.moveOn x z.queue) } else s
    | none => s) s

end Sys2Proof.Machine
end

