-- ==== Sys2Proof/Machine/Journal.lean ====
section
/-! DEFINITION. The Punch Journal (Section 7): claims, writings, limits, reading and releasing. -/

namespace Sys2Proof.Machine

/-- The held count (R117). -/
def Journal.held (j : Journal) : Nat := j.entries.length

/-- The held count plus the reserved count (R121). -/
def Journal.sum (j : Journal) : Nat := j.held + j.reserved

/-- Room for an entry punch or a refusal: the sum is below the entry limit (R87, R89, R121). -/
def Journal.entryRoom (j : Journal) : Bool := j.sum < Config.entryLimit

/-- Room for an exit: the sum is below the ring's places (R83, R87, R121). -/
def Journal.exitRoom (j : Journal) : Bool := j.sum < Config.ringPlaces

/-- The journal with an entry written at its newest end under the next entry number (R119, R120). -/
def Journal.write (j : Journal) (e : JournalEntry) : Journal :=
  { j with entries := j.entries ++ [{ e with number := j.nextNumber }], nextNumber := (j.nextNumber + 1) % 65536 }

/-- The limit detector after an event that raised the sum by one (R122). -/
def noteLimit (s : State) : State :=
  if s.journal.sum = Config.entryLimit then
    queueReport (.journalLimit .entryLimit s.journal.held s.journal.reserved s.plantSecond) s
  else if s.journal.sum = Config.ringPlaces then
    queueReport (.journalLimit .full s.journal.held s.journal.reserved s.plantSecond) s
  else s

/-- A claim: the reserved count rises by one (R120, R122). -/
def journalClaim (s : State) : State :=
  noteLimit { s with journal := { s.journal with reserved := s.journal.reserved + 1 } }

/-- A direct write: an entry without a claim (R120, R122). -/
def journalDirect (e : JournalEntry) (s : State) : State :=
  noteLimit { s with journal := s.journal.write e }

/-- A claimed write: the entry joins the list and its claim is given up (R120). -/
def journalClaimed (e : JournalEntry) (s : State) : State :=
  { s with journal := { s.journal.write e with reserved := s.journal.reserved - 1 } }

/-- JOURNAL_READ (R123). -/
def execJournalRead (tag k : Nat) (s : State) : Host.Outcome State Fault Refusal :=
  serve 0x48 tag (fun s =>
    if !within 1 k 16 then refuse .badValue s
    else okayWith (.journal s.journal.held s.journal.reserved s.journal.nextNumber (s.journal.entries.take k)) s) s

/-- What every JOURNAL_RELEASE reply carries (R124, log 8). -/
def Journal.counts (j : Journal) : Content := .journalCounts j.held j.reserved (j.entries.head?.map (·.number))

/-- JOURNAL_RELEASE (R124). -/
def execJournalRelease (tag n expected : Nat) (s : State) : Host.Outcome State Fault Refusal :=
  serve 0x49 tag (fun s =>
    if !(within 1 n 2048 && within 0 expected 65535) then (s, ⟨.badValue, s.journal.counts⟩)
    else if s.journal.held < n then (s, ⟨.badValue, s.journal.counts⟩)
    else if (s.journal.entries.head?.map (·.number)) ≠ some expected then (s, ⟨.notFound, s.journal.counts⟩)
    else
      let j := { s.journal with entries := s.journal.entries.drop n }
      ({ s with journal := j }, ⟨.ok, j.counts⟩)) s

end Sys2Proof.Machine
end

