-- ==== Sys2Proof/Machine/Layout.lean ====
section
/-! DEFINITION. The byte layouts of Section 12: the check codes, the fields of R173, the tables 12.4 to 12.6, the station link
frame of R167, and the body lengths against which R168 checks a request. -/

namespace Sys2Proof.Machine

/-! ## Check codes (R59, R167) -/

/-- One bit into the CRC16 register: polynomial x^16 + x^12 + x^5 + 1, most significant bit first (R59). -/
def crcBit (crc : BitVec 16) (bit : Bool) : BitVec 16 :=
  let shifted := crc <<< 1
  if crc.msb != bit then shifted ^^^ 0x1021#16 else shifted

/-- The eight bits of a byte, most significant first. -/
def byteBits (b : Byte) : List Bool := (List.range 8).map fun i => b.getMsbD i

/-- CRC16 of a byte list: register at all ones, remainder not inverted (R59). -/
def crc16 (bytes : List Byte) : BitVec 16 := (bytes.flatMap byteBits).foldl crcBit 0xFFFF#16

/-- The CRC16 as two bytes, high byte first. -/
def crcBytes (bytes : List Byte) : List Byte :=
  let c := crc16 bytes
  [c.extractLsb' 8 8, c.extractLsb' 0 8]

/-- The sum of a byte list modulo 256. -/
def byteSum (bytes : List Byte) : Byte := bytes.foldl (· + ·) 0

/-- The SUM8 byte: the covered bytes and it sum to 0 modulo 256 (R59). -/
def sum8 (bytes : List Byte) : Byte := - byteSum bytes

/-- The check of a loop frame over its covered bytes (R59). -/
def loopCheck : CheckKind → List Byte → List Byte
  | .sum8, bytes => [sum8 bytes]
  | .crc16, bytes => crcBytes bytes

end Sys2Proof.Machine

namespace Sys2Proof.Machine.Layout

/-! ## Fields (R173) -/

/-- A number in `n` bytes, high byte first. -/
def num : Nat → Nat → List Byte
  | 0, _ => []
  | n + 1, v => BitVec.ofNat 8 (v / 256 ^ n) :: num n v

/-- A number of a range that includes negative numbers, in one byte of two's complement. -/
def signed (v : Int) : List Byte := [BitVec.ofInt 8 v]

/-- A flag. -/
def flag (b : Bool) : List Byte := num 1 (if b then 1 else 0)

/-- A subset of a listed collection of at most eight members, the first in the least significant bit. -/
def subset (members : List Bool) : List Byte :=
  num 1 (members.foldr (fun b acc => 2 * acc + (if b then 1 else 0)) 0)

/-- An optional field: a presence byte, then the field when present. -/
def opt {α : Type} (f : α → List Byte) : Option α → List Byte
  | none => num 1 0
  | some x => num 1 1 ++ f x

/-- A list: a count byte, then the members in order. -/
def list {α : Type} (f : α → List Byte) (l : List α) : List Byte := num 1 l.length ++ l.flatMap f

/-! ## Values of the named lists, numbered from 0 as the manual first lists them (R173, log 17) -/

/-- UNSET, SET. -/
def validity : Validity → Nat
  | .unset => 0
  | .set => 1

/-- OFF, SEARCH, LOCKED, HOLDOVER. -/
def followerState : FollowerState → Nat
  | .off => 0
  | .search => 1
  | .locked => 2
  | .holdover => 3

/-- none, MIA, MIB. -/
def lastLine : Option MasterLine → Nat
  | none => 0
  | some .mia => 1
  | some .mib => 2

/-- NONE, HOLD, HOLDING, OMIT. -/
def mark : Mark → Nat
  | .none => 0
  | .hold => 1
  | .holding => 2
  | .omit => 3

/-- RESTING, UNDEFINED, WORKING. -/
def dayMark : DayMark → Nat
  | .resting => 0
  | .undefinedCode => 1
  | .working => 2

/-- ACTIVE, SUSPENDED. -/
def workerStatus : WorkerStatus → Nat
  | .active => 0
  | .suspended => 1

/-- IN, OUT, UNKNOWN. -/
def presence : Presence → Nat
  | .inside => 0
  | .outside => 1
  | .unknown => 2

/-- IN, OUT. -/
def direction : Direction → Nat
  | .inward => 0
  | .outward => 1

/-- CURRENT, CLOSING. -/
def bankTag : BankTag → Nat
  | .current => 0
  | .closing => 1

/-- 9,600, 19,200, 38,400: a named list, where the rounding unit of a shift is sent as a number (DESIGN CHOICE, log 27). -/
def bitRate : BitRate → Nat
  | .b9600 => 0
  | .b19200 => 1
  | .b38400 => 2

/-- BIPHASE_MARK, BIPHASE_SPACE. -/
def coding : Coding → Nat
  | .biphaseMark => 0
  | .biphaseSpace => 1

/-- SUM8, CRC16. -/
def checkKind : CheckKind → Nat
  | .sum8 => 0
  | .crc16 => 1

/-- OFF, TESTING, TRAINING, UP, LOST. -/
def loopMode : LoopMode → Nat
  | .off => 0
  | .testing => 1
  | .training => 2
  | .up => 3
  | .lost => 4

/-- TURNSTILE, HINGED. -/
def gateKind : GateKind → Nat
  | .turnstile => 0
  | .hinged => 1

/-- HARD, SOFT, OFF. -/
def passbackMode : PassbackMode → Nat
  | .hard => 0
  | .soft => 1
  | .off => 2

/-- LOCKED, EXIT_FREE, FREE. -/
def cutOffPolicy : CutOffPolicy → Nat
  | .locked => 0
  | .exitFree => 1
  | .free => 2

/-- NORMAL, FREE, LOCKDOWN. -/
def controlMode : ControlMode → Nat
  | .normal => 0
  | .free => 1
  | .lockdown => 2

/-- PUNCH, HOST, UNTRACKED. -/
def releaseCause : ReleaseCause → Nat
  | .punch => 0
  | .host => 1
  | .untracked => 2

/-- IDLE, ARMED, FREE, LOCKED, RELEASED, OPEN, HELD, FORCED: the two rows of Table 6.1 as one list with one FREE (DESIGN CHOICE,
log 27). -/
def gateState : GateState → Nat
  | .idle => 0
  | .armed => 1
  | .free => 2
  | .locked => 3
  | .released => 4
  | .opened => 5
  | .held => 6
  | .forced => 7

/-- FREE, PENDING, READY, DRAINED. -/
def bankState : BankState → Nat
  | .free => 0
  | .pending => 1
  | .ready => 2
  | .drained => 3

/-- EVACUATION, MANUAL, SHIFT, FIXED. -/
def bellClass : BellClass → Nat
  | .evacuation => 0
  | .manual => 1
  | .shift => 2
  | .fixed => 3

/-- STARTED, PREEMPTED, QUEUED, DROPPED. -/
def bellOutcome : BellOutcome → Nat
  | .started => 0
  | .preempted => 1
  | .queued => 2
  | .dropped => 3

/-- WARM, COLD, in the order of R166, where the Introduction speaks of the cold start first (DESIGN CHOICE, log 27). -/
def startKind : StartKind → Nat
  | .warm => 0
  | .cold => 1

/-- SUPPLY, RESETn, RESTART, FACTORY_CLEAR, FIRST_POWER. -/
def startCause : StartCause → Nat
  | .supply => 0
  | .resetn => 1
  | .restart => 2
  | .factoryClear => 3
  | .firstPower => 4

/-- ENABLE, DISABLE, ALIGN, WIDE, MISS, CLOCK_SET. -/
def clockCause : ClockCause → Nat
  | .enable => 0
  | .disable => 1
  | .align => 2
  | .wide => 3
  | .miss => 4
  | .clockSet => 5

/-- START, TEST, TRAINED, LOSS, REGAINED, TEST_END, STOP. -/
def loopCause : LoopCause → Nat
  | .start => 0
  | .test => 1
  | .trained => 2
  | .loss => 3
  | .regained => 4
  | .testEnd => 5
  | .stop => 6

/-- FAULT, PRESENT, ABSENT. -/
def readerCause : ReaderCause → Nat
  | .fault => 0
  | .present => 1
  | .absent => 2

/-- FORCED, HELD. -/
def alarm : Alarm → Nat
  | .forced => 0
  | .held => 1

/-- RAISED, CLEARED. -/
def alarmPhase : AlarmPhase → Nat
  | .raised => 0
  | .cleared => 1

/-- ENTRY_LIMIT, FULL. -/
def limitLevel : LimitLevel → Nat
  | .entryLimit => 0
  | .full => 1

/-- TAKEN, CLEAR. -/
def fireState (taken : Bool) : Nat := if taken then 0 else 1

/-- Values of Table 12.2. -/
def result : Result → Nat
  | .ok => 0x00
  | .unknownKind => 0x01
  | .badValue => 0x02
  | .state => 0x03
  | .busy => 0x04
  | .notFound => 0x05
  | .tableFull => 0x06
  | .inUse => 0x07
  | .totalsPending => 0x08
  | .notReady => 0x09
  | .notDrained => 0x0A

/-- The refusals run from UNKNOWN_BADGE 0x10 to JOURNAL_FULL 0x19 (Section 12.7). -/
def denial : Denial → Nat
  | .unknownBadge => 0x10
  | .clockUnset => 0x11
  | .evacuation => 0x12
  | .gateLockdown => 0x13
  | .suspended => 0x14
  | .expired => 0x15
  | .gateDenied => 0x16
  | .outOfWindow => 0x17
  | .passback => 0x18
  | .journalFull => 0x19

/-- Verdict codes (Section 12.7). -/
def verdictCode : VerdictCode → Nat
  | .accept => 0x01
  | .releaseUntimed => 0x02
  | .wait => 0x03
  | .denied r => denial r

/-! ## Records and readings -/

/-- An anomaly set (Section 12.7): MISSED_OUT 1 to SOFT_PASSBACK 128. -/
def anomalySet (s : AnomalySet) : List Byte :=
  subset [s.missedOut, s.orphanOut, s.unscheduled, s.segmentLimit, s.timeStepped, s.unrecordedExit, s.saturated, s.softPassback]

/-- Table 3.3. -/
def bank (b : Bank) : List Byte :=
  num 2 b.regular ++ num 2 b.overtime ++ num 2 b.night ++ num 4 b.pay ++ num 1 b.count ++ opt (num 1) b.crew ++ anomalySet b.anomalies

/-- Table 3.2; the shift code and E, which only a SCHEDULED attendance has, are optional fields (log 17). -/
def attendance (a : Attendance) : List Byte :=
  let head := match a.kind with
    | .scheduled code stop => num 1 0 ++ opt (num 1) (some code) ++ num 4 a.start ++ opt (num 4) (some stop)
    | .unscheduled => num 1 1 ++ opt (num 1) none ++ num 4 a.start ++ opt (num 4) none
  head ++ num 1 (bankTag a.tag) ++ opt (num 1) a.crew
    ++ list (fun (g : Segment) => num 4 g.inMinute ++ opt (num 4) g.outMinute) a.segments

/-- Table 3.1; the last punch is one optional field, a pair (R36). -/
def workerRecord (w : WorkerRecord) : List Byte :=
  num 3 w.badge ++ num 1 (workerStatus w.status) ++ opt (num 2) w.validUntil ++ opt (num 1) w.crew ++ num 1 w.grade
    ++ num 2 w.gateMask.toNat ++ flag w.anytime ++ flag w.unschedAuth ++ num 1 (presence w.presence)
    ++ opt (fun (p : LastPunch) => num 5 p.second ++ num 1 p.gate) w.lastPunch ++ opt (num 1) w.pendingGate
    ++ opt attendance w.attendance ++ anomalySet w.pendingSet ++ bank w.current ++ bank w.closing ++ flag w.changed

/-- Table 2.1. The rounding unit, also a value of a fixed set, is sent as the number it is (DESIGN CHOICE, log 27). -/
def shiftDef (d : ShiftDef) : List Byte :=
  num 2 d.start ++ num 2 d.length ++ num 1 d.entryWindow ++ num 1 d.lateGrace ++ num 1 d.leaveGrace ++ num 1 d.unit
    ++ num 1 d.otThreshold ++ num 2 d.otCap ++ num 2 d.closeDelay
    ++ list (fun (b : Break) => num 2 b.offset ++ num 1 b.length) d.breaks
    ++ num 1 d.bellFlags ++ num 1 d.warnLead ++ num 1 d.zoneMask ++ num 1 d.cadence

/-- Table 2.3. The unit is sent as the number it is (DESIGN CHOICE, log 27). -/
def tallyParams (p : TallyParams) : List Byte :=
  num 2 p.nightStart ++ num 2 p.nightEnd ++ num 1 p.otFactor ++ num 1 p.nightFactor ++ num 1 p.unschedUnit
    ++ num 2 p.unschedCap ++ num 2 p.unschedLimit

/-- R15. -/
def clock (r : ClockReading) : List Byte :=
  num 2 r.day ++ num 3 r.second ++ num 1 (validity r.validity) ++ signed r.trim ++ flag r.enable ++ num 1 r.window
    ++ num 1 (followerState r.state) ++ num 1 (lastLine r.lastLine) ++ num 1 (mark r.mark)
    ++ subset [r.miss1, r.miss2, r.wide1, r.wide2] ++ signed r.phase

/-- R76: the configuration of Table 4.2 with its bindings, the states, and then each position in detail (log 17). -/
def loop (r : LoopReading) : List Byte :=
  num 1 (bitRate r.config.rate) ++ num 1 (coding r.config.coding) ++ num 1 (checkKind r.config.check) ++ num 1 r.config.npre
    ++ num 2 r.config.nsync ++ num 1 r.config.window ++ num 1 r.config.nmiss ++ num 1 r.config.dlos ++ num 1 r.config.clos
    ++ list (fun (p : Position) => num 1 p.address ++ num 1 p.gate ++ num 1 (direction p.direction)) r.positions
    ++ num 1 (loopMode r.mode) ++ flag r.intent ++ subset [r.miss1, r.miss2] ++ num 1 r.deadRun ++ num 1 r.validRun
    ++ list (fun (p : Position) => num 1 p.address ++ num 1 p.gate ++ num 1 (direction p.direction) ++ flag p.present
        ++ num 1 p.silence ++ opt (fun (d : DuplicateRecord) => num 1 d.sequence ++ num 1 (verdictCode d.verdict.code)
          ++ num 1 d.verdict.display ++ flag d.verdict.seeOffice) p.duplicate) r.positions

/-- A standing as the subset of {IN, OUT}. -/
def standing : Standing → List Byte
  | .nothing => subset [false, false]
  | .outOnly => subset [false, true]
  | .both => subset [true, true]

/-- R114; the arming and the passage are one optional field each (Table 6.1), and a position is the pair of its loop and its address. The
cut-off is sent as a flag, 1 for yes (DESIGN CHOICE, log 27). -/
def gate (r : GateReading) : List Byte :=
  num 1 (gateKind r.config.kind) ++ num 1 r.config.release ++ num 2 r.config.heldOpen ++ num 1 (passbackMode r.config.passback)
    ++ num 1 (cutOffPolicy r.config.policy) ++ opt (num 1) r.config.partner ++ num 1 (controlMode r.mode)
    ++ num 1 (gateState r.state) ++ standing r.standing ++ flag r.cutOff
    ++ opt (fun (a : Arming) => num 1 (direction a.direction) ++ num 1 (releaseCause a.cause)) r.arming
    ++ opt (num 1) r.releaseTimer ++ opt (fun o => num 1 (if o then 0 else 1)) r.contactOpen ++ opt (num 2) r.heldTimer
    ++ opt (fun (p : Passage) => num 3 p.badge ++ num 1 (direction p.direction) ++ num 5 p.second ++ num 1 p.loop
        ++ num 1 p.address) r.passage
    ++ num 1 (fireState r.fire)

/-- R113. The gate and the second of the last punch have a presence byte each (DESIGN CHOICE, log 27). -/
def musterEntry (m : MusterEntry) : List Byte :=
  num 3 m.badge ++ num 1 (presence m.presence) ++ opt (num 1) m.gate ++ opt (num 5) m.second

/-- Table 12.5. -/
def journalEntry (e : JournalEntry) : List Byte :=
  let outcome := match e.outcome with
    | .passed => 1
    | .voided => 2
    | .fireExit => 3
    | .refused _ => 4
  num 2 e.number ++ num 5 e.second ++ num 3 e.badge ++ num 1 (e.loop * 16 + e.address)
    ++ num 1 (e.gate + (match e.direction with | .inward => 0 | .outward => 128))
    ++ num 1 (outcome + (if e.restartVoid then 128 else 0))
    ++ num 1 (match e.outcome with | .refused r => denial r | _ => 0)
    ++ anomalySet e.anomalies

/-- The seven fields of Table 9.3 in the sizes of Table 12.6. -/
def summary (t : Summary) : List Byte :=
  num 2 t.workers ++ num 4 t.regular ++ num 4 t.overtime ++ num 4 t.night ++ num 6 t.pay ++ num 3 t.count ++ num 2 t.anomalyWorkers

/-- The seven fields of Table 9.3 in the widths that table gives them (log 17). -/
def wideSummary (t : Summary) : List Byte :=
  num 4 t.workers ++ num 4 t.regular ++ num 4 t.overtime ++ num 4 t.night ++ num 6 t.pay ++ num 4 t.count ++ num 4 t.anomalyWorkers

/-- Table 12.6. -/
def streamRecord : StreamRecord → List Byte
  | .periodStart number previous boundary n => num 1 1 ++ num 2 number ++ num 4 previous ++ num 4 boundary ++ num 2 n
  | .crewSummary crew row => num 1 2 ++ num 1 crew ++ summary row
  | .worker badge b =>
    num 1 3 ++ num 3 badge ++ num 1 (b.crew.getD 0) ++ num 2 b.regular ++ num 2 b.overtime ++ num 2 b.night ++ num 4 b.pay
      ++ num 1 b.count ++ anomalySet b.anomalies
  | .periodEnd grand count => num 1 4 ++ summary grand ++ num 2 count

/-- R150. The grand totals, which only READY and DRAINED have, stand under a presence byte (DESIGN CHOICE, log 27). -/
def period (r : PeriodReading) : List Byte :=
  num 1 (bankState r.state) ++ num 2 r.number ++ num 4 r.boundary ++ num 4 r.previous ++ num 2 r.counter
    ++ num 2 r.workerCount ++ num 2 r.cursor ++ opt wideSummary r.grand

/-- A step of a cadence. -/
def cadenceStep (c : CadenceStep) : List Byte := num 1 (if c.on then 0 else 1) ++ num 1 c.tenths

/-- A zone's state and queue (R161). A SILENT zone is its state byte and its queue; its absent fields have no presence bytes (DESIGN
CHOICE, log 27). -/
def zone (z : Zone) : List Byte :=
  (match z.sounding with
    | none => num 1 0
    | some x => num 1 1 ++ num 1 x.cadence ++ num 1 (bellClass x.cls) ++ num 1 x.index ++ num 1 x.repeatNo ++ num 1 x.down)
    ++ list (fun (q : QueuedBell) => num 1 q.cadence ++ num 1 (bellClass q.cls)) z.queue

/-- R161. -/
def bells (r : BellReading) : List Byte :=
  r.cadences.flatMap (opt fun (c : Cadence) => list cadenceStep c.steps ++ num 1 c.repeats)
    ++ r.fixed.flatMap (opt fun (e : FixedBell) => num 2 e.minute ++ num 1 e.days ++ num 1 e.zones ++ num 1 e.cadence)
    ++ num 1 r.fireMask ++ num 4 r.highWater ++ r.zones.flatMap zone

/-- R171. -/
def status (r : StatusReading) : List Byte :=
  num 1 (validity r.validity) ++ num 1 (followerState r.follower) ++ r.loops.flatMap (fun m => num 1 (loopMode m))
    ++ r.gates.flatMap (fun g => num 1 (gateState g.state) ++ num 1 (controlMode g.mode)) ++ num 1 (fireState r.fire)
    ++ num 2 r.held ++ num 1 r.reserved ++ num 1 (bankState r.bank) ++ num 2 r.counter ++ num 1 r.reports
    ++ flag r.overrun ++ flag r.dropped

/-- A report: its kind byte, numbered from 0 in the order of the table of R169, and its fields. In the set of PRESENT positions of a
LOOP_EVENT the collection is the eight addresses, address a the bit a - 1 (DESIGN CHOICE, log 27). -/
def report : Report → List Byte
  | .clockEvent left entered cause second phase =>
    num 1 0 ++ num 1 (followerState left) ++ num 1 (followerState entered) ++ num 1 (clockCause cause) ++ num 5 second ++ signed phase
  | .loopEvent l left entered cause second present =>
    num 1 1 ++ num 1 l ++ num 1 (loopMode left) ++ num 1 (loopMode entered) ++ num 1 (loopCause cause) ++ num 5 second
      ++ subset ((List.range 8).map fun i => present.contains (i + 1))
  | .readerEvent l address cause faultCode second =>
    num 1 2 ++ num 1 l ++ num 1 address ++ num 1 (readerCause cause) ++ num 1 faultCode ++ num 5 second
  | .loopTestDone l k good checkFailed aborted =>
    num 1 3 ++ num 1 l ++ num 1 k ++ num 1 good ++ num 1 checkFailed ++ num 1 aborted
  | .gateAlarm g a phase dir second =>
    num 1 4 ++ num 1 g ++ num 1 (alarm a) ++ num 1 (alarmPhase phase) ++ opt (fun d => num 1 (direction d)) dir ++ num 5 second
  | .fireEvent taken second => num 1 5 ++ num 1 (fireState taken) ++ num 5 second
  | .journalLimit level held reserved second =>
    num 1 6 ++ num 1 (limitLevel level) ++ num 2 held ++ num 1 reserved ++ num 5 second
  | .closeReady number boundary n count second =>
    num 1 7 ++ num 2 number ++ num 4 boundary ++ num 2 n ++ num 2 count ++ num 5 second
  | .start kind cause duration second =>
    num 1 8 ++ num 1 (startKind kind) ++ num 1 (startCause cause) ++ num 4 duration ++ num 5 second

/-- The content of a reply. In the DAY answer of CALENDAR_READ one presence byte stands for the pair S and E; the outcomes of BELL_MANUAL
are a list of zone numbers with their outcomes under its count byte (DESIGN CHOICE, log 27). -/
def content : Content → List Byte
  | .nothing => []
  | .clock r => clock r
  | .shift d n => shiftDef d ++ num 2 n
  | .crew r => num 1 r.pattern.length ++ num 2 r.anchor ++ list (num 1) r.pattern
  | .day index code m window =>
    num 1 index ++ num 1 code ++ num 1 (dayMark m) ++ opt (fun (w : Nat × Nat) => num 4 w.1 ++ num 4 w.2) window
  | .tally p => tallyParams p
  | .rates l => l.flatMap (num 2)
  | .recordCount n => num 2 n
  | .worker w n => workerRecord w ++ num 2 n
  | .workers l more => list workerRecord l ++ flag more
  | .loop r => loop r
  | .gate r => gate r
  | .muster l more => list musterEntry l ++ flag more
  | .journal held reserved next l => num 2 held ++ num 1 reserved ++ num 2 next ++ list journalEntry l
  | .journalCounts held reserved oldest => num 2 held ++ num 1 reserved ++ opt (num 2) oldest
  | .periodClosed boundary number counter state => num 4 boundary ++ num 2 number ++ num 2 counter ++ num 1 (bankState state)
  | .stream first l count state => num 2 first ++ num 2 count ++ num 1 (bankState state) ++ l.flatMap streamRecord
  | .periodReleased number previous => num 2 number ++ num 4 previous
  | .period r => period r
  | .outcomes l => list (fun (z : ZoneOutcome) => num 1 z.zone ++ num 1 (bellOutcome z.outcome)) l
  | .silenced l => subset ((List.range 4).map l.contains)
  | .bells r => bells r
  | .status r => status r
  | .reports l left => list report l ++ num 1 left

/-- The body of a reply: its result byte and its content (R168). -/
def replyBody (r : Reply) : List Byte := num 1 (result r.result) ++ content r.content

/-- A station link frame (R167): start byte, length byte, kind, tag, body, CRC16 over the bytes from the length byte to the
last body byte. A body that no length byte up to 250 can count has no frame (log 18). -/
def stationFrame (kind tag : Nat) (body : List Byte) : Option (List Byte) :=
  if body.length ≤ 248 then
    let covered := num 1 (body.length + 2) ++ num 1 kind ++ num 1 tag ++ body
    some (Config.stationStart :: covered ++ crcBytes covered)
  else none

/-- The reply's kind: the request's kind with its top bit set (R168). -/
def replyKind (kind : Nat) : Nat := kind ||| 0x80

/-- The frame of a held request's reply (R167, R168). -/
def replyFrame (h : HeldRequest) : Option (List Byte) := stationFrame (replyKind h.kind) h.tag (replyBody h.reply)

/-! ## Request bodies (Table 12.3, R168, R173) -/

/-- One part of a request body, as far as its length goes. -/
inductive Part where
  /-- fields of `n` bytes in all -/
  | bytes (n : Nat)
  /-- a list of members of `n` bytes -/
  | counted (n : Nat)
  /-- an optional field of `n` bytes -/
  | optional (n : Nat)
  /-- a selector, order or action byte, with the bytes that follow each of its values -/
  | selected (cases : List (Nat × Nat))
  deriving DecidableEq, Repr

/-- The parts of a request's body by its kind; no kind outside Table 12.3 has any. -/
def requestParts : Nat → Option (List Part)
  | 0x01 => some [.bytes 5]
  | 0x02 => some [.bytes 3]
  | 0x03 => some [.bytes 1]
  | 0x10 => some [.bytes 14, .counted 3, .bytes 4]
  | 0x11 => some [.bytes 1]
  | 0x12 => some [.bytes 4, .counted 1]
  | 0x13 => some [.bytes 11]
  | 0x14 => some [.counted 3]
  | 0x15 => some [.selected [(0, 1), (1, 1), (2, 3), (3, 0), (4, 0)]]
  | 0x20 => some [.bytes 4, .optional 2, .optional 1, .bytes 5]
  | 0x21 => some [.bytes 3]
  | 0x22 => some [.bytes 3]
  | 0x23 => some [.bytes 4]
  | 0x24 => some [.bytes 4]
  | 0x30 => some [.bytes 11, .counted 3]
  | 0x31 => some [.bytes 1]
  | 0x32 => some [.bytes 1]
  | 0x33 => some [.bytes 2]
  | 0x34 => some [.bytes 2]
  | 0x40 => some [.bytes 7, .optional 1]
  | 0x41 => some [.bytes 1, .selected [(0, 0), (1, 0), (2, 0), (3, 1)]]
  | 0x42 => some [.bytes 1]
  | 0x43 => some [.bytes 4]
  | 0x48 => some [.bytes 1]
  | 0x49 => some [.bytes 4]
  | 0x50 => some [.bytes 2]
  | 0x51 => some [.bytes 2]
  | 0x52 => some []
  | 0x53 => some []
  | 0x58 => some [.bytes 1, .counted 2, .bytes 1]
  | 0x59 => some [.bytes 1, .selected [(0, 5), (1, 0)]]
  | 0x5A => some [.bytes 1]
  | 0x5B => some [.bytes 2]
  | 0x5C => some [.bytes 1]
  | 0x5D => some []
  | 0x68 => some []
  | 0x69 => some []
  | 0x70 => some []
  | 0x71 => some [.bytes 1]
  | _ => none

/-- The body less its first `n` bytes, when it has them. -/
def skip (n : Nat) (body : List Byte) : Option (List Byte) := if n ≤ body.length then some (body.drop n) else none

/-- The body less the bytes of one part, when it has them; a presence byte other than 0 counts as present (log 6). -/
def skipPart : Part → List Byte → Option (List Byte)
  | .bytes n, body => skip n body
  | .counted _, [] => none
  | .counted n, c :: rest => skip (c.toNat * n) rest
  | .optional _, [] => none
  | .optional n, p :: rest => if p = 0 then some rest else skip n rest
  | .selected _, [] => none
  | .selected cases, v :: rest => (cases.lookup v.toNat).bind fun n => skip n rest

/-- Has the body exactly the length R173 gives for its own count, presence, action and selector bytes (R168)? -/
def bodyFits : List Part → List Byte → Bool
  | [], body => body.isEmpty
  | p :: rest, body =>
    match skipPart p body with
    | some left => bodyFits rest left
    | none => false

end Sys2Proof.Machine.Layout
end

