-- ==== Sys2Proof/Machine/Tally.lean ====
section
/-! DEFINITION. The Tally Unit (Section 8): minutes and pay of one attendance, and the crediting of a bank. -/

namespace Sys2Proof.Machine

/-- What the tally of one attendance gives: R, OT, N, the pay, and whether it found a reversed span (R130). -/
structure TallyResult where
  regular : Nat
  overtime : Nat
  night : Nat
  pay : Nat
  stepped : Bool
  deriving DecidableEq, Repr

/-- The out minute of a segment; a segment still open counts as ending where it began. -/
def Segment.out (g : Segment) : Nat := g.outMinute.getD g.inMinute

/-- The gaps [outj, inj+1) between consecutive segments (R130). -/
def gaps : List Segment → List (Nat × Nat)
  | a :: b :: rest => (a.out, b.inMinute) :: gaps (b :: rest)
  | _ => []

/-- Does minute `p` lie in the half-open span? A reversed span holds no minute. -/
def inSpan (p : Nat) (span : Nat × Nat) : Bool := span.1 ≤ p && p < span.2

/-- Is there a gap whose return lies before its departure, or a segment whose out lies before its in (R130)? -/
def hasReversedSpan (segments : List Segment) : Bool :=
  (gaps segments).any (fun g => g.2 < g.1) || segments.any (fun g => g.out < g.inMinute)

/-- The number of minutes p in [a, b) for which `f` holds. -/
def countMinutes (a b : Nat) (f : Nat → Bool) : Nat := (List.range (b - a)).countP fun i => f (a + i)

/-- The paid start Ps (R128). -/
def paidStart (d : ShiftDef) (start stop firstIn : Nat) : Nat :=
  if firstIn ≤ start + d.lateGrace then start
  else min stop (start + d.unit * ceilDiv (firstIn - start) d.unit)

/-- Did the worker stay to the end: o at or after E - Go (R129)? -/
def stayedToEnd (d : ShiftDef) (stop out : Nat) : Bool := stop ≤ out + d.leaveGrace

/-- The paid end Pr (R129). -/
def paidEnd (d : ShiftDef) (stop paidFrom out : Nat) : Nat :=
  if stayedToEnd d stop out then stop
  else max paidFrom (stop - d.unit * ceilDiv (stop - out) d.unit)

/-- Is minute `p` paid: in no gap and in no break of the shift (R131)? -/
def paidMinute (d : ShiftDef) (start : Nat) (segments : List Segment) (p : Nat) : Bool :=
  !(gaps segments).any (inSpan p)
    && !d.breaks.any (fun b => inSpan p (start + b.offset, start + b.offset + b.length))

/-- Overtime of a scheduled attendance (R132). -/
def scheduledOvertime (d : ShiftDef) (stop : Nat) (segments : List Segment) (out : Nat) : Nat :=
  let x := countMinutes stop out fun p => !(gaps segments).any (inSpan p)
  if stayedToEnd d stop out && stop < out && d.otThreshold ≤ x then min d.otCap (d.unit * (x / d.unit)) else 0

/-- Pay in hundredths: Q = 8·R·r + OT·r·fot + N·r·fn, rounded half up from hundredths per hour-eighth (R135). -/
def payOf (p : TallyParams) (rate regular overtime night : Nat) : Nat :=
  (8 * regular * rate + overtime * rate * p.otFactor + night * rate * p.nightFactor + 240) / 480

/-- The first in minute of a segment list. -/
def firstIn (segments : List Segment) : Nat := (segments.head?.map (·.inMinute)).getD 0

/-- The final out of a segment list. -/
def finalOut (segments : List Segment) : Nat := (segments.getLast?.map (·.out)).getD 0

/-- Tally of a SCHEDULED attendance (8.2). -/
def tallyScheduled (p : TallyParams) (rate : Nat) (d : ShiftDef) (start stop : Nat) (segments : List Segment) : TallyResult :=
  let ps := paidStart d start stop (firstIn segments)
  let pr := paidEnd d stop ps (finalOut segments)
  let regular := countMinutes ps pr (paidMinute d start segments)
  let night := countMinutes ps pr fun m => paidMinute d start segments m && isNight p (m % 1440)
  let overtime := scheduledOvertime d stop segments (finalOut segments)
  ⟨regular, overtime, night, payOf p rate regular overtime night, hasReversedSpan segments⟩

/-- Tally of an UNSCHEDULED attendance (R134): time inside alone, a reversed span counting zero. -/
def tallyUnscheduled (p : TallyParams) (rate : Nat) (segments : List Segment) : TallyResult :=
  let t := (segments.map fun g => g.out - g.inMinute).sum
  let overtime := min p.unschedCap (p.unschedUnit * (t / p.unschedUnit))
  ⟨0, overtime, 0, payOf p rate 0 overtime 0, segments.any fun g => g.out < g.inMinute⟩

/-- The tally of an attendance at its finalization for a worker of the grade (R126, R127). A code without a definition, which
R20 and R21 exclude while the attendance is open, pays nothing (log 16). -/
def tally (c : Calendar) (grade : Nat) (a : Attendance) : TallyResult :=
  let rate := c.rates.getD grade 0
  match a.kind with
  | .unscheduled => tallyUnscheduled c.tally rate a.segments
  | .scheduled code stop =>
    match c.shiftOf code with
    | some d => tallyScheduled c.tally rate d a.start stop a.segments
    | none => ⟨0, 0, 0, 0, hasReversedSpan a.segments⟩

/-- The bank credited with one tally (R137). -/
def Bank.credit (b : Bank) (t : TallyResult) (crew : Option Nat) : Bank :=
  { b with
    regular := min Config.minutesLimit (b.regular + t.regular)
    overtime := min Config.minutesLimit (b.overtime + t.overtime)
    night := min Config.minutesLimit (b.night + t.night)
    pay := min Config.payLimit (b.pay + t.pay)
    count := min Config.countLimit (b.count + 1)
    crew := b.crew.or crew }

/-- Is the credit cut short in any of its five additions (R138)? -/
def Bank.cutShort (b : Bank) (t : TallyResult) : Bool :=
  Config.minutesLimit < b.regular + t.regular || Config.minutesLimit < b.overtime + t.overtime
    || Config.minutesLimit < b.night + t.night || Config.payLimit < b.pay + t.pay || Config.countLimit < b.count + 1

/-- The record with the attendance tallied and credited to the bank its tag names, TIME_STEPPED and SATURATED raised where the
tally and the credit call for them, and the changed mark set (R126, R130, R137, R138). -/
def creditAttendance (c : Calendar) (a : Attendance) (w : WorkerRecord) : WorkerRecord :=
  let t := tally c w.grade a
  let w := raiseIf t.stepped .timeStepped (some a.tag) w
  let cut := (w.bank a.tag).cutShort t
  let w := { w.onBank a.tag (·.credit t a.crew) with changed := true }
  raiseIf cut .saturated (some a.tag) w

end Sys2Proof.Machine
end

