-- ==== Sys2Proof/Machine/Workers.lean ====
section
/-! DEFINITION. The Worker Table (Section 3): records, finalization, auto-close, large steps, and the worker requests. -/

namespace Sys2Proof.Machine

/-! ## Records -/

/-- The record of a badge (R33). -/
def State.worker (s : State) (badge : Nat) : Option WorkerRecord := s.workers.find? (·.badge == badge)

/-- The table with the record of `w`'s badge replaced by `w`. -/
def replaceWorker (w : WorkerRecord) (ws : List WorkerRecord) : List WorkerRecord :=
  ws.map fun x => if x.badge = w.badge then w else x

/-- The table with a record of a new badge in its place in ascending badge order (R33). -/
def installWorker (w : WorkerRecord) : List WorkerRecord → List WorkerRecord
  | [] => [w]
  | x :: rest => if w.badge < x.badge then w :: x :: rest else x :: installWorker w rest

/-- The part with the record of `w`'s badge replaced by `w`. -/
def setWorker (w : WorkerRecord) (s : State) : State := { s with workers := replaceWorker w s.workers }

/-! ## Attendances -/

/-- Is the attendance's last segment open? -/
def Attendance.isOpen (a : Attendance) : Bool :=
  match a.segments.getLast? with
  | some g => g.outMinute.isNone
  | none => false

/-- The attendance with its last segment replaced. -/
def Attendance.onLast (a : Attendance) (f : Segment → Segment) : Attendance :=
  { a with segments := a.segments.dropLast ++ (a.segments.getLast?.map f).toList }

/-- The attendance with its last segment closed at the minute. -/
def Attendance.closeAt (a : Attendance) (out : Nat) : Attendance :=
  a.onLast fun g => { g with outMinute := some out }

/-- An open last segment dealt with at auto-close, or by an entry at or after E: out = E when a scheduled attendance's in
minute is E or earlier, and out = in otherwise (R45, R90). -/
def Attendance.closeUnseen (a : Attendance) : Attendance :=
  a.onLast fun g => { g with outMinute := some (match a.kind with
    | .scheduled _ stop => if g.inMinute ≤ stop then stop else g.inMinute
    | .unscheduled => g.inMinute) }

/-- What a finalization does outside the record: the code's open reference count is released, and a CLOSING credit decreases
the open-closing counter (R39, R139). -/
def releaseFinalized (a : Attendance) (s : State) : State :=
  let s := match a.kind with
    | .scheduled code _ => { s with calendar := s.calendar.onRef code (· - 1) }
    | .unscheduled => s
  match a.tag with
  | .closing => { s with period := { s.period with counter := s.period.counter - 1 } }
  | .current => s

/-- The record after the finalization of the attendance: tally and credit, and the attendance absent (R39). -/
def finalizeRecord (c : Calendar) (a : Attendance) (w : WorkerRecord) : WorkerRecord :=
  { creditAttendance c a w with attendance := none }

/-! ## Auto-close (R44, R45) -/

/-- Has the attendance's limit passed at the minute event carrying `now` (R44)? At plant minute 0 every limit has. -/
def limitPassed (c : Calendar) (now : Nat) (a : Attendance) : Bool :=
  now == 0 ||
    match a.kind with
    | .scheduled code stop =>
      match c.shiftOf code with
      | some d => stop + d.closeDelay ≤ now
      | none => false
    | .unscheduled => a.start + c.tally.unschedLimit ≤ now

/-- The record after auto-close of its attendance (R45). -/
def autoCloseRecord (c : Calendar) (a : Attendance) (w : WorkerRecord) : WorkerRecord :=
  if a.isOpen then
    let w := raise .missedOut (some a.tag) { w with presence := .unknown }
    finalizeRecord c a.closeUnseen w
  else finalizeRecord c a w

/-- Auto-close of one record at the minute event carrying `now`. -/
def autoCloseOne (now : Nat) (s : State) (w : WorkerRecord) : State :=
  match w.attendance with
  | none => s
  | some a =>
    if limitPassed s.calendar now a then setWorker (autoCloseRecord s.calendar a w) (releaseFinalized a s) else s

/-- Auto-close: the walk in ascending badge order (R44). -/
def autoClose (now : Nat) (s : State) : State := s.workers.foldl (autoCloseOne now) s

/-- TIME_STEPPED raised at a large step on a record that holds an open attendance (R47). -/
def markStepped (w : WorkerRecord) : WorkerRecord :=
  match w.attendance with
  | none => w
  | some a => raise .timeStepped (some a.tag) w

/-! ## Worker requests -/

/-- The range conditions of R48 on WORKER_PUT, giving the status. -/
def workerFieldsValid (f : WorkerFields) : Option WorkerStatus :=
  if isBadge f.badge && withinOpt 0 f.validUntil 65535 && withinOpt 1 f.crew 8 && within 0 f.grade 15 then
    workerStatusOf f.status
  else none

/-- The record with its host-set fields replaced (R48). -/
def WorkerRecord.withFields (w : WorkerRecord) (f : WorkerFields) (status : WorkerStatus) : WorkerRecord :=
  { w with badge := f.badge, status := status, validUntil := f.validUntil, crew := f.crew, grade := f.grade
           gateMask := f.gateMask, anytime := f.anytime, unschedAuth := f.unschedAuth }

/-- A new record (R48). -/
def WorkerRecord.fresh (f : WorkerFields) (status : WorkerStatus) : WorkerRecord :=
  { badge := f.badge, status := status, validUntil := f.validUntil, crew := f.crew, grade := f.grade
    gateMask := f.gateMask, anytime := f.anytime, unschedAuth := f.unschedAuth
    presence := .outside, lastPunch := none, pendingGate := none, attendance := none
    pendingSet := AnomalySet.empty, current := Bank.empty, closing := Bank.empty, changed := false }

/-- A reply that carries the number of records in the table. -/
def countReply (r : Result) (s : State) : State × Reply := (s, ⟨r, .recordCount s.workers.length⟩)

/-- WORKER_PUT (R48); its reply carries the record count whatever the result (log 8). -/
def execWorkerPut (tag : Nat) (fields : WorkerFields) (s : State) : Host.Outcome State Fault Refusal :=
  serve 0x20 tag (fun s =>
    match workerFieldsValid fields with
    | none => countReply .badValue s
    | some status =>
      match s.worker fields.badge with
      | some w => countReply .ok (setWorker (w.withFields fields status) s)
      | none =>
        if s.workers.length < Config.tableSize then
          countReply .ok { s with workers := installWorker (WorkerRecord.fresh fields status) s.workers }
        else countReply .tableFull s) s

/-- WORKER_GET (R49); every reply carries the record count. -/
def execWorkerGet (tag badge : Nat) (s : State) : Host.Outcome State Fault Refusal :=
  serve 0x21 tag (fun s =>
    if !isBadge badge then countReply .badValue s
    else match s.worker badge with
      | none => countReply .notFound s
      | some w => okayWith (.worker w s.workers.length) s) s

/-- WORKER_REMOVE (R50). -/
def execWorkerRemove (tag badge : Nat) (s : State) : Host.Outcome State Fault Refusal :=
  serve 0x22 tag (fun s =>
    if !isBadge badge then refuse .badValue s
    else match s.worker badge with
      | none => refuse .notFound s
      | some w =>
        if w.attendance.isSome || w.pendingGate.isSome then refuse .inUse s
        else if !(w.current.isEmpty && w.closing.isEmpty) then refuse .totalsPending s
        else countReply .ok { s with workers := s.workers.filter (fun x => x.badge != badge) }) s

/-- WORKER_PRESENCE (R51). -/
def execWorkerPresence (tag badge presence : Nat) (s : State) : Host.Outcome State Fault Refusal :=
  serve 0x23 tag (fun s =>
    match isBadge badge, presenceOf presence with
    | true, some p =>
      match s.worker badge with
      | none => refuse .notFound s
      | some w =>
        if w.attendance.isSome || w.pendingGate.isSome then refuse .inUse s
        else okay (setWorker { w with presence := p, changed := true } s)
    | _, _ => refuse .badValue s) s

/-- Most bytes the records of one COLLECT_CHANGED reply can take: a length byte of 250 less kind, tag, result, the list's
count and MORE (R167, R173). -/
def collectRoom : Nat := 245

/-- As many of the records, in order, as fit whole in the room; the first of them always fits (R52). -/
def takeFitting : Nat → List WorkerRecord → List WorkerRecord
  | _, [] => []
  | room, w :: rest =>
    let n := (Layout.workerRecord w).length
    if n ≤ room then w :: takeFitting (room - n) rest else []

/-- The marked records beyond a cursor, in badge order (R52). -/
def State.markedBeyond (s : State) (cursor : Nat) : List WorkerRecord :=
  s.workers.filter fun w => cursor < w.badge && w.changed

/-- COLLECT_CHANGED (R52). -/
def execCollectChanged (tag cursor k : Nat) (s : State) : Host.Outcome State Fault Refusal :=
  serve 0x24 tag (fun s =>
    if !(within 0 cursor 16777215 && within 1 k 8) then refuse .badValue s
    else
      let marked := s.markedBeyond cursor
      let given := takeFitting collectRoom (marked.take k)
      okayWith (.workers given (given.length < marked.length))
        { s with workers := s.workers.map fun w =>
            if given.any (fun x => x.badge == w.badge) then { w with changed := false } else w }) s

/-- What MUSTER_READ shows of a record (R113). -/
def musterEntry (w : WorkerRecord) : MusterEntry :=
  ⟨w.badge, w.presence, w.lastPunch.map (·.gate), w.lastPunch.map (·.second)⟩

/-- The records beyond a cursor whose presence is IN or UNKNOWN, in badge order (R113). -/
def State.musterBeyond (s : State) (cursor : Nat) : List WorkerRecord :=
  s.workers.filter fun w => cursor < w.badge && w.presence != .outside

/-- MUSTER_READ (R113). -/
def execMusterRead (tag cursor k : Nat) (s : State) : Host.Outcome State Fault Refusal :=
  serve 0x43 tag (fun s =>
    if !(within 0 cursor 16777215 && within 1 k 8) then refuse .badValue s
    else
      let standing := s.musterBeyond cursor
      okayWith (.muster ((standing.take k).map musterEntry) (k < standing.length)) s) s

end Sys2Proof.Machine
end

