-- ==== Sys2Proof/Machine/Commit.lean ====
section
/-! DEFINITION. Commit and void of a punch (Sections 5.4 and 5.5): what an accepted punch does to the worker's record and to the
journal. -/

namespace Sys2Proof.Machine

/-- The part and the record in hand while a commit works on them. -/
structure CommitWork where
  state : State
  worker : WorkerRecord
  deriving DecidableEq, Repr

/-- The punch minute tm of a plant second (R80). -/
def punchMinute (second : Nat) : Nat := second / 60

/-- Finalizing the attendance of the record in hand (R39). -/
def finalizeWork (a : Attendance) (x : CommitWork) : CommitWork :=
  ⟨releaseFinalized a x.state, finalizeRecord x.state.calendar a x.worker⟩

/-- The record with a new attendance: tag CURRENT, the record's crew, and one open segment from `tm` (R37, R90). -/
def WorkerRecord.opening (w : WorkerRecord) (kind : AttendanceKind) (start tm : Nat) : WorkerRecord :=
  { w with attendance := some ⟨kind, start, .current, w.crew, [⟨tm, none⟩]⟩ }

/-- Opening an attendance, or raising UNSCHEDULED, for an entry that finds none open: cases 4 to 6 of R90 (R37). -/
def openEntry (tm : Nat) (soft : Bool) (x : CommitWork) : CommitWork :=
  match x.state.calendar.matchEntry x.worker.crew tm with
  | some win =>
    let w := x.worker.opening (.scheduled win.code win.stop) win.start tm
    ⟨{ x.state with calendar := x.state.calendar.onRef win.code (· + 1) }, raiseIf soft .softPassback (some .current) w⟩
  | none =>
    if x.worker.unschedAuth then
      ⟨x.state, raiseIf soft .softPassback (some .current) (x.worker.opening .unscheduled tm tm)⟩
    else ⟨x.state, raiseIf soft .softPassback none (raise .unscheduled none x.worker)⟩

/-- The attendance with a new open segment (R38). -/
def Attendance.append (a : Attendance) (tm : Nat) : Attendance := { a with segments := a.segments ++ [⟨tm, none⟩] }

/-- The attendance with its last segment's out minute erased (R38). -/
def Attendance.reopenLast (a : Attendance) : Attendance := a.onLast fun g => { g with outMinute := none }

/-- A re-entry: a new open segment, or the fourth segment opened again with SEGMENT_LIMIT (R38, case 1 of R90). -/
def reenter (tm : Nat) (a : Attendance) (w : WorkerRecord) : WorkerRecord :=
  if a.segments.length < 4 then { w with attendance := some (a.append tm) }
  else raise .segmentLimit (some a.tag) { w with attendance := some a.reopenLast }

/-- Does an entry at `tm` find the attendance past its E (case 3 of R90)? -/
def Attendance.pastEnd (tm : Nat) (a : Attendance) : Bool :=
  match a.kind with
  | .scheduled _ stop => stop ≤ tm
  | .unscheduled => false

/-- The old attendance finalized by an entry at or after its E (case 3 of R90). -/
def finalizeLate (a : Attendance) (x : CommitWork) : CommitWork :=
  if a.isOpen then finalizeWork a.closeUnseen { x with worker := raise .missedOut (some a.tag) x.worker }
  else finalizeWork a x

/-- A commit of an entry at `tm`, at a gate whose passback mode is SOFT or not (R90). Presence other than IN on an attendance
not past its E is a re-entry; the law of R35 leaves only OUT there (log 16). -/
def commitEntry (tm : Nat) (softMode : Bool) (x : CommitWork) : CommitWork :=
  let soft := softMode && decide (x.worker.presence = .inside)
  let y : CommitWork := match x.worker.attendance with
    | none => openEntry tm soft x
    | some a =>
      if a.pastEnd tm then openEntry tm soft (finalizeLate a x)
      else if x.worker.presence = .inside then { x with worker := raiseIf soft .softPassback (some a.tag) x.worker }
      else { x with worker := reenter tm a x.worker }
  { y with worker := { y.worker with presence := .inside } }

/-- Does an exit at `tm` finalize the attendance: UNSCHEDULED, or at or after E - Go (R91)? -/
def exitFinalizes (c : Calendar) (tm : Nat) (a : Attendance) : Bool :=
  match a.kind with
  | .unscheduled => true
  | .scheduled code stop =>
    match c.shiftOf code with
    | some d => stop ≤ tm + d.leaveGrace
    | none => stop ≤ tm

/-- A commit of an exit at `tm`; `unrecorded` says that the exit has no journal entry for want of room (R87, R91). -/
def commitExit (tm : Nat) (unrecorded : Bool) (x : CommitWork) : CommitWork :=
  let y : CommitWork := match x.worker.attendance with
    | some a =>
      if a.isOpen then
        let closed := a.closeAt tm
        let w := raiseIf unrecorded .unrecordedExit (some a.tag) { x.worker with attendance := some closed }
        let z : CommitWork := { x with worker := w }
        if exitFinalizes x.state.calendar tm a then finalizeWork closed z else z
      else { x with worker := raiseIf unrecorded .unrecordedExit none (raise .orphanOut none x.worker) }
    | none =>
      let w := raiseIf (decide (x.worker.presence = .outside)) .orphanOut none x.worker
      { x with worker := raiseIf unrecorded .unrecordedExit none w }
  { y with worker := { y.worker with presence := .outside } }

/-- The journal entry of a punch at a gate (R118); its number is given when it is written (R119). -/
def punchEntry (gate : Nat) (p : Passage) (outcome : JournalOutcome) (anomalies : AnomalySet) (restart : Bool) : JournalEntry :=
  ⟨0, p.second, p.badge, p.loop, p.address, gate, p.direction, outcome, anomalies, restart⟩

/-- The end of every commit (R92): the last punch; the journal entry into the reserved slot, when the punch holds one; the pending
set emptied; the pending gate cleared when the commit is that of a pending passage; the changed mark. -/
def completeCommit (gate : Nat) (p : Passage) (entry : Option JournalOutcome) (ofPassage : Bool) (x : CommitWork) : State :=
  let w := { x.worker with
    lastPunch := some ⟨p.second, gate⟩
    pendingSet := AnomalySet.empty
    pendingGate := if ofPassage then none else x.worker.pendingGate
    changed := true }
  let s := match entry with
    | some outcome => journalClaimed (punchEntry gate p outcome x.worker.pendingSet false) x.state
    | none => x.state
  setWorker w s

/-- The record changes of a commit (R90, R91). -/
def commitWork (gate : Nat) (p : Passage) (unrecorded : Bool) (x : CommitWork) : CommitWork :=
  match p.direction with
  | .inward => commitEntry (punchMinute p.second) ((x.state.gateAt gate).config.passback == .soft) x
  | .outward => commitExit (punchMinute p.second) unrecorded x

/-- The commit of a punch of a record at a gate (5.4). -/
def commitPunch (gate : Nat) (p : Passage) (entry : Option JournalOutcome) (ofPassage : Bool) (w : WorkerRecord) (s : State) :
    State :=
  completeCommit gate p entry ofPassage (commitWork gate p entry.isNone ⟨s, w⟩)

/-- The commit of a pending passage (R93). The record is always present (R93); were it not, the entry alone would be written
(log 16). -/
def commitPassage (gate : Nat) (p : Passage) (outcome : JournalOutcome) (s : State) : State :=
  match s.worker p.badge with
  | some w => commitPunch gate p (some outcome) true w s
  | none => journalClaimed (punchEntry gate p outcome AnomalySet.empty false) s

/-- The void of a pending passage (R94). -/
def voidPassage (gate : Nat) (p : Passage) (restart : Bool) (s : State) : State :=
  let s := journalClaimed (punchEntry gate p .voided AnomalySet.empty restart) s
  match s.worker p.badge with
  | some w => setWorker { w with pendingGate := none } s
  | none => s

/-- The causes by which a gate reports a pending passage resolved (R93). -/
inductive Resolution where
  | passed
  | expired
  | lockdown
  | fire
  | restart
  deriving DecidableEq, Repr

/-- The Punch Processor's act on a passage resolved (R93): commit or void by cause and direction. -/
def resolvePassage (gate : Nat) (p : Passage) (cause : Resolution) (s : State) : State :=
  match cause, p.direction with
  | .passed, _ => commitPassage gate p .passed s
  | .expired, _ => voidPassage gate p false s
  | .lockdown, _ => voidPassage gate p false s
  | .fire, .inward => voidPassage gate p false s
  | .fire, .outward => commitPassage gate p .fireExit s
  | .restart, _ => voidPassage gate p true s

end Sys2Proof.Machine
end

