-- ==== Sys2Proof/Machine/Gates.lean ====
section
/-! DEFINITION. The Gate Controllers and the fire qualifier (Section 6). -/

namespace Sys2Proof.Machine

/-! ## Standing, cut-off, busy (R98, R99, R103) -/

/-- Does the standing hold the direction? -/
def Standing.holds : Standing → Direction → Bool
  | .nothing, _ => false
  | .outOnly, d => d == .outward
  | .both, _ => true

/-- Is a position of the gate bound on the loop? -/
def LoopState.binds (l : LoopState) (g : Nat) : Bool := l.positions.any fun p => p.gate == g

/-- Is a position of the gate PRESENT on the loop, and the loop UP? -/
def LoopState.reaches (l : LoopState) (g : Nat) : Bool :=
  l.mode == .up && l.positions.any fun p => p.gate == g && p.present

/-- The gate is cut off while it has bound positions and none of them is PRESENT on a loop in UP (R98). -/
def State.cutOff (s : State) (g : Nat) : Bool :=
  s.loops.toList.any (·.binds g) && !s.loops.toList.any (·.reaches g)

/-- The standing of gate `g` (R98). -/
def State.standing (s : State) (g : Nat) : Standing :=
  let x := s.gateAt g
  if s.fire then .both
  else match x.mode with
    | .free => .both
    | .lockdown => .nothing
    | .normal =>
      if s.cutOff g then
        match x.config.policy with
        | .free => .both
        | .exitFree => match x.config.kind with
          | .turnstile => .outOnly
          | .hinged => .nothing
        | .locked => .nothing
      else .nothing

/-- The gate state (Table 6.1): a turnstile's by its arming and standing (R103), a hinged gate's as held. -/
def State.gateState (s : State) (g : Nat) : GateState :=
  let x := s.gateAt g
  match x.config.kind with
  | .turnstile => if x.arming.isSome then .armed else if s.standing g = .nothing then .idle else .free
  | .hinged => match x.hinged with
    | .locked => .locked
    | .released _ => .released
    | .opened => .opened
    | .held => .held
    | .forced => .forced
    | .free => .free

/-- Busy for the interlock partner: ARMED, RELEASED, OPEN, HELD or FORCED (R99). -/
def GateState.busy : GateState → Bool
  | .armed | .released | .opened | .held | .forced => true
  | .idle | .locked | .free => false

/-- Is gate `g` busy (R99)? -/
def State.gateBusy (s : State) (g : Nat) : Bool := (s.gateState g).busy

/-- Is gate `g` held back by its interlock partner: the partner busy, its own mode NORMAL or LOCKDOWN and its standing empty
(R84, R99, R101; log 20)? -/
def State.heldByPartner (s : State) (g : Nat) : Bool :=
  match (s.gateAt g).config.partner with
  | none => false
  | some p => s.gateBusy p && (s.gateAt g).mode != .free && s.standing g == .nothing

/-- Is the gate serving a host release (R101)? -/
def Gate.servesHost (x : Gate) : Bool :=
  match x.config.kind with
  | .turnstile => x.arming.any fun a => a.cause == .host
  | .hinged => x.hinged == .released .host

/-! ## Alarms and the applying of a standing (R109, R110) -/

/-- A GATE_ALARM queued, at the plant second the gate takes the event (R110). -/
def gateAlarm (g : Nat) (alarm : Alarm) (phase : AlarmPhase) (dir : Option Direction) (s : State) : State :=
  queueReport (.gateAlarm g alarm phase dir s.plantSecond) s

/-- The CLEARED report of a hinged gate that leaves HELD or FORCED (R110). -/
def clearAlarm (g : Nat) (x : Gate) (s : State) : State :=
  match x.config.kind, x.hinged with
  | .hinged, .held => gateAlarm g .held .cleared none s
  | .hinged, .forced => gateAlarm g .forced .cleared none s
  | _, _ => s

/-- A hinged gate at rest: LOCKED with its contact CLOSED, OPEN with its held-open timer started with its contact OPEN (R96, R109,
R115, R116). -/
def Gate.rest (x : Gate) : Gate :=
  if x.contactOpen then { x with hinged := .opened, releaseTimer := none, heldTimer := some x.config.heldOpen }
  else { x with hinged := .locked, releaseTimer := none, heldTimer := none }

/-- A hinged gate made FREE: its timers stop and any release ends (R109). -/
def Gate.setFree (x : Gate) : Gate := { x with hinged := .free, releaseTimer := none, heldTimer := none }

/-- Gate `g` applies its recomputed standing: a turnstile's state and outputs follow it by definition (R103, R106); a hinged gate
acts by R109. -/
def applyStanding (g : Nat) (s : State) : State :=
  let x := s.gateAt g
  match x.config.kind with
  | .turnstile => s
  | .hinged =>
    if s.standing g = .nothing then
      if x.hinged = .free then s.setGate g x.rest else s
    else if x.hinged = .free then s
    else (clearAlarm g x s).setGate g x.setFree

/-- The standing applied at each gate of a list, in order. -/
def applyStandings (gs : List Nat) (s : State) : State := gs.foldl (fun s g => applyStanding g s) s

/-! ## Releases (R104, R107) -/

/-- A turnstile takes an arming and starts its release timer (R102, R104). -/
def Gate.arm (x : Gate) (d : Direction) (cause : ReleaseCause) : Gate :=
  { x with arming := some ⟨d, cause⟩, releaseTimer := some x.config.release }

/-- A turnstile's arming ends and its release timer stops. -/
def Gate.disarm (x : Gate) : Gate := { x with arming := none, releaseTimer := none, passage := none }

/-- A hinged gate takes a release request (R107). -/
def Gate.hingedRelease (x : Gate) (cause : ReleaseCause) : Gate :=
  match x.hinged with
  | .locked | .released _ => { x with hinged := .released cause, releaseTimer := some x.config.release }
  | .opened => { x with heldTimer := some x.config.heldOpen }
  | .held | .forced | .free => x

/-- An untracked release in direction OUT asked of gate `g` (R104, R107). -/
def untrackedRelease (g : Nat) (s : State) : State :=
  let x := s.gateAt g
  match x.config.kind with
  | .hinged => s.setGate g (x.hingedRelease .untracked)
  | .turnstile =>
    let kept := match x.arming with
      | some a => a.cause != .untracked && a.direction == .outward || a.cause == .punch
      | none => false
    if (s.standing g).holds .outward || kept then s else s.setGate g (x.arm .outward .untracked)

/-- A pending passage handed to turnstile `g` (R104). -/
def takePassage (g : Nat) (p : Passage) (s : State) : State :=
  s.setGate g { (s.gateAt g).arm p.direction .punch with passage := some p }

/-- Turnstile `g` ends its arming and hands its pending passage, if it holds one, over as resolved by the cause (R105, R106, R112). -/
def endArming (g : Nat) (cause : Resolution) (s : State) : State :=
  let x := s.gateAt g
  let s := s.setGate g x.disarm
  match x.passage with
  | some p => resolvePassage g p cause s
  | none => s

/-! ## Configuration and host orders (R96, R100, R101) -/

/-- The gates' partnerships when `g` is given partner `p`: any former partner of either loses it, and `p` takes `g` (R96). -/
def repartner (g : Nat) (p : Option Nat) (gates : Vector Gate 16) : Vector Gate 16 :=
  mapUnits (fun i x =>
    let partner :=
      if i = g then p
      else if some i = p then some g
      else if x.config.partner = some g ∨ (p.isSome ∧ x.config.partner = p) then none
      else x.config.partner
    { x with config := { x.config with partner := partner } }) gates

/-- A change of kind restarts the gate's state machine (R96): the arming ends, the timers stop, the inputs are taken at their
levels (R97). -/
def Gate.restartKind (x : Gate) (in0 in1 : Bool) : Gate :=
  let y := { x.disarm with contactOpen := in0, pulse0 := in0, pulse1 := in1, heldTimer := none }
  match y.config.kind with
  | .turnstile => { y with hinged := .locked }
  | .hinged => y.rest

/-- GATE_CONFIG accepted (R96). -/
def configureGate (g : Nat) (c : GateConfig) (in0 in1 : Bool) (s : State) : State :=
  let old := s.gateAt g
  let s := { s with gates := repartner g c.partner s.gates }
  let new := { s.gateAt g with config := c }
  let s := if old.config.kind = c.kind then s.setGate g new
    else (clearAlarm g old s).setGate g (new.restartKind in0 in1)
  applyStanding g s

/-- GATE_CONFIG (R96). -/
def execGateConfig (tag gate : Nat) (fields : GateFields) (in0 in1 : Bool) (s : State) : Host.Outcome State Fault Refusal :=
  serve 0x40 tag (fun s =>
    match within 0 gate 15, gateConfigOf gate fields with
    | true, some c =>
      if (s.gateAt gate).passage.isSome then refuse .inUse s else okay (configureGate gate c in0 in1 s)
    | _, _ => refuse .badValue s) s

/-- The control mode set, and the standing recomputed and applied (R100). -/
def setMode (g : Nat) (m : ControlMode) (s : State) : State :=
  applyStanding g (s.setGate g { s.gateAt g with mode := m })

/-- A mode order on a gate in range (R100): one that names the mode already held changes nothing. -/
def orderMode (gate : Nat) (m : ControlMode) (act : State → State) (s : State) : State × Reply :=
  if !within 0 gate 15 then refuse .badValue s
  else if (s.gateAt gate).mode = m then okay s
  else okay (act (setMode gate m s))

/-- GATE_COMMAND, order NORMAL (R100). -/
def execGateCommandNormal (tag gate : Nat) (s : State) : Host.Outcome State Fault Refusal :=
  serve 0x41 tag (orderMode gate .normal id) s

/-- GATE_COMMAND, order FREE (R100). -/
def execGateCommandFree (tag gate : Nat) (s : State) : Host.Outcome State Fault Refusal :=
  serve 0x41 tag (orderMode gate .free id) s

/-- LOCKDOWN resolves a pending passage in direction IN; one in direction OUT runs on (R100). -/
def lockdownPassage (g : Nat) (s : State) : State :=
  match (s.gateAt g).passage with
  | some p => if p.direction = .inward then endArming g .lockdown s else s
  | none => s

/-- GATE_COMMAND, order LOCKDOWN (R100). -/
def execGateCommandLockdown (tag gate : Nat) (s : State) : Host.Outcome State Fault Refusal :=
  serve 0x41 tag (orderMode gate .lockdown (lockdownPassage gate)) s

/-- Does the standing refuse a host release: fire taken, the direction already held, or, for a hinged gate, any standing (R101)? -/
def releaseNeedless (g : Nat) (d : Direction) (s : State) : Bool :=
  s.fire || (match (s.gateAt g).config.kind with
    | .turnstile => (s.standing g).holds d
    | .hinged => s.standing g != .nothing)

/-- GATE_COMMAND, order RELEASE (R101). -/
def execGateCommandRelease (tag gate direction : Nat) (s : State) : Host.Outcome State Fault Refusal :=
  serve 0x41 tag (fun s =>
    match within 0 gate 15, directionOf direction with
    | true, some d =>
      if releaseNeedless gate d s then refuse .state s
      else if s.gateBusy gate || s.heldByPartner gate then refuse .busy s
      else
        let x := s.gateAt gate
        okay (s.setGate gate (match x.config.kind with
          | .turnstile => x.arm d .host
          | .hinged => x.hingedRelease .host))
    | _, _ => refuse .badValue s) s

/-- What GATE_READ shows of gate `g` (R114). -/
def State.gateReading (s : State) (g : Nat) : GateReading :=
  let x := s.gateAt g
  let hinged := x.config.kind == .hinged
  ⟨x.config, x.mode, s.gateState g, s.standing g, s.cutOff g, x.arming, x.releaseTimer,
    if hinged then some x.contactOpen else none, if hinged then x.heldTimer else none, x.passage, s.fire⟩

/-- GATE_READ (R114). -/
def execGateRead (tag gate : Nat) (s : State) : Host.Outcome State Fault Refusal :=
  serve 0x42 tag (fun s =>
    if !within 0 gate 15 then refuse .badValue s else okayWith (.gate (s.gateReading gate)) s) s

/-! ## Gate events (R105, R106, R108) -/

/-- A passage pulse at a turnstile (R105). -/
def passagePulse (g : Nat) (p : Direction) (s : State) : State :=
  if (s.gateAt g).arming.any fun a => a.direction == p then endArming g .passed s
  else if (s.standing g).holds p then s
  else gateAlarm g .forced .raised (some p) s

/-- Does the turnstile's input of the direction wait to go inactive (R97)? -/
def Gate.pulseHeld (x : Gate) : Direction → Bool
  | .inward => x.pulse0
  | .outward => x.pulse1

/-- The turnstile's input of the direction has delivered its pulse and waits to go inactive (R97). -/
def Gate.holdPulse (x : Gate) : Direction → Gate
  | .inward => { x with pulse0 := true }
  | .outward => { x with pulse1 := true }

/-- PASSAGE_PULSE (R97, R105): a turnstile's input delivers no pulse while it waits to go inactive, and a hinged gate's inputs give
none. -/
def execPassagePulse (gate : Fin 16) (input : ActiveInput) (s : State) : Host.Outcome State Fault Refusal :=
  whileLive (fun s =>
    let x := s.gateAt gate
    if x.config.kind = .hinged || (x.pulseHeld input.direction && !input.rearmed) then s
    else passagePulse gate input.direction (s.setGate gate (x.holdPulse input.direction))) s

/-- TURNSTILE_RELEASE_EXPIRED (R106): taken when the release timer of an ARMED turnstile stands at 0. -/
def execTurnstileReleaseExpired (gate : Fin 16) (s : State) : Host.Outcome State Fault Refusal :=
  whileLive (fun s =>
    let x := s.gateAt gate
    if x.config.kind = .turnstile ∧ x.arming.isSome ∧ x.releaseTimer = some 0 then endArming gate .expired s else s) s

/-- HINGED_RELEASE_EXPIRED (R108): taken when the release timer of a RELEASED hinged gate stands at 0. -/
def execHingedReleaseExpired (gate : Fin 16) (s : State) : Host.Outcome State Fault Refusal :=
  whileLive (fun s =>
    let x := s.gateAt gate
    match x.config.kind, x.hinged, x.releaseTimer with
    | .hinged, .released _, some 0 => s.setGate gate { x with hinged := .locked, releaseTimer := none }
    | _, _, _ => s) s

/-- HELD_OPEN_EXPIRED (R108): taken when the held-open timer of an OPEN hinged gate stands at 0. -/
def execHeldOpenExpired (gate : Fin 16) (s : State) : Host.Outcome State Fault Refusal :=
  whileLive (fun s =>
    let x := s.gateAt gate
    match x.config.kind, x.hinged, x.heldTimer with
    | .hinged, .opened, some 0 =>
      gateAlarm gate .held .raised none (s.setGate gate { x with hinged := .held, heldTimer := none })
    | _, _, _ => s) s

/-- The contact of a hinged gate opens (R108). -/
def contactOpens (g : Nat) (s : State) : State :=
  let x := { s.gateAt g with contactOpen := true }
  match x.hinged with
  | .locked => gateAlarm g .forced .raised none (s.setGate g { x with hinged := .forced })
  | .released _ => s.setGate g { x with hinged := .opened, releaseTimer := none, heldTimer := some x.config.heldOpen }
  | .opened | .held | .forced | .free => s.setGate g x

/-- CONTACT_OPENS (R108): a change of a hinged gate's contact from CLOSED. -/
def execContactOpens (gate : Fin 16) (s : State) : Host.Outcome State Fault Refusal :=
  whileLive (fun s =>
    let x := s.gateAt gate
    if x.config.kind = .hinged ∧ x.contactOpen = false then contactOpens gate s else s) s

/-- The contact of a hinged gate closes (R108). -/
def contactCloses (g : Nat) (s : State) : State :=
  let x := { s.gateAt g with contactOpen := false }
  match x.hinged with
  | .opened => s.setGate g { x with hinged := .locked, heldTimer := none }
  | .held => gateAlarm g .held .cleared none (s.setGate g { x with hinged := .locked })
  | .forced => gateAlarm g .forced .cleared none (s.setGate g { x with hinged := .locked })
  | .locked | .released _ | .free => s.setGate g x

/-- CONTACT_CLOSES (R108): a change of a hinged gate's contact from OPEN. -/
def execContactCloses (gate : Fin 16) (s : State) : Host.Outcome State Fault Refusal :=
  whileLive (fun s =>
    let x := s.gateAt gate
    if x.config.kind = .hinged ∧ x.contactOpen = true then contactCloses gate s else s) s

/-- A second event at the gate timers (R102): a running timer decreases, and at 0 its expiry waits to be taken (log 3). -/
def Gate.countDown (x : Gate) : Gate :=
  { x with releaseTimer := x.releaseTimer.map (· - 1), heldTimer := x.heldTimer.map (· - 1) }

/-! ## Fire (R111, R112) -/

/-- Gate `g` takes fire TAKEN (R112): the pending passage resolved, the arming ended, the standing applied. -/
def gateFire (g : Nat) (s : State) : State :=
  let s := match (s.gateAt g).config.kind with
    | .turnstile => endArming g .fire s
    | .hinged => s
  applyStanding g s

/-- The sixteen gates, ascending. -/
def allGates : List Nat := List.range 16

/-- FIRE_TAKEN (R111, R112, R159): taken in CLEAR. -/
def execFireTaken (s : State) : Host.Outcome State Fault Refusal :=
  whileLive (fun s =>
    if s.fire then s
    else
      let s := queueReport (.fireEvent true s.plantSecond) { s with fire := true }
      let s := allGates.foldl (fun s g => gateFire g s) s
      { s with bells := s.bells.onFireTaken }) s

/-- FIRE_CLEARED (R111, R112, R159): taken in TAKEN. -/
def execFireCleared (s : State) : Host.Outcome State Fault Refusal :=
  whileLive (fun s =>
    if !s.fire then s
    else
      let s := queueReport (.fireEvent false s.plantSecond) { s with fire := false }
      let s := applyStandings allGates s
      { s with bells := s.bells.onFireCleared }) s

end Sys2Proof.Machine
end

