-- ==== Sys2Proof/Machine/Punch.lean ====
section
/-! DEFINITION. The Punch Processor (Section 5): the arbiter, the checks in their order, the verdicts, and the return of a verdict to
its loop. -/

namespace Sys2Proof.Machine

/-! ## Taking a punch (R79) -/

/-- The offer a loop holds. -/
def LoopState.offer (l : LoopState) : Option Offer :=
  match l.exchange with
  | .offering o => some o
  | _ => none

/-- The four loops in cyclic order, the first after the last loop served in front (R79). -/
def loopsAfter (last : Nat) : List Nat := (List.range 4).map fun i => (last + 1 + i) % 4

/-- The offer the arbiter takes: that of the first loop after the last loop served that holds one (R79). -/
def State.nextOffer (s : State) : Option (Nat × Offer) :=
  (loopsAfter s.punch.lastLoop).findSome? fun l => (s.loopAt l).offer.map fun o => (l, o)

/-- The binding of an address on a loop (R80). -/
def LoopState.positionOf (l : LoopState) (address : Nat) : Option Position := l.positions.find? (·.address == address)

/-! ## Verdicts (5.2) -/

/-- A decision: the part after it, and the verdict it returns. -/
structure Decision where
  state : State
  verdict : Verdict
  deriving DecidableEq, Repr

/-- Display codes of the refusals (Table 5.1). -/
def Denial.display : Denial → Nat
  | .unknownBadge => 16
  | .clockUnset => 17
  | .evacuation => 18
  | .gateLockdown => 19
  | .suspended => 20
  | .expired => 21
  | .gateDenied => 22
  | .outOfWindow => 23
  | .passback => 24
  | .journalFull => 25

/-- SEE_OFFICE of a verdict that raises nothing: the pending set is not empty (R81). -/
def WorkerRecord.seesOffice (w : WorkerRecord) : Bool := !w.pendingSet.isEmpty

/-- A refusal: journaled directly when the sum is below the entry limit, and the record untouched (R89). -/
def refusePunch (g : Nat) (p : Passage) (reason : Denial) (see : Bool) (s : State) : Decision :=
  ⟨if s.journal.entryRoom then journalDirect (punchEntry g p (.refused reason) AnomalySet.empty false) s else s,
    ⟨.denied reason, reason.display, see⟩⟩

/-! ## The checks (5.3) -/

/-- The fourth check: a busy gate, interlock partner or worker (R84). -/
def waits (g : Nat) (w : WorkerRecord) (s : State) : Bool :=
  (s.gateAt g).passage.isSome || (s.gateAt g).servesHost || s.heldByPartner g || w.pendingGate.isSome

/-- Has an entry at `tm` a window: an open attendance that takes it, or a matching candidate (R85)? -/
def hasWindow (c : Calendar) (tm : Nat) (w : WorkerRecord) : Bool :=
  match w.attendance with
  | some a => !a.pastEnd tm || (c.matchEntry w.crew tm).isSome
  | none => (c.matchEntry w.crew tm).isSome

/-- Is the punch day after the record's valid-until day (R85, test 3)? -/
def WorkerRecord.expiredOn (w : WorkerRecord) (day : Nat) : Bool :=
  match w.validUntil with
  | some last => last < day
  | none => false

/-- The fifth check: the first test an entry fails, or none (R85, R86). -/
def entryDenial (g : Nat) (p : Passage) (w : WorkerRecord) (s : State) : Option Denial :=
  if (s.gateAt g).mode = .lockdown then some .gateLockdown
  else if w.status = .suspended then some .suspended
  else if w.expiredOn (p.second / 86400) then some .expired
  else if !w.gateMask.getLsbD g then some .gateDenied
  else if !(hasWindow s.calendar (punchMinute p.second) w || w.anytime || w.unschedAuth) then some .outOfWindow
  else if w.presence = .inside ∧ (s.gateAt g).config.passback = .hard then some .passback
  else none

/-! ## Acceptance (R83, R87, R88) -/

/-- A commit made at once within the decision, and SEE_OFFICE after its raises (R81). -/
def commitNow (display : Nat) (g : Nat) (p : Passage) (entry : Option JournalOutcome) (w : WorkerRecord) (s : State) : Decision :=
  let x := commitWork g p entry.isNone ⟨s, w⟩
  ⟨completeCommit g p entry false x, ⟨.accept, display, x.worker.seesOffice⟩⟩

/-- The decision with one more act at the gate. -/
def Decision.andThen (d : Decision) (f : State → State) : Decision := { d with state := f d.state }

/-- An accepted punch (R88): a claim; then a pending passage at a turnstile whose standing lacks the direction, or a commit at once,
which at a hinged gate asks a release of it (R107). -/
def acceptPunch (display : Nat) (g : Nat) (p : Passage) (w : WorkerRecord) (s : State) : Decision :=
  let claimed := journalClaim s
  match (s.gateAt g).config.kind with
  | .turnstile =>
    if (s.standing g).holds p.direction then commitNow display g p (some .passed) w claimed
    else ⟨takePassage g p (setWorker { w with pendingGate := some g } claimed), ⟨.accept, display, w.seesOffice⟩⟩
  | .hinged =>
    (commitNow display g p (some .passed) w claimed).andThen fun t => t.setGate g ((t.gateAt g).hingedRelease .punch)

/-- An exit under fire (R83): a claim and its entry when the ring has room, an unrecorded exit otherwise. -/
def fireExit (g : Nat) (p : Passage) (w : WorkerRecord) (s : State) : Decision :=
  if s.journal.exitRoom then commitNow 4 g p (some .fireExit) w (journalClaim s) else commitNow 5 g p none w s

/-- An exit that has passed the checks (R87, R88): accepted with a claim when the ring has room; otherwise an unrecorded exit, for
which an untracked release is asked of the gate. -/
def exitPunch (g : Nat) (p : Passage) (w : WorkerRecord) (s : State) : Decision :=
  if s.journal.exitRoom then acceptPunch 3 g p w s else (commitNow 5 g p none w s).andThen (untrackedRelease g)

/-- An entry that has passed the wait check (R85 to R88). -/
def entryPunch (g : Nat) (p : Passage) (w : WorkerRecord) (s : State) : Decision :=
  match entryDenial g p w s with
  | some reason => refusePunch g p reason w.seesOffice s
  | none =>
    if s.journal.entryRoom then
      acceptPunch (if hasWindow s.calendar (punchMinute p.second) w then 1 else 2) g p w s
    else refusePunch g p .journalFull w.seesOffice s

/-- RELEASE_UNTIMED (R82): presence OUT, the changed mark (R43), and an untracked release asked of the gate. -/
def releaseUntimed (g : Nat) (w : WorkerRecord) (s : State) : Decision :=
  ⟨untrackedRelease g (setWorker { w with presence := .outside, changed := true } s), ⟨.releaseUntimed, 6, w.seesOffice⟩⟩

/-- The decision for a punch at gate `g`, the checks in their numbered order (R80, R82 to R88). -/
def decidePunch (g : Nat) (p : Passage) (s : State) : Decision :=
  match s.worker p.badge with
  | none => refusePunch g p .unknownBadge false s
  | some w =>
    if s.time.validity = .unset then
      match p.direction with
      | .inward => refusePunch g p .clockUnset w.seesOffice s
      | .outward => releaseUntimed g w s
    else if s.fire then
      match p.direction with
      | .inward => refusePunch g p .evacuation w.seesOffice s
      | .outward => fireExit g p w s
    else if waits g w s then ⟨s, ⟨.wait, 7, w.seesOffice⟩⟩
    else
      match p.direction with
      | .inward => entryPunch g p w s
      | .outward => exitPunch g p w s

/-! ## Returning the verdict (R66, R72) -/

/-- The position with its duplicate record written, when it is the address's (R72). -/
def Position.record (p : Position) (address : Nat) (d : DuplicateRecord) : Position :=
  if p.address = address then { p with duplicate := some d } else p

/-- The loop takes a verdict: the duplicate record written, and the VERDICT frame begun (R66). -/
def LoopState.takeVerdict (l : LoopState) (o : Offer) (v : Verdict) : LoopState :=
  { l with positions := l.positions.map (·.record o.address ⟨o.sequence, v⟩)
           exchange := .sendingVerdict o.address o.sequence v }

/-- The passage a punch would form: its badge, direction, time and position (R88). -/
def Offer.passage (o : Offer) (loop : Nat) (d : Direction) : Passage := ⟨o.badge, d, o.second, loop, o.address⟩

/-- The punch in hand decided, and its verdict returned to its loop. -/
def decideInHand (l : Nat) (o : Offer) (b : Position) (s : State) : State :=
  let d := decidePunch b.gate (o.passage l b.direction) s
  let t := d.state.setLoop l ((d.state.loopAt l).takeVerdict o d.verdict)
  { t with punch := { t.punch with hand := none } }

/-- A punch taken: the punch in hand, the last loop served, and the decision (R79, R80). An offer whose binding is gone, which
R54 and R63 exclude, is not taken (log 16). -/
def takePunch (s : State) : State :=
  match s.nextOffer with
  | none => s
  | some (l, o) =>
    match (s.loopAt l).positionOf o.address with
    | none => s
    | some b => decideInHand l o b { s with punch := ⟨some o, l⟩ }

/-- PUNCH_TAKEN (R79 to R92): taken when no punch is in hand and a loop holds an offer. -/
def execPunchTaken (s : State) : Host.Outcome State Fault Refusal :=
  whileLive (fun s => if s.punch.hand.isSome then s else takePunch s) s

end Sys2Proof.Machine
end

