-- ==== Sys2Proof/Machine/Receiver.lean ====
section
/-! DEFINITION. The line of a reader loop (Sections 4.2 to 4.4): the frame builder and the biphase coder, the bit tracker, the
framer, and the classes of an answer. -/

namespace Sys2Proof.Machine

/-! ## Building and coding a frame (R55, R59) -/

/-- The bytes a check covers, for a frame of the given address, kind, sequence and payload (R59). -/
def covered (address kind sequence : Nat) (payload : List Byte) : List Byte :=
  Layout.num 1 address ++ Layout.num 1 kind ++ Layout.num 1 sequence ++ Layout.num 1 payload.length ++ payload

/-- The bytes of a frame from its start byte to its check (R59). -/
def frameBody (check : CheckKind) (bytes : List Byte) : List Byte := Config.loopStart :: (bytes ++ loopCheck check bytes)

/-- A frame with its preamble of `n` bytes of 0x55 (R59). -/
def frameBytes (n : Nat) (check : CheckKind) (bytes : List Byte) : List Byte :=
  List.replicate n 0x55 ++ frameBody check bytes

/-- Kind bytes of the loop frames (Table 12.4). -/
def kindWake : Nat := 0x01
/-- POLL (Table 12.4). -/
def kindPoll : Nat := 0x02
/-- VERDICT (Table 12.4). -/
def kindVerdict : Nat := 0x03
/-- TEST (Table 12.4). -/
def kindTest : Nat := 0x04
/-- IDLE (Table 12.4). -/
def kindIdle : Nat := 0x11
/-- PUNCH (Table 12.4). -/
def kindPunch : Nat := 0x12
/-- FAULT (Table 12.4). -/
def kindFault : Nat := 0x13

/-- The WAKE frame: broadcast, with Nsync bytes of preamble (R59). -/
def wakeFrame (c : LoopConfig) : List Byte := frameBytes c.nsync c.check (covered 0 kindWake 0 [])

/-- The POLL of an address (Table 4.4). -/
def pollFrame (c : LoopConfig) (address : Nat) : List Byte := frameBytes c.npre c.check (covered address kindPoll 0 [])

/-- The VERDICT for a punch (R66, Table 12.4). -/
def verdictFrame (c : LoopConfig) (address sequence : Nat) (v : Verdict) : List Byte :=
  frameBytes c.npre c.check (covered address kindVerdict sequence
    (Layout.num 1 sequence ++ Layout.num 1 (Layout.verdictCode v.code) ++ Layout.num 1 v.display ++ Layout.flag v.seeOffice))

/-- The covered bytes of TEST frame `n` (R74, Table 12.4). -/
def testCovered (n : Nat) : List Byte :=
  covered 255 kindTest (n % 256) (Layout.num 1 n ++ [0x00, 0xFF, 0x55, 0xAA, 0xE7, 0x18, 0xC3])

/-- TEST frame `n`. -/
def testFrame (c : LoopConfig) (n : Nat) : List Byte := frameBytes c.npre c.check (testCovered n)

/-- Does a cell of the coding carry this bit by a mid-cell transition (R55)? -/
def Coding.mid : Coding → Bool → Bool
  | .biphaseMark, bit => bit
  | .biphaseSpace, bit => !bit

/-- A cell on the line in its sixteen steps: a transition at step 0, and one at step 8 when the bit calls for it (R55). -/
def cellSteps (c : Coding) (bit : Bool) : List Bool :=
  true :: List.replicate 7 false ++ c.mid bit :: List.replicate 7 false

/-- The line of a byte string, most significant bit first (R55). -/
def lineOf (c : Coding) (bytes : List Byte) : List Bool := (bytes.flatMap byteBits).flatMap (cellSteps c)

/-- The steps of the cells of TEST frame `n`, from its first to its last (R74, R75). -/
def LoopConfig.testSteps (c : LoopConfig) (n : Nat) : Nat := (lineOf c.coding (testFrame c n)).length

/-! ## The bit tracker and the framer (R56 to R58) -/

/-- What has become of a frame being received. -/
inductive Reception where
  /-- still listening, hunting or in the frame -/
  | pending
  /-- no transition in the response window (R60) -/
  | silent
  /-- the hunt bound reached with no start byte (R56) -/
  | huntBound
  /-- two consecutive missing boundaries, or a payload length above 16 (R58) -/
  | aborted
  /-- the frame complete, with its bytes from the address to the last check byte -/
  | complete (bytes : List Byte)
  deriving DecidableEq, Repr

/-- What the receiver needs of its loop: the coding, the check's length, and the bounds in steps. -/
structure Listening where
  coding : Coding
  checkBytes : Nat
  window : Option Nat
  hunt : Nat
  deriving DecidableEq, Repr

/-- The receiver at work on one frame. `step` counts the cell in hand, of `length` steps; `found` says that its boundary has been
found, `early` that the next one has, at step 14 or later; `elapsed` counts steps, and `first` those since the first transition. -/
structure Receiver where
  tracker : TrackerState
  step : Nat
  length : Nat
  found : Bool
  early : Bool
  mid : Bool
  shift : Byte
  inFrame : Bool
  missed : Bool
  bits : Nat
  byte : Byte
  bytes : List Byte
  elapsed : Nat
  first : Option Nat
  miss1 : Bool
  miss2 : Bool
  result : Reception
  deriving DecidableEq, Repr

/-- The receiver when it begins to listen (R56). -/
def Receiver.start : Receiver :=
  { tracker := .search, step := 0, length := 16, found := false, early := false, mid := false, shift := 0, inFrame := false
    missed := false, bits := 0, byte := 0, bytes := [], elapsed := 0, first := none, miss1 := false, miss2 := false
    result := .pending }

/-- Back to SEARCH, with the window emptied (R56, R58). -/
def Receiver.toSearch (r : Receiver) : Receiver := { r with tracker := .search, shift := 0, bits := 0, byte := 0 }

/-- The receiver settled. -/
def Receiver.settle (r : Receiver) (x : Reception) : Receiver := { r.toSearch with result := x }

/-- A cell begins; its boundary may have been found early, and it is then of 15 steps (R57, log 31). -/
def Receiver.beginCell (r : Receiver) : Receiver :=
  { r with step := 0, length := if r.early then 15 else 16, found := r.early, early := false, mid := false }

/-- The first transition while the tracker searches is a boundary: LOCKED, at step 0 (R56). -/
def Receiver.lock (r : Receiver) : Receiver :=
  { r with tracker := .locked, step := 0, length := 16, found := true, early := false, mid := false }

/-- The bytes a frame has from its address to its last check byte, once its payload length byte is in (R59). -/
def frameLength (k : Listening) (bytes : List Byte) : Option Nat := (bytes[3]?).map fun n => 4 + n.toNat + k.checkBytes

/-- A byte completed by the framer (R58): a length above 16 aborts at the end of that byte, and the last check byte completes. -/
def Receiver.takeByte (k : Listening) (r : Receiver) : Receiver :=
  let bytes := r.bytes ++ [r.byte]
  let r := { r with bytes := bytes, bits := 0, byte := 0 }
  if bytes.length = 4 ∧ 16 < ((bytes[3]?).getD 0).toNat then r.settle .aborted
  else if frameLength k bytes = some bytes.length then r.settle (.complete bytes)
  else r

/-- The bit of the cell in hand, delivered to the framer at the end of the cell (R56, R57). -/
def Receiver.deliver (k : Listening) (r : Receiver) : Receiver :=
  let bit := if r.mid then k.coding.mid true else !k.coding.mid true
  if r.inFrame then
    let r := { r with byte := (r.byte <<< 1) ||| (if bit then 1 else 0), bits := r.bits + 1 }
    if r.bits = 8 then r.takeByte k else r
  else
    let shift := (r.shift <<< 1) ||| (if bit then 1 else 0)
    if shift = Config.loopStart then { r with shift := 0, inFrame := true, missed := false } else { r with shift := shift }

/-- The end of the boundary window of the cell in hand, at step 2 (R56, R58). -/
def Receiver.closeWindow (r : Receiver) : Receiver :=
  if r.found then { r with missed := false }
  else if !r.inFrame then r.toSearch
  else if r.missed then { r with miss2 := true }.settle .aborted
  else { r with missed := true, miss1 := true }

/-- A transition, or none, at the step in hand of a locked tracker (R57). A boundary sets the length of the cell that it begins, so a late
one lengthens the cell in hand (DESIGN CHOICE, log 31). Step 16 of a cell of 17 steps counts with steps 14 and 15 (log 11). -/
def Receiver.examine (r : Receiver) (transition : Bool) : Receiver :=
  if !transition then r
  else if r.step ≤ 2 then
    if r.found then r else { r with found := true, length := if r.step = 0 then 16 else 17 }
  else if 6 ≤ r.step && r.step ≤ 10 then { r with mid := true }
  else if 14 ≤ r.step then { r with early := true }
  else r

/-- The steps of a cell after the transition is examined: the window's end at step 2, the cell's end at its last step. -/
def Receiver.advance (k : Listening) (r : Receiver) : Receiver :=
  let r := if r.step = 2 then r.closeWindow else r
  match r.tracker, r.result with
  | .locked, .pending =>
    if r.step + 1 = r.length then
      let r := r.deliver k
      if r.result = .pending then r.beginCell else r
    else { r with step := r.step + 1 }
  | _, _ => r

/-- One step of the receiver with a transition in it or none. -/
def Receiver.track (k : Listening) (r : Receiver) (transition : Bool) : Receiver :=
  match r.tracker with
  | .search => if transition then r.lock.advance k else r
  | .locked => (r.examine transition).advance k

/-- The bounds, judged before the step's transition (R56, R60): the response window with no transition yet, and the hunt bound,
counted from the first transition in cells of sixteen steps (log 11). -/
def Receiver.bounds (k : Listening) (r : Receiver) : Receiver :=
  match r.first with
  | none => if k.window = some r.elapsed then r.settle .silent else r
  | some t => if !r.inFrame && t + k.hunt ≤ r.elapsed then r.settle .huntBound else r

/-- One sixteenth-of-a-cell step of the line. -/
def Receiver.next (k : Listening) (r : Receiver) (transition : Bool) : Receiver :=
  let r := r.bounds k
  if r.result = .pending then
    let r := { r with first := if r.first.isNone && transition then some r.elapsed else r.first }
    { r.track k transition with elapsed := r.elapsed + 1 }
  else r

/-- The receiver after a line, with the bounds judged once more at its end. -/
def Receiver.receive (k : Listening) (line : List Bool) : Receiver :=
  (line.foldl (Receiver.next k) Receiver.start).bounds k

/-- Bytes of a check (R59). -/
def CheckKind.bytes : CheckKind → Nat
  | .sum8 => 1
  | .crc16 => 2

/-- The hunt bound of a loop in steps: (Npre + 4) × 8 cells (R56). -/
def LoopConfig.huntSteps (c : LoopConfig) : Nat := (c.npre + 4) * 8 * 16

/-- Listening for an answer: from the end of a POLL's last cell, with the response window (R56, R60). -/
def LoopConfig.answer (c : LoopConfig) : Listening := ⟨c.coding, c.check.bytes, some (c.window * 16), c.huntSteps⟩

/-- Listening to a TEST frame: from its first cell (R74). -/
def LoopConfig.loopback (c : LoopConfig) : Listening := ⟨c.coding, c.check.bytes, none, c.huntSteps⟩

/-! ## Classes of an answer (R60) -/

/-- A settled answer. -/
inductive Answer where
  | silent
  | corrupted
  | idle
  | punch (sequence badge : Nat)
  | fault (code : Nat)
  deriving DecidableEq, Repr

/-- Is the answer valid (R60)? -/
def Answer.valid : Answer → Bool
  | .silent | .corrupted => false
  | .idle | .punch _ _ | .fault _ => true

/-- Does a complete frame pass its check: covered bytes, then the check over them (R59)? -/
def checkPasses (check : CheckKind) (bytes : List Byte) : Bool :=
  let n := bytes.length - check.bytes
  bytes.drop n == loopCheck check (bytes.take n)

/-- The class of a complete frame in answer to a poll of the address (R60, Table 4.4). -/
def classify (check : CheckKind) (polled : Nat) (bytes : List Byte) : Answer :=
  if !checkPasses check bytes then .corrupted
  else
    match bytes.take (bytes.length - check.bytes) with
    | address :: kind :: sequence :: _ :: payload =>
      if address.toNat ≠ polled then .corrupted
      else
        match payload with
        | [] => if kind.toNat = kindIdle then .idle else .corrupted
        | [code] => if kind.toNat = kindFault then .fault code.toNat else .corrupted
        | [b2, b1, b0] =>
          if kind.toNat = kindPunch then .punch sequence.toNat (b2.toNat * 65536 + b1.toNat * 256 + b0.toNat) else .corrupted
        | _ => .corrupted
    | _ => .corrupted

/-! ## Settling a TEST frame (R75) -/

/-- Outcomes of a TEST frame. -/
inductive TestOutcome where
  | good
  | checkFailed
  | aborted
  deriving DecidableEq, Repr

/-- Three cells with no transition, after the line of a TEST frame. -/
def quietTail : List Bool := List.replicate 48 false

/-- The line of a TEST frame from its first cell to its last sent cell, of `sent` steps; a line given shorter is quiet for the rest
(log 11). -/
def sentCells (sent : Nat) (line : List Bool) : List Bool := (line ++ List.replicate sent false).take sent

/-- The receiver after a TEST frame of `sent` steps: with no start byte found by the end of its last sent cell it aborts (R75), and a
frame still in progress there runs on, at last in quiet, which two missing boundaries abort (R58). -/
def receiveTest (k : Listening) (sent : Nat) (line : List Bool) : Receiver :=
  let r := Receiver.receive k (sentCells sent line)
  if r.inFrame then (line.drop sent ++ quietTail).foldl (Receiver.next k) r
  else if r.result = .pending then r.settle .aborted
  else r

/-- The outcome of TEST frame `n` (R75). -/
def testOutcome (check : CheckKind) (n : Nat) (r : Receiver) : TestOutcome :=
  match r.result with
  | .complete bytes =>
    if bytes = testCovered n ++ loopCheck check (testCovered n) then .good else .checkFailed
  | _ => .aborted

end Sys2Proof.Machine
end

