-- ==== Sys2Proof/Machine/Loops.lean ====
section
/-! DEFINITION. The Loop Controllers (Section 4): configuration, start and stop, polling, settled answers, positions, loss, and the
loop test. -/

namespace Sys2Proof.Machine

/-! ## Positions and gates (R64, R69) -/

/-- The addresses PRESENT on the loop. -/
def LoopState.present (l : LoopState) : List Nat := (l.positions.filter (·.present)).map (·.address)

/-- The gates bound to the loop's positions, ascending. -/
def LoopState.boundGates (l : LoopState) : List Nat := allGates.filter l.binds

/-- A change that bears on the cut-off, made known to every gate bound to the loop (R69). -/
def deliverToGates (l : Nat) (s : State) : State := applyStandings (s.loopAt l).boundGates s

/-- A READER_EVENT queued (R67, R68). -/
def readerEvent (l address : Nat) (cause : ReaderCause) (code : Nat) (s : State) : State :=
  queueReport (.readerEvent l address cause code s.plantSecond) s

/-- A change of loop state: the new loop, its LOOP_EVENT (R64), and the change made known to the gates (R69). -/
def changeMode (l : Nat) (cause : LoopCause) (x : LoopState) (s : State) : State :=
  let left := (s.loopAt l).mode
  deliverToGates l (queueReport (.loopEvent l left x.mode cause s.plantSecond x.present) (s.setLoop l x))

/-- Every position ABSENT with a silence run of 0 (R61, R78). -/
def Position.absent (p : Position) : Position := { p with present := false, silence := 0 }

/-- A position ABSENT with its duplicate record cleared (R61). -/
def Position.cleared (p : Position) : Position := { p.absent with duplicate := none }

/-! ## The next frame (R62, R65) -/

/-- The lowest configured address. -/
def LoopState.lowest (l : LoopState) : Option Nat := l.positions.head?.map (·.address)

/-- The highest configured address. -/
def LoopState.highest (l : LoopState) : Option Nat := l.positions.getLast?.map (·.address)

/-- The address polled next: the first above the cursor, or the lowest (R65). -/
def LoopState.nextAddress (l : LoopState) : Option Nat :=
  ((l.positions.find? fun p => l.cursor < p.address).map (·.address)).or l.lowest

/-- The POLL of an address begun; a loop with no address, which R61 excludes, has nothing to send (log 23). -/
def pollOf : Option Nat → Exchange
  | some a => .sendingPoll a
  | none => .idle

/-- The loop entering TRAINING: dead-poll run 0, and the wake (R62). -/
def LoopState.train (l : LoopState) : LoopState := { l with mode := .training, deadRun := 0, exchange := .sendingWake }

/-- The loop entering UP, with round-robin polling at the lowest address (R62). -/
def LoopState.enterUp (l : LoopState) : LoopState := { l with mode := .up, exchange := pollOf l.lowest }

/-- Is the roll call complete: the highest configured address polled (R62)? -/
def LoopState.rollCallDone (l : LoopState) : Bool :=
  match l.highest with
  | some a => l.cursor == a
  | none => true

/-- The exchange is complete: the change of state it causes, if any, and the next frame (R62, R65, R70, R71). -/
def finishExchange (l : Nat) (answer : Answer) (s : State) : State :=
  let x := s.loopAt l
  match x.mode with
  | .off | .testing => s
  | .training =>
    if x.rollCallDone then changeMode l .trained x.enterUp s
    else s.setLoop l { x with exchange := pollOf x.nextAddress }
  | .up =>
    if answer = .silent ∧ x.config.dlos ≤ x.deadRun then
      changeMode l .loss { x with mode := .lost, validRun := 0, exchange := pollOf x.nextAddress } s
    else s.setLoop l { x with exchange := pollOf x.nextAddress }
  | .lost =>
    if answer.valid ∧ x.config.clos ≤ x.validRun then changeMode l .regained x.train s
    else s.setLoop l { x with exchange := pollOf x.nextAddress }

/-! ## Settled answers (R60, R65 to R71) -/

/-- The position after a settled answer (R68). -/
def Position.settled (p : Position) (nmiss : Nat) (answer : Answer) : Position :=
  if answer.valid then { p with present := true, silence := 0 }
  else
    let run := min nmiss (p.silence + 1)
    { p with silence := run, present := p.present && run < nmiss }

/-- The loop with the position of an address moved by a settled answer, and the loss monitor with it (R68, R70, R71). -/
def LoopState.settled (l : LoopState) (address : Nat) (answer : Answer) : LoopState :=
  { l with
    positions := l.positions.map fun p => if p.address = address then p.settled l.config.nmiss answer else p
    deadRun := if answer = .silent then min 64 (l.deadRun + 1) else 0
    validRun := if l.mode = .lost then (if answer.valid then min 32 (l.validRun + 1) else 0) else l.validRun }

/-- The presence of an address. -/
def LoopState.isPresent (l : LoopState) (address : Nat) : Bool := (l.positionOf address).any (·.present)

/-- A settled answer handed to the position and the loss monitor; a change of presence queues its READER_EVENT, but for one to
PRESENT in TRAINING, and is made known to the gates (R62, R68 to R71). -/
def settleAnswer (l address : Nat) (answer : Answer) (s : State) : State :=
  let x := s.loopAt l
  let y := x.settled address answer
  let s := s.setLoop l y
  match x.isPresent address, y.isPresent address with
  | false, true =>
    deliverToGates l (if x.mode = .training then s else readerEvent l address .present 0 s)
  | true, false => deliverToGates l (readerEvent l address .absent 0 s)
  | _, _ => s

/-- The exchange of a loop set. -/
def setExchange (l : Nat) (e : Exchange) (s : State) : State := s.setLoop l { s.loopAt l with exchange := e }

/-- A valid PUNCH answer (R66): in TRAINING and UP a repeat is answered from the record and a new punch is offered; in LOST it is
neither. -/
def takePunchAnswer (l address sequence badge : Nat) (s : State) : State :=
  let x := s.loopAt l
  if x.mode = .lost then finishExchange l (.punch sequence badge) s
  else
    match (x.positionOf address).bind (·.duplicate) with
    | some d =>
      if d.sequence = sequence then setExchange l (.sendingVerdict address sequence d.verdict) s
      else setExchange l (.offering ⟨l, address, sequence, badge, s.plantSecond⟩) s
    | none => setExchange l (.offering ⟨l, address, sequence, badge, s.plantSecond⟩) s

/-- A complete or silent answer settled and acted on by its kind (R65). -/
def actOnAnswer (l address : Nat) (answer : Answer) (s : State) : State :=
  let s := settleAnswer l address answer s
  match answer with
  | .silent | .corrupted | .idle => finishExchange l answer s
  | .fault code => finishExchange l answer (readerEvent l address .fault code s)
  | .punch sequence badge => takePunchAnswer l address sequence badge s

/-- The latches a reception sets (R58). -/
def LoopState.latch (l : LoopState) (r : Receiver) : LoopState :=
  { l with miss1 := l.miss1 || r.miss1, miss2 := l.miss2 || r.miss2 }

/-- An aborted answer: settled as corrupted, and quiet awaited before the next frame (R60). -/
def abortAnswer (l address : Nat) (r : Receiver) (s : State) : State :=
  let s := s.setLoop l ((s.loopAt l).latch r)
  setExchange l .quiet (finishExchange l .corrupted (settleAnswer l address .corrupted s))

/-- An event of a loop whose answer is awaited. -/
def whileAwaiting (l : Fin 4) (f : Nat → State → State) (s : State) : Host.Outcome State Fault Refusal :=
  whileLive (fun s =>
    match (s.loopAt l).exchange with
    | .awaiting address => f address s
    | _ => s) s

/-! ## Requests -/

/-- The address order in which bindings are stored (R54). -/
def insertBinding (b : BindingFields) : List BindingFields → List BindingFields
  | [] => [b]
  | x :: rest => if b.address < x.address then b :: x :: rest else x :: insertBinding b rest

/-- A binding as it is stored: ABSENT, silence run 0, with the duplicate record its address held (R54). -/
def LoopState.bind (l : LoopState) (b : BindingFields) : Position :=
  ⟨b.address, b.gate, (directionOf b.direction).getD .inward, false, 0, (l.positionOf b.address).bind (·.duplicate)⟩

/-- LOOP_CONFIG (R54). -/
def execLoopConfig (tag loop : Nat) (fields : LoopFields) (s : State) : Host.Outcome State Fault Refusal :=
  serve 0x30 tag (fun s =>
    if !within 0 loop 3 then refuse .badValue s
    else if (s.loopAt loop).mode ≠ .off then refuse .state s
    else match loopConfigOf fields with
      | none => refuse .badValue s
      | some c =>
        let old := s.loopAt loop
        let new := { old with config := c, positions := (fields.positions.foldr insertBinding []).map old.bind }
        let learning := allGates.filter fun g => old.binds g || new.binds g
        okay (applyStandings learning (s.setLoop loop new))) s

/-- The loop as LOOP_START leaves it (R61). -/
def LoopState.started (l : LoopState) : LoopState :=
  { l with intent := true, miss1 := false, miss2 := false, validRun := 0
           positions := l.positions.map Position.cleared }.train

/-- LOOP_START (R61). -/
def execLoopStart (tag loop : Nat) (s : State) : Host.Outcome State Fault Refusal :=
  serve 0x31 tag (fun s =>
    if !within 0 loop 3 then refuse .badValue s
    else
      let x := s.loopAt loop
      if x.mode ≠ .off ∨ x.positions = [] then refuse .state s
      else okay (changeMode loop .start x.started s)) s

/-- The loop as LOOP_STOP leaves it (R63). -/
def LoopState.stopped (l : LoopState) : LoopState :=
  { l with mode := .off, intent := false, tracker := .search, exchange := .idle }

/-- LOOP_STOP (R63). -/
def execLoopStop (tag loop : Nat) (s : State) : Host.Outcome State Fault Refusal :=
  serve 0x32 tag (fun s =>
    if !within 0 loop 3 then refuse .badValue s
    else
      let x := s.loopAt loop
      if x.mode = .off then okay (s.setLoop loop { x with intent := false })
      else okay (changeMode loop .stop x.stopped s)) s

/-- LOOP_TEST (R74). -/
def execLoopTest (tag loop k : Nat) (s : State) : Host.Outcome State Fault Refusal :=
  serve 0x33 tag (fun s =>
    if !(within 0 loop 3 && within 1 k 255) then refuse .badValue s
    else
      let x := s.loopAt loop
      if x.mode ≠ .off then refuse .state s
      else okay (changeMode loop .test
        { x with mode := .testing, good := 0, checkFailed := 0, aborted := 0, exchange := .testing k 1 } s)) s

/-- What LOOP_STATUS shows of a loop (R76). -/
def LoopState.reading (l : LoopState) : LoopReading :=
  ⟨l.config, l.mode, l.intent, l.miss1, l.miss2, l.deadRun, l.validRun, l.positions⟩

/-- LOOP_STATUS (R76). -/
def execLoopStatus (tag loop : Nat) (clearLatches : Bool) (s : State) : Host.Outcome State Fault Refusal :=
  serve 0x34 tag (fun s =>
    if !within 0 loop 3 then refuse .badValue s
    else
      let x := s.loopAt loop
      okayWith (.loop x.reading) (if clearLatches then s.setLoop loop x.clearLatches else s)) s

/-! ## Events of an exchange -/

/-- POLL_SENT (R60): the answer is awaited, and the cursor names the address polled (R65). -/
def execPollSent (loop : Fin 4) (s : State) : Host.Outcome State Fault Refusal :=
  whileLive (fun s =>
    let x := s.loopAt loop
    match x.exchange with
    | .sendingPoll a => s.setLoop loop { x with cursor := a, exchange := .awaiting a }
    | _ => s) s

/-- WAKE_SENT (R62): the roll call begins at the lowest address. -/
def execWakeSent (loop : Fin 4) (s : State) : Host.Outcome State Fault Refusal :=
  whileLive (fun s =>
    let x := s.loopAt loop
    match x.exchange, x.lowest with
    | .sendingWake, some a => s.setLoop loop { x with exchange := .sendingPoll a }
    | .sendingWake, none => changeMode loop .trained x.enterUp s
    | _, _ => s) s

/-- VERDICT_SENT (R66): the exchange of the punch is complete. -/
def execVerdictSent (loop : Fin 4) (s : State) : Host.Outcome State Fault Refusal :=
  whileLive (fun s =>
    match (s.loopAt loop).exchange with
    | .sendingVerdict _ sequence _ => finishExchange loop (.punch sequence 0) s
    | _ => s) s

/-- RESPONSE_WINDOW_EXPIRED (R60): a silent answer. -/
def execResponseWindowExpired (loop : Fin 4) (s : State) : Host.Outcome State Fault Refusal :=
  whileAwaiting loop (fun address s => actOnAnswer loop address .silent s) s

/-- LOOP_ANSWER_RECEIVED (R60): the line holds a frame that completes. -/
def execLoopAnswerReceived (loop : Fin 4) (line : List Bool) (s : State) : Host.Outcome State Fault Refusal :=
  whileAwaiting loop (fun address s =>
    let x := s.loopAt loop
    let r := Receiver.receive x.config.answer line
    match r.result with
    | .complete bytes => actOnAnswer loop address (classify x.config.check address bytes) (s.setLoop loop (x.latch r))
    | _ => s) s

/-- LOOP_FRAME_ABORTED (R58): the line holds a frame that aborts in the frame. -/
def execLoopFrameAborted (loop : Fin 4) (line : List Bool) (s : State) : Host.Outcome State Fault Refusal :=
  whileAwaiting loop (fun address s =>
    let r := Receiver.receive (s.loopAt loop).config.answer line
    if r.result = .aborted then abortAnswer loop address r s else s) s

/-- HUNT_BOUND_EXPIRED (R56): the line holds no start byte within the hunt bound. -/
def execHuntBoundExpired (loop : Fin 4) (line : List Bool) (s : State) : Host.Outcome State Fault Refusal :=
  whileAwaiting loop (fun address s =>
    let r := Receiver.receive (s.loopAt loop).config.answer line
    if r.result = .huntBound then abortAnswer loop address r s else s) s

/-- ABORT_QUIET_ENDED (R60): the next frame is sent. -/
def execAbortQuietEnded (loop : Fin 4) (s : State) : Host.Outcome State Fault Refusal :=
  whileLive (fun s =>
    let x := s.loopAt loop
    match x.exchange with
    | .quiet => s.setLoop loop { x with exchange := pollOf x.nextAddress }
    | _ => s) s

/-- The loop with one TEST frame counted (R75). -/
def LoopState.count (l : LoopState) : TestOutcome → LoopState
  | .good => { l with good := l.good + 1 }
  | .checkFailed => { l with checkFailed := l.checkFailed + 1 }
  | .aborted => { l with aborted := l.aborted + 1 }

/-- The end of a test (R75): LOOP_TEST_DONE, then OFF with its LOOP_EVENT. -/
def endTest (l k : Nat) (x : LoopState) (s : State) : State :=
  let s := queueReport (.loopTestDone l k x.good x.checkFailed x.aborted) (s.setLoop l x)
  changeMode l .testEnd { x with mode := .off, tracker := .search, exchange := .idle } s

/-- TEST_FRAME_SETTLED (R75). -/
def execTestFrameSettled (loop : Fin 4) (line : List Bool) (s : State) : Host.Outcome State Fault Refusal :=
  whileLive (fun s =>
    let x := s.loopAt loop
    match x.exchange with
    | .testing k n =>
      let r := receiveTest x.config.loopback (x.config.testSteps n) line
      let y := (x.latch r).count (testOutcome x.config.check n r)
      if n < k then s.setLoop loop { y with exchange := .testing k (n + 1) } else endTest loop k y s
    | _ => s) s

end Sys2Proof.Machine
end

