-- ==== Sys2Proof/Machine/Period.lean ====
section
/-! DEFINITION. The Period Unit (Section 9): closing, the READY event, the close stream, releasing. -/

namespace Sys2Proof.Machine

/-- The bank added into a summary (Table 9.3). -/
def Summary.addBank (t : Summary) (b : Bank) : Summary :=
  { workers := t.workers + 1, regular := t.regular + b.regular, overtime := t.overtime + b.overtime, night := t.night + b.night
    pay := t.pay + b.pay, count := t.count + b.count, anomalyWorkers := t.anomalyWorkers + (if b.anomalies.isEmpty then 0 else 1) }

/-- The records whose CLOSING bank is not empty, in badge order (R144). -/
def State.closingRecords (s : State) : List WorkerRecord := s.workers.filter fun w => !w.closing.isEmpty

/-- The crew a bank is summed under: its crew of record, or 0 (R144). -/
def Bank.summaryCrew (b : Bank) : Nat := b.crew.getD 0

/-- The sum of a list of banks (R144). -/
def sumBanks (banks : List Bank) : Summary := banks.foldl Summary.addBank Summary.zero

/-- The READY event (R144). -/
def readyEvent (s : State) : State :=
  let banks := s.closingRecords.map (·.closing)
  let n := banks.length
  let p := { s.period with
    state := .ready
    crews := Vector.ofFn fun c => sumBanks (banks.filter fun b => b.summaryCrew == c.val)
    grand := sumBanks banks
    workerCount := n
    cursor := 1
    cursorBadge := 0 }
  queueReport (.closeReady p.number p.boundary n (n + 11) s.plantSecond) { s with period := p }

/-- The READY event where its condition holds: PENDING with the counter at 0 (R144, R152). -/
def readyIfDue (s : State) : State :=
  if s.period.state = .pending ∧ s.period.counter = 0 then readyEvent s else s

/-- READY_EVENT (R144). -/
def execReadyEvent (s : State) : Host.Outcome State Fault Refusal := whileLive readyIfDue s

/-- The tag of an attendance judged at the close: CLOSING when S is below B (R141, R142). -/
def Attendance.retag (boundary : Nat) (a : Attendance) : Attendance :=
  if a.start < boundary then { a with tag := .closing } else a

/-- The record at the close: the banks swapped, the attendance retagged (R141). -/
def closeRecord (boundary : Nat) (w : WorkerRecord) : WorkerRecord :=
  { w with closing := w.current, current := Bank.empty, attendance := w.attendance.map (Attendance.retag boundary) }

/-- Does the record hold an open attendance tagged CLOSING? -/
def WorkerRecord.taggedClosing (w : WorkerRecord) : Bool :=
  match w.attendance with
  | some a => a.tag == .closing
  | none => false

/-- The close event (R141, steps 1 to 5). -/
def closePeriod (number : Nat) (s : State) : State :=
  let boundary := s.plantMinute
  let workers := s.workers.map (closeRecord boundary)
  { s with
    workers := workers
    period := { s.period with state := .pending, boundary := boundary, number := number
                              counter := workers.countP (·.taggedClosing) } }

/-- PERIOD_CLOSE (R141). -/
def execPeriodClose (tag number : Nat) (s : State) : Host.Outcome State Fault Refusal :=
  serve 0x50 tag (fun s =>
    if !within 1 number 65535 then refuse .badValue s
    else if s.period.state ≠ .free then refuse .busy s
    else if s.time.validity = .unset then refuse .state s
    else
      let s := readyIfDue (closePeriod number s)
      okayWith (.periodClosed s.period.boundary s.period.number s.period.counter s.period.state) s) s

/-- The record count of the stream (9.4). -/
def PeriodUnit.recordCount (p : PeriodUnit) : Nat := p.workerCount + 11

/-- The stream record at the cursor, with the badge it leaves in the cursor (R146, R147, Table 9.4). -/
def State.streamNext (s : State) : Option (StreamRecord × Nat) :=
  let p := s.period
  if p.cursor = 1 then some (.periodStart p.number p.previous p.boundary p.workerCount, p.cursorBadge)
  else if within 2 p.cursor 10 then
    some (.crewSummary (p.cursor - 2) (p.crews.getD (p.cursor - 2) Summary.zero), p.cursorBadge)
  else if p.cursor ≤ p.workerCount + 10 then
    (s.closingRecords.find? fun w => p.cursorBadge < w.badge).map fun w => (.worker w.badge w.closing, w.badge)
  else if p.cursor = p.recordCount then some (.periodEnd p.grand p.recordCount, p.cursorBadge)
  else none

/-- Delivery of up to `k` records from the cursor; delivering PERIOD_END drains the stream (R147). -/
def deliver : Nat → State → State × List StreamRecord
  | 0, s => (s, [])
  | k + 1, s =>
    match s.streamNext with
    | none => (s, [])
    | some (r, badge) =>
      let last := s.period.cursor == s.period.recordCount
      let p := { s.period with cursor := s.period.cursor + 1, cursorBadge := badge
                               state := if last then .drained else s.period.state }
      let rest := deliver k { s with period := p }
      (rest.1, r :: rest.2)

/-- A rewind: the cursor at record 1 and the state READY (R148). -/
def rewindStream (s : State) : State :=
  { s with period := { s.period with cursor := 1, cursorBadge := 0, state := .ready } }

/-- CLOSE_READ (R147, R148). The first record number of a reply with no record is a free value (log 9). -/
def execCloseRead (tag k : Nat) (rewind : Bool) (s : State) : Host.Outcome State Fault Refusal :=
  serve 0x51 tag (fun s =>
    if !within 1 k 8 then refuse .badValue s
    else if s.period.state = .free ∨ s.period.state = .pending then refuse .notReady s
    else
      let s := if rewind then rewindStream s else s
      let r := deliver k s
      let count := s.period.recordCount
      let first := if r.2.isEmpty then (Config.firstOfNone count).toNat else s.period.cursor
      okayWith (.stream first r.2 count r.1.period.state) r.1) s

/-- CLOSE_RELEASE (R149). -/
def execCloseRelease (tag : Nat) (s : State) : Host.Outcome State Fault Refusal :=
  serve 0x52 tag (fun s =>
    if s.period.state ≠ .drained then refuse .notDrained s
    else okayWith (.periodReleased s.period.number s.period.boundary)
      { s with
        workers := s.workers.map fun w => { w with closing := Bank.empty }
        period := { s.period with
          state := .free, previous := s.period.boundary, counter := 0, crews := Vector.replicate 9 Summary.zero
          grand := Summary.zero, workerCount := 0, cursor := 1, cursorBadge := 0 } }) s

/-- PERIOD_READ (R150). -/
def execPeriodRead (tag : Nat) (s : State) : Host.Outcome State Fault Refusal :=
  serve 0x53 tag (fun s =>
    let p := s.period
    okayWith (.period ⟨p.state, p.number, p.boundary, p.previous, p.counter, p.workerCount, p.cursor,
      if p.state = .ready ∨ p.state = .drained then some p.grand else none⟩) s) s

end Sys2Proof.Machine
end

