-- ==== Sys2Proof/Machine/Time.lean ====
section
/-! DEFINITION. The Timebase and the Impulse Follower (Section 1): the second event, the minute event, alignment, discipline, and the
clock requests. -/

namespace Sys2Proof.Machine

/-! ## Counting (R1, R2) -/

/-- A reload of the divider: 32,768 + trim periods (R1). -/
def Timebase.reload (t : Timebase) : Nat := (32768 + t.trim).toNat

/-- A restart of the divider, with the mark NONE (R1, R2). -/
def Timebase.restart (t : Timebase) : Timebase := { t with divider := t.reload, mark := .none }

/-- The time moved on by up to 60 s, with the carry into the day number and its wrap (R2, R11). -/
def Timebase.advance (t : Timebase) (n : Nat) : Timebase :=
  if t.second + n < 86400 then { t with second := t.second + n }
  else { t with second := t.second + n - 86400, day := (t.day + 1) % 65536 }

/-- The second count under the correction mark (R2). -/
def Timebase.count (t : Timebase) : Timebase :=
  match t.mark with
  | .none => t.advance 1
  | .hold => if t.secondOfMinute = 58 then { t.advance 1 with mark := .holding } else t.advance 1
  | .holding => { t with mark := .none }
  | .omit => if t.secondOfMinute = 58 then { t.advance 2 with mark := .none } else t.advance 1

/-- The second count of a part that does not work: on the crystal and the trim alone, with no correction (R17, R163, R165). The mark,
which the next start makes NONE and nothing reads before it, is NONE from here (log 13). -/
def Timebase.coast (t : Timebase) : Timebase := { t.advance 1 with mark := .none }

/-- A second event at the Timebase: the reload, and the count of a part that works or does not (R1, R2, R163). -/
def Timebase.secondEvent (t : Timebase) (working : Bool) : Timebase :=
  { (if working then t.count else t.coast) with divider := t.reload }

/-! ## Minute events (R3) -/

/-- The minute event at its receivers: auto-close where it carries SET (R44), and the bell due check (R156). -/
def minuteEvent (s : State) : State :=
  let m := s.plantMinute
  let s := if s.time.validity = .set then autoClose m s else s
  { s with bells := s.bells.dueCheck s.calendar s.time.validity m }

/-- After a change of the time by counting or forward alignment: the window C in force for a minute that has begun (R9, log 12), and
the minute event while the part works (R3). -/
def noteMinute (before : Nat) (s : State) : State :=
  if s.plantMinute = before then s
  else
    let s := { s with follower := { s.follower with minuteWindow := s.follower.window } }
    if s.live then minuteEvent s else s

/-! ## The follower (R10 to R16) -/

/-- A change of the follower's state with its CLOCK_EVENT, read after the change (R16). -/
def followerEvent (cause : ClockCause) (f : Follower) (s : State) : State :=
  queueReport (.clockEvent s.follower.state f.state cause s.plantSecond f.phase) { s with follower := f }

/-- The mark NONE (R2). -/
def clearMark (s : State) : State := { s with time := { s.time with mark := .none } }

/-- A missing impulse at a window check (R14). -/
def missImpulse (s : State) : State :=
  let f := { s.follower with missingRun := s.follower.missingRun + 1 }
  if f.missingRun < 2 then { s with follower := { f with miss1 := true } }
  else followerEvent .miss { f with miss2 := true, state := .holdover } (clearMark s)

/-- The window check in LOCKED (R14). -/
def windowCheck (s : State) : State :=
  if s.follower.windowFlag then { s with follower := { s.follower with windowFlag := false } } else missImpulse s

/-- The window watch at a second event: the check at the second event that begins second C + 1 (R14). -/
def windowWatch (s : State) : State :=
  if s.live ∧ s.follower.state = .locked ∧ s.time.secondOfMinute = s.follower.minuteWindow + 1 then windowCheck s else s

/-- Phase error of an impulse at position `p` (R10). -/
def phaseError (p : Nat) : Int := if p < 30 then p else (p : Int) - 60

/-- The time aligned to an impulse (R11). -/
def Timebase.align (t : Timebase) : Timebase :=
  let p := t.secondOfMinute
  (if p < 30 then { t with second := t.second - p } else t.advance (60 - p)).restart

/-- An impulse accepted in SEARCH or HOLDOVER (R11): `f` has its line and its phase error. -/
def alignTo (f : Follower) (s : State) : State :=
  let before := s.plantMinute
  let s := followerEvent .align { f with windowFlag := true, missingRun := 0, wideRun := 0, state := .locked }
    { s with time := s.time.align }
  noteMinute before s

/-- Is position `p` in the window of C seconds (R12)? -/
def inWindow (c p : Nat) : Bool := 60 ≤ p + c || p ≤ c

/-- The correction an in-window impulse orders where the mark is NONE (R12). -/
def correctionOf (e : Int) : Mark := if e = 0 then .none else if 0 < e then .hold else .omit

/-- An impulse accepted in LOCKED, in window (R12). -/
def disciplineIn (f : Follower) (s : State) : State :=
  { s with
    follower := { f with windowFlag := true, missingRun := 0, wideRun := 0 }
    time := { s.time with mark := if s.time.mark = .none then correctionOf f.phase else s.time.mark } }

/-- An impulse accepted in LOCKED, outside the window (R13). -/
def disciplineOut (f : Follower) (s : State) : State :=
  let f := { f with wideRun := f.wideRun + 1 }
  if f.wideRun < 2 then { s with follower := { f with wide1 := true } }
  else followerEvent .wide { f with wide2 := true, state := .search } (clearMark s)

/-- An impulse event at the follower (R10). -/
def takeImpulse (line : MasterLine) (s : State) : State :=
  let p := s.time.secondOfMinute
  let accepted := { s.follower with lastLine := some line, phase := phaseError p }
  match s.follower.state with
  | .off => s
  | .search | .holdover => alignTo accepted s
  | .locked =>
    if s.follower.lastLine = some line then s
    else if inWindow s.follower.window p then disciplineIn accepted s
    else disciplineOut accepted s

/-- Does the line's qualifier wait for its line to go inactive (R8)? -/
def Follower.held (f : Follower) : MasterLine → Bool
  | .mia => f.miaHeld
  | .mib => f.mibHeld

/-- The line's qualifier has delivered its impulse and waits for the line to go inactive (R8). -/
def Follower.hold (f : Follower) : MasterLine → Follower
  | .mia => { f with miaHeld := true }
  | .mib => { f with mibHeld := true }

/-- The qualifier of a line at a line active for its span: an impulse, unless the line has not been inactive since the last one, or
since a start that found it active (R8). -/
def qualifyImpulse (l : ActiveLine) (s : State) : State :=
  if s.follower.held l.line && !l.rearmed then s
  else takeImpulse l.line { s with follower := s.follower.hold l.line }

/-- IMPULSE_EVENT (R8, R10 to R13). -/
def execImpulseEvent (line : ActiveLine) (s : State) : Host.Outcome State Fault Refusal :=
  whileLive (qualifyImpulse line) s

/-! ## The second event -/

/-- The gate timers' second event, while the part works (R102). -/
def gateSeconds (s : State) : State :=
  if s.live then { s with gates := mapUnits (fun _ g => g.countDown) s.gates } else s

/-- The backup duration's second event, in BACKUP (R163). -/
def backupSecond (s : State) : State :=
  match s.supply.state with
  | .run => s
  | .backup => { s with supply := { s.supply with duration := min Config.durationLimit (s.supply.duration + 1) } }

/-- The second event of a Timebase that runs (R1 to R3, R14, R102, R163). -/
def secondEvent (s : State) : State :=
  let counted := { s with time := s.time.secondEvent s.live }
  backupSecond (gateSeconds (windowWatch (noteMinute s.plantMinute counted)))

/-- SECOND_EVENT (R1): the divider reaches zero; a stopped Timebase gives none (R164). -/
def execSecondEvent (s : State) : Host.Outcome State Fault Refusal :=
  .next (match s.supply.retention with
    | .valid => secondEvent s
    | .lost => s)

/-! ## The crystal -/

/-- The tenth tick divider after one crystal period (R154). It counts on in BACKUP and while RESETn is low (DESIGN CHOICE, log 30). -/
def tickPeriod (s : State) : State :=
  if s.bells.tickElapsed + 1 < Config.tickPeriods s.bells.tickPlace then
    { s with bells := { s.bells with tickElapsed := s.bells.tickElapsed + 1 } }
  else tenthTick { s with bells := { s.bells with tickElapsed := 0, tickPlace := (s.bells.tickPlace + 1) % 10 } }

/-- The seconds divider after one crystal period (R1). -/
def dividerPeriod (s : State) : State :=
  if s.time.divider ≤ 1 then secondEvent s else { s with time := { s.time with divider := s.time.divider - 1 } }

/-- One crystal period: what the part does when no command waits (DESIGN CHOICE, log 1). A stopped crystal gives none (R164). -/
def crystalPeriod (s : State) : State :=
  match s.supply.retention with
  | .valid => tickPeriod (dividerPeriod s)
  | .lost => s

/-! ## Clock requests -/

/-- Size of a time step, without regard to the day wrap (R6). -/
def stepSize (old new : Nat) : Int := (new : Int) - old

/-- Is a step of 60 s or more either way (R6)? -/
def largeStep (size : Int) : Bool := 60 ≤ size || size ≤ -60

/-- The time step event at its receivers (R6): the bells' mark (R157), and the large-step marking (R47). -/
def timeStep (old : Nat) (s : State) : State :=
  let s := { s with bells := s.bells.raiseMark s.plantMinute }
  if largeStep (stepSize old s.plantSecond) then { s with workers := s.workers.map markStepped } else s

/-- The follower at a CLOCK_SET (R5, step 7). -/
def followerClockSet (s : State) : State :=
  match s.follower.state with
  | .off | .search => s
  | .locked | .holdover => followerEvent .clockSet { s.follower with state := .search } s

/-- CLOCK_SET accepted (R5, steps 1 to 7). -/
def setClock (day second : Nat) (s : State) : State :=
  let old := s.plantSecond
  let s := { s with
    time := { { s.time with day := day, second := second }.restart with validity := .set }
    follower := { s.follower with minuteWindow := s.follower.window } }
  followerClockSet (timeStep old s)

/-- CLOCK_SET (R5, R6). -/
def execClockSet (tag day second : Nat) (s : State) : Host.Outcome State Fault Refusal :=
  serve 0x01 tag (fun s =>
    if !(within 0 day 65535 && within 0 second 86399) then refuse .badValue s else okay (setClock day second s)) s

/-- The enable flag of CLOCK_CONFIG applied (R9). -/
def setEnable (enable : Bool) (s : State) : State :=
  match enable, s.follower.state with
  | true, .off =>
    followerEvent .enable
      { s.follower.clearLatches with
        enable := true, state := .search, missingRun := 0, wideRun := 0, windowFlag := false, lastLine := none } s
  | false, .search | false, .locked | false, .holdover =>
    followerEvent .disable { s.follower with enable := false, state := .off } (clearMark s)
  | true, .search | true, .locked | true, .holdover | false, .off => s

/-- CLOCK_CONFIG (R9). -/
def execClockConfig (tag : Nat) (enable : Bool) (window : Nat) (trim : Int) (s : State) : Host.Outcome State Fault Refusal :=
  serve 0x02 tag (fun s =>
    if !(within 1 window 30 && -128 ≤ trim && trim ≤ 127) then refuse .badValue s
    else okay (setEnable enable { s with
      time := { s.time with trim := trim }, follower := { s.follower with window := window } })) s

/-- What CLOCK_READ shows (R15). -/
def State.clockReading (s : State) : ClockReading :=
  ⟨s.time.day, s.time.second, s.time.validity, s.time.trim, s.follower.enable, s.follower.window, s.follower.state,
    s.follower.lastLine, s.time.mark, s.follower.miss1, s.follower.miss2, s.follower.wide1, s.follower.wide2, s.follower.phase⟩

/-- CLOCK_READ (R15). -/
def execClockRead (tag : Nat) (clearLatches : Bool) (s : State) : Host.Outcome State Fault Refusal :=
  serve 0x03 tag (fun s =>
    okayWith (.clock s.clockReading) (if clearLatches then { s with follower := s.follower.clearLatches } else s)) s

end Sys2Proof.Machine
end

