-- ==== Sys2Proof/Machine/Supply.lean ====
section
/-! DEFINITION. The Supply Monitor and the starts (Section 11), with each block's start values. -/

namespace Sys2Proof.Machine

/-! ## Stopping (R163, R165) -/

/-- A loop stops where it stands (R78): its exchange and an offer not yet taken are lost. -/
def LoopState.stop (l : LoopState) : LoopState := { l with exchange := .idle, tracker := .search }

/-- The link abandons a partial frame and the reply in hand (R163). -/
def StationLink.stop (l : StationLink) : StationLink := { l with held := none, partialFrame := [] }

/-- The part stops its field and host work, by a main loss or by RESETn low (R163, R165). -/
def stopWork (s : State) : State :=
  { s with loops := mapUnits (fun _ l => l.stop) s.loops, link := s.link.stop }

/-! ## Start values -/

/-- The follower's qualifiers take their lines as they stand (R8). -/
def Follower.sample (f : Follower) (v : InputLevels) : Follower := { f with miaHeld := v.mia, mibHeld := v.mib }

/-- The follower at a warm start (R17). -/
def Follower.warm (f : Follower) (v : InputLevels) : Follower :=
  let cleared : Follower := { f.clearLatches with
    missingRun := 0, wideRun := 0, windowFlag := false, lastLine := none
    state := if f.state = .off then .off else .holdover }
  cleared.sample v

/-- A gate's inputs taken at their levels (R97). -/
def Gate.sample (x : Gate) (g : Nat) (v : InputLevels) : Gate :=
  { x with contactOpen := v.gate0.getLsbD g, pulse0 := v.gate0.getLsbD g, pulse1 := v.gate1.getLsbD g }

/-- A gate at a start: arming, timers, passage and alarm state discarded, a hinged gate at rest by its contact (R115, R116). -/
def Gate.begin (x : Gate) (g : Nat) (v : InputLevels) : Gate :=
  let y := { x.disarm with heldTimer := none }.sample g v
  match y.config.kind with
  | .turnstile => { y with hinged := .locked }
  | .hinged => y.rest

/-- A loop at a warm start (R78). -/
def LoopState.warm (l : LoopState) : LoopState :=
  { l with
    mode := if l.intent then .training else .off
    exchange := if l.intent then .sendingWake else .idle
    tracker := .search, miss1 := false, miss2 := false, deadRun := 0, validRun := 0, cursor := 0
    good := 0, checkFailed := 0, aborted := 0
    positions := l.positions.map Position.absent }

/-- The bells at a warm start (R162): every zone SILENT, and the mark raised to the plant minute (R157). The tick divider keeps its phase
(DESIGN CHOICE, log 30). -/
def Bells.warm (b : Bells) (m : Nat) : Bells := { b with zones := Vector.replicate 4 Zone.silent }.raiseMark m

/-- The link at a start, holding the START report (R166, R172). -/
def StationLink.begin (v : InputLevels) (report : Report) : StationLink :=
  { held := none, reports := [report], overrun := false, dropped := false, partialFrame := []
    baud0 := v.baud0, baud1 := v.baud1 }

/-! ## The starts (R166) -/

/-- Gate `g` hands its pending passage over as resolved by the warm start (R116, R125). -/
def restartVoid (s : State) (g : Nat) : State :=
  match (s.gateAt g).passage with
  | some p => resolvePassage g p .restart (s.setGate g (s.gateAt g).disarm)
  | none => s

/-- A warm start (R166): the report queue with START, the restart voids in ascending gate order, the READY event where it is due, the
wakes; and every block's start values. -/
def warmStart (cause : StartCause) (duration : Nat) (v : InputLevels) (s : State) : State :=
  let s := { s with
    supply := { s.supply with state := .run, firstPower := false, startOwed := false }
    time := { s.time with mark := .none }
    follower := s.follower.warm v
    fire := false
    punch := PunchProcessor.start
    link := StationLink.begin v (.start .warm cause duration s.plantSecond)
    bells := s.bells.warm s.plantMinute }
  let s := allGates.foldl restartVoid s
  let s := readyIfDue s
  let s := { s with
    loops := mapUnits (fun _ l => l.warm) s.loops
    gates := mapUnits (fun g x => x.begin g v) s.gates }
  applyStandings allGates s

/-- A cold start (R166): every block's cold-start values. The RESETn pin, the crystal's tick divider, the last backup duration and
the commands that wait are no block's start values and stay (log 2). Its START report carries the plant second after the cold-start
values, 0 (DESIGN CHOICE, log 28). -/
def coldStart (cause : StartCause) (v : InputLevels) (s : State) : State :=
  { State.reset with
    follower := Follower.cold.sample v
    gates := mapUnits (fun g x => x.begin g v) State.reset.gates
    bells := { Bells.cold with tickElapsed := s.bells.tickElapsed, tickPlace := s.bells.tickPlace }
    supply := ⟨.run, .valid, s.supply.duration, false, false, s.supply.resetnHigh⟩
    link := StationLink.begin v (.start .cold cause 0 0)
    pending := s.pending }

/-- The start that follows a restore of the main supply (R164, R165). -/
def restoreStart (v : InputLevels) (s : State) : State :=
  match s.supply.retention with
  | .valid => warmStart .supply s.supply.duration v s
  | .lost => coldStart (if s.supply.firstPower then .firstPower else .supply) v s

/-! ## Supply events -/

/-- MAIN_LOSS (R163): taken in RUN; the operand says that VBAK already stands below 2.20 V. -/
def execMainLoss (vbakLow : Bool) (s : State) : Host.Outcome State Fault Refusal :=
  .next (match s.supply.state with
    | .backup => s
    | .run => stopWork { s with supply := { s.supply with
        state := .backup, duration := 0, startOwed := false
        retention := if vbakLow then .lost else s.supply.retention } })

/-- BACKUP_LOW (R164): taken in BACKUP. -/
def execBackupLow (s : State) : Host.Outcome State Fault Refusal :=
  .next (match s.supply.state with
    | .run => s
    | .backup => { s with supply := { s.supply with retention := .lost } })

/-- MAIN_RESTORED (R164): taken in BACKUP; while RESETn is low the start is owed until it returns high (R165). -/
def execMainRestored (levels : InputLevels) (s : State) : Host.Outcome State Fault Refusal :=
  .next (match s.supply.state with
    | .run => s
    | .backup =>
      let s := { s with supply := { s.supply with state := .run } }
      if s.supply.resetnHigh then restoreStart levels s
      else { s with supply := { s.supply with startOwed := true } })

/-- RESETN_LOW (R165): the part is held as in BACKUP. -/
def execResetnLow (s : State) : Host.Outcome State Fault Refusal :=
  .next (stopWork { s with supply := { s.supply with resetnHigh := false } })

/-- RESETN_RELEASED (R165): taken while RESETn is low. In RUN it gives the start a restore left owed, or a warm start of its own; in
BACKUP the start waits for the restore (log 14). -/
def execResetnReleased (levels : InputLevels) (s : State) : Host.Outcome State Fault Refusal :=
  .next (if s.supply.resetnHigh then s
    else
      let s := { s with supply := { s.supply with resetnHigh := true } }
      match s.supply.state with
      | .backup => s
      | .run => if s.supply.startOwed then restoreStart levels s else warmStart .resetn 0 levels s)

/-- FIRST_POWER (R165): power reaches a part whose backup domain held no supply. -/
def execFirstPower (s : State) : Host.Outcome State Fault Refusal :=
  .next (stopWork { s with supply := { s.supply with
    state := .backup, retention := .lost, firstPower := true, startOwed := false } })

/-- RESTART (R165): accepted in every state; its start follows the reply (REPLY_SENT). -/
def execRestart (tag : Nat) (s : State) : Host.Outcome State Fault Refusal := serve 0x68 tag okay s

/-- FACTORY_CLEAR (R165): accepted in every state; its start follows the reply (REPLY_SENT). -/
def execFactoryClear (tag : Nat) (s : State) : Host.Outcome State Fault Refusal := serve 0x69 tag okay s

end Sys2Proof.Machine
end

