-- ==== Sys2Proof/Machine/Link.lean ====
section
/-! DEFINITION. The Station Link (Section 12): STATUS, the report queue, and the frames that are no request. -/

namespace Sys2Proof.Machine

/-- What STATUS shows (R171). -/
def State.statusReading (s : State) : StatusReading :=
  ⟨s.time.validity, s.follower.state, s.loops.toList.map (·.mode),
    allGates.map fun g => ⟨s.gateState g, (s.gateAt g).mode⟩,
    s.fire, s.journal.held, s.journal.reserved, s.period.state, s.period.counter, s.link.reports.length,
    s.link.overrun, s.link.dropped⟩

/-- STATUS (R171): both flags are cleared once they stand in the reply. -/
def execStatus (tag : Nat) (s : State) : Host.Outcome State Fault Refusal :=
  serve 0x70 tag (fun s =>
    okayWith (.status s.statusReading) { s with link := { s.link with overrun := false, dropped := false } }) s

/-- REPORT_FETCH (R169). -/
def execReportFetch (tag k : Nat) (s : State) : Host.Outcome State Fault Refusal :=
  serve 0x71 tag (fun s =>
    if !within 1 k 4 then refuse .badValue s
    else
      let left := s.link.reports.drop k
      okayWith (.reports (s.link.reports.take k) left.length) { s with link := { s.link with reports := left } }) s

/-- UNKNOWN_KIND (R168): a complete frame whose kind names no request. A frame of a known kind whose body has not the length of R173
is answered BAD_VALUE here, and one whose body has it is another command's (log 7). -/
def execUnknownKind (kind tag : Nat) (body : List Byte) (s : State) : Host.Outcome State Fault Refusal :=
  match Layout.requestParts kind with
  | none => serve kind tag (refuse .unknownKind) s
  | some parts =>
    if Layout.bodyFits parts body then .next s else serve kind tag (refuse .badValue) s

/-- REQUEST_OVERRUN (R168): a complete frame, whatever its kind and body, taken while a request is held. -/
def execRequestOverrun (_kind _tag : Nat) (_body : List Byte) (s : State) : Host.Outcome State Fault Refusal :=
  whileLive (fun s => if s.link.held.isSome then overrun s else s) s

/-! ## The station line and its framer (R167) -/

/-- The rate that the straps, as read at the last start, give the receiver and the transmitter, in bits a second (Table 12.1). -/
def StationLink.rate (l : StationLink) : Nat :=
  match l.baud1, l.baud0 with
  | false, false => 9600
  | false, true => 19200
  | true, false => 57600
  | true, true => 115200

/-- The ten cells of a byte on TXD or RXD (R167): the start bit, the data bits least significant first, the stop bit. A start bit is a low
cell, a stop bit a high one, and a data bit of 1 a high one (DESIGN CHOICE, log 29). -/
def byteCells (b : Byte) : List Bool := false :: ((List.range 8).map b.getLsbD ++ [true])

/-- The data byte of nine received cells (R167). -/
def cellsData (b : LineByte) : Byte := b.cells.setWidth 8

/-- Was the stop bit, a high cell, there (R167, log 29)? -/
def cellsStop (b : LineByte) : Bool := b.cells.getLsbD 8

/-- A whole byte as the receiver takes it after its start bit. -/
def wholeByte (b : Byte) : LineByte := ⟨b.setWidth 9 ||| 0x100#9⟩

/-- What the framer makes of a byte: the bytes of the frame in progress, or a frame that passed its CRC. -/
inductive Framed where
  | collecting (bytes : List Byte)
  | passed (bytes : List Byte)
  deriving DecidableEq, Repr

/-- The framer with one more byte of a frame in progress, which begins at the start byte (R167). -/
def frameByte (bytes : List Byte) : Framed :=
  match bytes with
  | _ :: length :: rest =>
    let n := length.toNat
    if n < 2 ∨ 250 < n then .collecting []
    else if rest.length < n + 2 then .collecting bytes
    else if rest.drop n = crcBytes (length :: rest.take n) then .passed bytes
    else .collecting []
  | _ => .collecting bytes

/-- One byte at the receiver (R167): outside a frame all but the start byte is ignored; a missing stop bit abandons the frame. -/
def takeLineByte (partialBytes : List Byte) (b : LineByte) : Framed :=
  if !cellsStop b then .collecting []
  else if partialBytes = [] ∧ cellsData b ≠ Config.stationStart then .collecting []
  else frameByte (partialBytes ++ [cellsData b])

/-- The framer over a line, up to a frame that passes. -/
def takeLine : List Byte → List LineByte → Framed
  | bytes, [] => .collecting bytes
  | bytes, b :: rest =>
    match takeLineByte bytes b with
    | .collecting more => takeLine more rest
    | .passed frame => .passed frame

/-- STATION_FRAME_DISCARDED (R167): the line's bytes, of which no frame passes; what they leave in progress is kept. A line that
completes a frame is a request's, and no discard (log 3). -/
def execStationFrameDiscarded (line : List LineByte) (s : State) : Host.Outcome State Fault Refusal :=
  whileLive (fun s =>
    match takeLine s.link.partialFrame line with
    | .collecting bytes => { s with link := { s.link with partialFrame := bytes } }
    | .passed _ => s) s

/-- BYTE_GAP_TIMEOUT (R167): a partial frame is abandoned. -/
def execByteGapTimeout (s : State) : Host.Outcome State Fault Refusal :=
  whileLive (fun s => { s with link := { s.link with partialFrame := [] } }) s

/-- The start a held request takes when its reply has been sent (R165, R168). -/
def startAfter (kind : Nat) (v : InputLevels) (s : State) : State :=
  if kind = 0x68 then warmStart .restart 0 v s
  else if kind = 0x69 then coldStart .factoryClear v s
  else s

/-- REPLY_SENT (R168): the last byte of the held request's reply has left TXD. -/
def execReplySent (levels : InputLevels) (s : State) : Host.Outcome State Fault Refusal :=
  whileLive (fun s =>
    match s.link.held with
    | none => s
    | some h =>
      let s := { s with link := { s.link with held := none } }
      if h.reply.result = .ok then startAfter h.kind levels s else s) s

end Sys2Proof.Machine
end

