-- ==== Sys2Proof/Machine/Outputs.lean ====
section
/-! DEFINITION. What the part drives: the gate outputs, the bells, the loops' lines, TXD and ATTN, as functions of the state. -/

namespace Sys2Proof.Machine

/-- The two outputs of a gate port (R97): on a turnstile REL_IN and REL_OUT, on a hinged gate the strike and nothing. -/
structure GateOutputs where
  o0 : Bool
  o1 : Bool
  deriving DecidableEq, Repr

/-- Does turnstile `g` release direction `d`: armed in it, or holding it in its standing (R97, R103)? -/
def State.releases (s : State) (g : Nat) (d : Direction) : Bool :=
  ((s.gateAt g).arming.any fun a => a.direction == d) || (s.standing g).holds d

/-- Does hinged gate `g` drive its strike: in RELEASED and FREE (R97)? -/
def State.strike (s : State) (g : Nat) : Bool :=
  match (s.gateAt g).hinged with
  | .released _ | .free => true
  | .locked | .opened | .held | .forced => false

/-- The outputs of gate `g`, all off unless the part works (R97, R163, R165). -/
def State.gateOutputs (s : State) (g : Nat) : GateOutputs :=
  if !s.live then ⟨false, false⟩
  else match (s.gateAt g).config.kind with
    | .turnstile => ⟨s.releases g .inward, s.releases g .outward⟩
    | .hinged => ⟨s.strike g, false⟩

/-- Output BELLz: on in an ON step of a sounding zone (R154), off unless the part works (R162). -/
def State.bell (s : State) (z : Nat) : Bool :=
  s.live && match (s.bells.zoneAt z).sounding with
    | some x => (x.step.map (·.on)).getD false
    | none => false

/-- The frame a loop is sending on its line, whose driver LnDE is on meanwhile (R55, R59). -/
def LoopState.sending (l : LoopState) : Option (List Byte) :=
  match l.exchange with
  | .sendingWake => some (wakeFrame l.config)
  | .sendingPoll a => some (pollFrame l.config a)
  | .sendingVerdict a sequence v => some (verdictFrame l.config a sequence v)
  | .idle | .awaiting _ | .quiet | .offering _ | .testing _ _ => none

/-- LnDE of loop `l`: on while a frame is sent, off otherwise and unless the part works (R55, R163). -/
def State.driver (s : State) (l : Nat) : Bool := s.live && (s.loopAt l).sending.isSome

/-- The cells loop `l` puts on its line, as steps of its coder (R55). -/
def State.loopLine (s : State) (l : Nat) : List Bool :=
  if s.live then
    match (s.loopAt l).sending with
    | some bytes => lineOf (s.loopAt l).config.coding bytes
    | none => []
  else []

/-- The TEST frame that a loop under test turns inward to its own receiver (R74). -/
def LoopState.loopbackLine (l : LoopState) : List Bool :=
  match l.exchange with
  | .testing _ n => lineOf l.config.coding (testFrame l.config n)
  | _ => []

/-- The frame on TXD: the reply of the held request (R167, R168); TXD is not driven unless the part works (R172). -/
def State.txd (s : State) : Option (List Byte) :=
  if s.live then s.link.held.bind Layout.replyFrame else none

/-- TXD as a line: the rate of the straps and the cells of the frame's bytes (R167); none while it is not driven or has no frame. -/
structure SerialLine where
  rate : Nat
  cells : List Bool
  deriving DecidableEq, Repr

/-- What TXD carries: each byte of the held request's reply as its ten cells, at the strap rate (R167). -/
def State.txdLine (s : State) : Option SerialLine := s.txd.map fun bytes => ⟨s.link.rate, bytes.flatMap byteCells⟩

/-- ATTN driven low: a report queued, an entry held, or the bank state READY; not unless the part works (R170). -/
def State.attnLow (s : State) : Bool :=
  s.live && (!s.link.reports.isEmpty || decide (0 < s.journal.held) || s.period.state == .ready)

end Sys2Proof.Machine
end

