-- ==== Sys2Proof/Machine/Requests.lean ====
section
/-! DEFINITION. The body of each request as bytes (R173, Table 12.3), and the request that a complete frame's kind, tag and body spell. -/

namespace Sys2Proof.Machine

/-- A request as a frame carries it (R167). -/
structure Request where
  kind : Nat
  tag : Nat
  body : List Byte
  deriving DecidableEq, Repr

namespace Layout

/-- The fields of SHIFT_DEFINE after the code (Table 2.1). -/
def shiftFields (d : ShiftDef) : List Byte := shiftDef d

/-- The fields of WORKER_PUT (R48, Table 3.1). -/
def workerFields (w : WorkerFields) : List Byte :=
  num 3 w.badge ++ num 1 w.status ++ opt (num 2) w.validUntil ++ opt (num 1) w.crew ++ num 1 w.grade
    ++ num 2 w.gateMask.toNat ++ flag w.anytime ++ flag w.unschedAuth

/-- The fields of LOOP_CONFIG after the loop (Table 4.2). -/
def loopFields (f : LoopFields) : List Byte :=
  num 1 f.rate ++ num 1 f.coding ++ num 1 f.check ++ num 1 f.npre ++ num 2 f.nsync ++ num 1 f.window ++ num 1 f.nmiss
    ++ num 1 f.dlos ++ num 1 f.clos ++ list (fun b => num 1 b.address ++ num 1 b.gate ++ num 1 b.direction) f.positions

/-- The fields of GATE_CONFIG after the gate (Table 6.2). -/
def gateFields (f : GateFields) : List Byte :=
  num 1 f.kind ++ num 1 f.release ++ num 2 f.heldOpen ++ num 1 f.passback ++ num 1 f.policy ++ opt (num 1) f.partner

/-! ## Reading fields -/

/-- The number that bytes spell, high byte first. -/
def value (bytes : List Byte) : Nat := bytes.foldl (fun v b => v * 256 + b.toNat) 0

/-- Numbers of the given widths from the front of a body, and what is left. -/
def fields : List Nat → List Byte → Option (List Nat × List Byte)
  | [], body => some ([], body)
  | n :: rest, body =>
    if n ≤ body.length then (fields rest (body.drop n)).map fun r => (value (body.take n) :: r.1, r.2) else none

/-- Members of the given widths, as many as told. -/
def members (widths : List Nat) : Nat → List Byte → Option (List (List Nat) × List Byte)
  | 0, body => some ([], body)
  | k + 1, body =>
    match fields widths body with
    | none => none
    | some (v, left) => (members widths k left).map fun r => (v :: r.1, r.2)

/-- A list under its count byte. -/
def counted (widths : List Nat) : List Byte → Option (List (List Nat) × List Byte)
  | [] => none
  | c :: body => members widths c.toNat body

/-- An optional number under its presence byte; any byte but 0 is present (log 6). -/
def optional (width : Nat) : List Byte → Option (Option Nat × List Byte)
  | [] => none
  | p :: body =>
    if p = 0 then some (none, body)
    else match fields [width] body with
      | some ([v], left) => some (some v, left)
      | _ => none

/-- A whole body of numbers of the given widths. -/
def whole (widths : List Nat) (body : List Byte) : Option (List Nat) :=
  match fields widths body with
  | some (v, []) => some v
  | _ => none

/-- Members of one number. -/
def singles (l : List (List Nat)) : List Nat := l.map fun v => v.headD 0

/-- A break from its two numbers. -/
def breakOf : List Nat → Break
  | [offset, length] => ⟨offset, length⟩
  | _ => ⟨0, 0⟩

/-- A pair of RATE_SET from its two numbers. -/
def rateOf : List Nat → GradeRate
  | [grade, rate] => ⟨grade, rate⟩
  | _ => ⟨0, 0⟩

/-- A binding from its three numbers. -/
def bindingOf : List Nat → BindingFields
  | [address, gate, direction] => ⟨address, gate, direction⟩
  | _ => ⟨0, 0, 0⟩

/-- A cadence step from its two numbers. -/
def stepOf : List Nat → StepFields
  | [level, tenths] => ⟨level, tenths⟩
  | _ => ⟨0, 0⟩

/-! ## Reading the requests with lists, optional fields and selectors -/

/-- SHIFT_DEFINE. -/
def readShift (tag : Nat) (body : List Byte) : Option Instr :=
  match fields [1, 2, 2, 1, 1, 1, 1, 1, 2, 2] body with
  | some ([code, start, length, we, gl, go, u, tot, cot, dc], left) =>
    match counted [2, 1] left with
    | some (breaks, left) =>
      match whole [1, 1, 1, 1] left with
      | some [flags, lead, zones, cadence] =>
        some (.shiftDefine tag code ⟨start, length, we, gl, go, u, tot, cot, dc, breaks.map breakOf, flags, lead, zones, cadence⟩)
      | _ => none
    | none => none
  | _ => none

/-- CREW_DEFINE. -/
def readCrew (tag : Nat) (body : List Byte) : Option Instr :=
  match fields [1, 1, 2] body with
  | some ([crew, n, anchor], left) =>
    match counted [1] left with
    | some (pattern, []) => some (.crewDefine tag crew n anchor (singles pattern))
    | _ => none
  | _ => none

/-- RATE_SET. -/
def readRates (tag : Nat) (body : List Byte) : Option Instr :=
  match counted [1, 2] body with
  | some (rates, []) => some (.rateSet tag (rates.map rateOf))
  | _ => none

/-- CALENDAR_READ, by its selector. -/
def readCalendar (tag : Nat) (body : List Byte) : Option Instr :=
  match whole [1, 1] body, whole [1, 1, 2] body, whole [1] body with
  | some [0, code], _, _ => some (.calendarReadShift tag code)
  | some [1, crew], _, _ => some (.calendarReadCrew tag crew)
  | _, some [2, crew, day], _ => some (.calendarReadDay tag crew day)
  | _, _, some [3] => some (.calendarReadTally tag)
  | _, _, some [4] => some (.calendarReadRates tag)
  | _, _, _ => none

/-- WORKER_PUT. -/
def readWorker (tag : Nat) (body : List Byte) : Option Instr :=
  match fields [3, 1] body with
  | some ([badge, status], left) =>
    match optional 2 left with
    | some (validUntil, left) =>
      match optional 1 left with
      | some (crew, left) =>
        match whole [1, 2, 1, 1] left with
        | some [grade, mask, anytime, unsched] =>
          some (.workerPut tag ⟨badge, status, validUntil, crew, grade, BitVec.ofNat 16 mask, anytime != 0, unsched != 0⟩)
        | _ => none
      | none => none
    | none => none
  | _ => none

/-- LOOP_CONFIG. -/
def readLoop (tag : Nat) (body : List Byte) : Option Instr :=
  match fields [1, 1, 1, 1, 1, 2, 1, 1, 1, 1] body with
  | some ([loop, rate, coding, check, npre, nsync, window, nmiss, dlos, clos], left) =>
    match counted [1, 1, 1] left with
    | some (positions, []) =>
      some (.loopConfig tag loop ⟨rate, coding, check, npre, nsync, window, nmiss, dlos, clos, positions.map bindingOf⟩)
    | _ => none
  | _ => none

/-- GATE_CONFIG, with the levels of the gate's inputs at its taking (log 5). -/
def readGate (in0 in1 : Bool) (tag : Nat) (body : List Byte) : Option Instr :=
  match fields [1, 1, 1, 2, 1, 1] body with
  | some ([gate, kind, release, heldOpen, passback, policy], left) =>
    match optional 1 left with
    | some (partner, []) => some (.gateConfig tag gate ⟨kind, release, heldOpen, passback, policy, partner⟩ in0 in1)
    | _ => none
  | _ => none

/-- GATE_COMMAND, by its order. -/
def readCommand (tag : Nat) (body : List Byte) : Option Instr :=
  match whole [1, 1] body, whole [1, 1, 1] body with
  | some [gate, 0], _ => some (.gateCommandNormal tag gate)
  | some [gate, 1], _ => some (.gateCommandFree tag gate)
  | some [gate, 2], _ => some (.gateCommandLockdown tag gate)
  | _, some [gate, 3, direction] => some (.gateCommandRelease tag gate direction)
  | _, _ => none

/-- CADENCE_DEFINE. -/
def readCadence (tag : Nat) (body : List Byte) : Option Instr :=
  match fields [1] body with
  | some ([cadence], left) =>
    match counted [1, 1] left with
    | some (steps, left) =>
      match whole [1] left with
      | some [repeats] => some (.cadenceDefine tag cadence (steps.map stepOf) repeats)
      | _ => none
    | none => none
  | _ => none

/-- BELL_ENTRY, by its action. -/
def readBellEntry (tag : Nat) (body : List Byte) : Option Instr :=
  match whole [1, 1] body, whole [1, 1, 2, 1, 1, 1] body with
  | some [slot, 1], _ => some (.bellEntryRemove tag slot)
  | _, some [slot, 0, minute, days, zones, cadence] => some (.bellEntryPut tag slot minute days zones cadence)
  | _, _ => none

/-- A request whose body is numbers alone. -/
def readPlain (widths : List Nat) (f : List Nat → Option Instr) (body : List Byte) : Option Instr := (whole widths body).bind f

end Layout

open Layout

/-- The body of a request, with its kind and tag (R173); no event and no unreadable frame has one. -/
def encodeRequest : Instr → Option Request
  | .clockSet tag day second => some ⟨0x01, tag, num 2 day ++ num 3 second⟩
  | .clockConfig tag enable window trim => some ⟨0x02, tag, flag enable ++ num 1 window ++ signed trim⟩
  | .clockRead tag clear => some ⟨0x03, tag, flag clear⟩
  | .shiftDefine tag code d => some ⟨0x10, tag, num 1 code ++ shiftFields d⟩
  | .shiftDelete tag code => some ⟨0x11, tag, num 1 code⟩
  | .crewDefine tag crew n anchor pattern =>
    some ⟨0x12, tag, num 1 crew ++ num 1 n ++ num 2 anchor ++ list (num 1) pattern⟩
  | .tallyConfig tag p => some ⟨0x13, tag, tallyParams p⟩
  | .rateSet tag rates => some ⟨0x14, tag, list (fun r => num 1 r.grade ++ num 2 r.rate) rates⟩
  | .calendarReadShift tag code => some ⟨0x15, tag, num 1 0 ++ num 1 code⟩
  | .calendarReadCrew tag crew => some ⟨0x15, tag, num 1 1 ++ num 1 crew⟩
  | .calendarReadDay tag crew day => some ⟨0x15, tag, num 1 2 ++ num 1 crew ++ num 2 day⟩
  | .calendarReadTally tag => some ⟨0x15, tag, num 1 3⟩
  | .calendarReadRates tag => some ⟨0x15, tag, num 1 4⟩
  | .workerPut tag w => some ⟨0x20, tag, workerFields w⟩
  | .workerGet tag badge => some ⟨0x21, tag, num 3 badge⟩
  | .workerRemove tag badge => some ⟨0x22, tag, num 3 badge⟩
  | .workerPresence tag badge presence => some ⟨0x23, tag, num 3 badge ++ num 1 presence⟩
  | .collectChanged tag cursor k => some ⟨0x24, tag, num 3 cursor ++ num 1 k⟩
  | .loopConfig tag loop f => some ⟨0x30, tag, num 1 loop ++ loopFields f⟩
  | .loopStart tag loop => some ⟨0x31, tag, num 1 loop⟩
  | .loopStop tag loop => some ⟨0x32, tag, num 1 loop⟩
  | .loopTest tag loop k => some ⟨0x33, tag, num 1 loop ++ num 1 k⟩
  | .loopStatus tag loop clear => some ⟨0x34, tag, num 1 loop ++ flag clear⟩
  | .gateConfig tag gate f _ _ => some ⟨0x40, tag, num 1 gate ++ gateFields f⟩
  | .gateCommandNormal tag gate => some ⟨0x41, tag, num 1 gate ++ num 1 0⟩
  | .gateCommandFree tag gate => some ⟨0x41, tag, num 1 gate ++ num 1 1⟩
  | .gateCommandLockdown tag gate => some ⟨0x41, tag, num 1 gate ++ num 1 2⟩
  | .gateCommandRelease tag gate direction => some ⟨0x41, tag, num 1 gate ++ num 1 3 ++ num 1 direction⟩
  | .gateRead tag gate => some ⟨0x42, tag, num 1 gate⟩
  | .musterRead tag cursor k => some ⟨0x43, tag, num 3 cursor ++ num 1 k⟩
  | .journalRead tag k => some ⟨0x48, tag, num 1 k⟩
  | .journalRelease tag n expected => some ⟨0x49, tag, num 2 n ++ num 2 expected⟩
  | .periodClose tag number => some ⟨0x50, tag, num 2 number⟩
  | .closeRead tag k rewind => some ⟨0x51, tag, num 1 k ++ flag rewind⟩
  | .closeRelease tag => some ⟨0x52, tag, []⟩
  | .periodRead tag => some ⟨0x53, tag, []⟩
  | .cadenceDefine tag cadence steps repeats =>
    some ⟨0x58, tag, num 1 cadence ++ list (fun s => num 1 s.level ++ num 1 s.tenths) steps ++ num 1 repeats⟩
  | .bellEntryPut tag slot minute days zones cadence =>
    some ⟨0x59, tag, num 1 slot ++ num 1 0 ++ num 2 minute ++ num 1 days ++ num 1 zones ++ num 1 cadence⟩
  | .bellEntryRemove tag slot => some ⟨0x59, tag, num 1 slot ++ num 1 1⟩
  | .zoneConfig tag mask => some ⟨0x5A, tag, num 1 mask⟩
  | .bellManual tag mask cadence => some ⟨0x5B, tag, num 1 mask ++ num 1 cadence⟩
  | .bellSilence tag mask => some ⟨0x5C, tag, num 1 mask⟩
  | .bellRead tag => some ⟨0x5D, tag, []⟩
  | .restart tag => some ⟨0x68, tag, []⟩
  | .factoryClear tag => some ⟨0x69, tag, []⟩
  | .status tag => some ⟨0x70, tag, []⟩
  | .reportFetch tag k => some ⟨0x71, tag, num 1 k⟩
  | .unknownKind _ _ _ => none
  | .requestOverrun _ _ _ => none
  | .stationFrameDiscarded _ => none
  | .byteGapTimeout => none
  | .replySent _ => none
  | .secondEvent => none
  | .impulseEvent _ => none
  | .readyEvent => none
  | .cadenceStepEnded _ => none
  | .pollSent _ => none
  | .wakeSent _ => none
  | .verdictSent _ => none
  | .responseWindowExpired _ => none
  | .loopAnswerReceived _ _ => none
  | .loopFrameAborted _ _ => none
  | .huntBoundExpired _ _ => none
  | .abortQuietEnded _ => none
  | .testFrameSettled _ _ => none
  | .punchTaken => none
  | .passagePulse _ _ => none
  | .turnstileReleaseExpired _ => none
  | .hingedReleaseExpired _ => none
  | .heldOpenExpired _ => none
  | .contactOpens _ => none
  | .contactCloses _ => none
  | .fireTaken => none
  | .fireCleared => none
  | .mainLoss _ => none
  | .backupLow => none
  | .mainRestored _ => none
  | .resetnLow => none
  | .resetnReleased _ => none
  | .firstPower => none
  | .tenthTick => none

/-- The request that a complete frame spells, with the levels of the gate's inputs for a GATE_CONFIG (R168, R173; log 5); none where
the kind names no request or the body has another length. -/
def decodeRequest (in0 in1 : Bool) (r : Request) : Option Instr :=
  match r.kind with
  | 0x01 => readPlain [2, 3] (fun v => match v with
    | [day, second] => some (.clockSet r.tag day second)
    | _ => none) r.body
  | 0x02 => readPlain [1, 1, 1] (fun v => match v with
    | [enable, window, trim] => some (.clockConfig r.tag (enable != 0) window (BitVec.ofNat 8 trim).toInt)
    | _ => none) r.body
  | 0x03 => readPlain [1] (fun v => match v with
    | [clear] => some (.clockRead r.tag (clear != 0))
    | _ => none) r.body
  | 0x10 => readShift r.tag r.body
  | 0x11 => readPlain [1] (fun v => match v with
    | [code] => some (.shiftDelete r.tag code)
    | _ => none) r.body
  | 0x12 => readCrew r.tag r.body
  | 0x13 => readPlain [2, 2, 1, 1, 1, 2, 2] (fun v => match v with
    | [ns, ne, fot, fn, uu, cu, lu] => some (.tallyConfig r.tag ⟨ns, ne, fot, fn, uu, cu, lu⟩)
    | _ => none) r.body
  | 0x14 => readRates r.tag r.body
  | 0x15 => readCalendar r.tag r.body
  | 0x20 => readWorker r.tag r.body
  | 0x21 => readPlain [3] (fun v => match v with
    | [badge] => some (.workerGet r.tag badge)
    | _ => none) r.body
  | 0x22 => readPlain [3] (fun v => match v with
    | [badge] => some (.workerRemove r.tag badge)
    | _ => none) r.body
  | 0x23 => readPlain [3, 1] (fun v => match v with
    | [badge, presence] => some (.workerPresence r.tag badge presence)
    | _ => none) r.body
  | 0x24 => readPlain [3, 1] (fun v => match v with
    | [cursor, k] => some (.collectChanged r.tag cursor k)
    | _ => none) r.body
  | 0x30 => readLoop r.tag r.body
  | 0x31 => readPlain [1] (fun v => match v with
    | [loop] => some (.loopStart r.tag loop)
    | _ => none) r.body
  | 0x32 => readPlain [1] (fun v => match v with
    | [loop] => some (.loopStop r.tag loop)
    | _ => none) r.body
  | 0x33 => readPlain [1, 1] (fun v => match v with
    | [loop, k] => some (.loopTest r.tag loop k)
    | _ => none) r.body
  | 0x34 => readPlain [1, 1] (fun v => match v with
    | [loop, clear] => some (.loopStatus r.tag loop (clear != 0))
    | _ => none) r.body
  | 0x40 => readGate in0 in1 r.tag r.body
  | 0x41 => readCommand r.tag r.body
  | 0x42 => readPlain [1] (fun v => match v with
    | [gate] => some (.gateRead r.tag gate)
    | _ => none) r.body
  | 0x43 => readPlain [3, 1] (fun v => match v with
    | [cursor, k] => some (.musterRead r.tag cursor k)
    | _ => none) r.body
  | 0x48 => readPlain [1] (fun v => match v with
    | [k] => some (.journalRead r.tag k)
    | _ => none) r.body
  | 0x49 => readPlain [2, 2] (fun v => match v with
    | [n, expected] => some (.journalRelease r.tag n expected)
    | _ => none) r.body
  | 0x50 => readPlain [2] (fun v => match v with
    | [number] => some (.periodClose r.tag number)
    | _ => none) r.body
  | 0x51 => readPlain [1, 1] (fun v => match v with
    | [k, rewind] => some (.closeRead r.tag k (rewind != 0))
    | _ => none) r.body
  | 0x52 => readPlain [] (fun _ => some (.closeRelease r.tag)) r.body
  | 0x53 => readPlain [] (fun _ => some (.periodRead r.tag)) r.body
  | 0x58 => readCadence r.tag r.body
  | 0x59 => readBellEntry r.tag r.body
  | 0x5A => readPlain [1] (fun v => match v with
    | [mask] => some (.zoneConfig r.tag mask)
    | _ => none) r.body
  | 0x5B => readPlain [1, 1] (fun v => match v with
    | [mask, cadence] => some (.bellManual r.tag mask cadence)
    | _ => none) r.body
  | 0x5C => readPlain [1] (fun v => match v with
    | [mask] => some (.bellSilence r.tag mask)
    | _ => none) r.body
  | 0x5D => readPlain [] (fun _ => some (.bellRead r.tag)) r.body
  | 0x68 => readPlain [] (fun _ => some (.restart r.tag)) r.body
  | 0x69 => readPlain [] (fun _ => some (.factoryClear r.tag)) r.body
  | 0x70 => readPlain [] (fun _ => some (.status r.tag)) r.body
  | 0x71 => readPlain [1] (fun v => match v with
    | [k] => some (.reportFetch r.tag k)
    | _ => none) r.body
  | _ => none

/-- The frame of a request on the station line (R167). -/
def requestFrame (r : Request) : Option (List Byte) := stationFrame r.kind r.tag r.body

end Sys2Proof.Machine
end

