-- ==== Sys2Proof/Machine/Dispatch.lean ====
section
/-! DEFINITION. The dispatch of a command to its meaning: one arm for each row of the table. -/

namespace Sys2Proof.Machine

/-- The effect of a command on everything but the queue. -/
def exec (i : Instr) (s : State) : Host.Outcome State Fault Refusal :=
  match i with
  | .clockSet tag day second => Sys2Proof.Machine.execClockSet tag day second s
  | .clockConfig tag enable window trim => Sys2Proof.Machine.execClockConfig tag enable window trim s
  | .clockRead tag clearLatches => Sys2Proof.Machine.execClockRead tag clearLatches s
  | .shiftDefine tag code fields => Sys2Proof.Machine.execShiftDefine tag code fields s
  | .shiftDelete tag code => Sys2Proof.Machine.execShiftDelete tag code s
  | .crewDefine tag crew n anchor pattern => Sys2Proof.Machine.execCrewDefine tag crew n anchor pattern s
  | .tallyConfig tag params => Sys2Proof.Machine.execTallyConfig tag params s
  | .rateSet tag rates => Sys2Proof.Machine.execRateSet tag rates s
  | .calendarReadShift tag code => Sys2Proof.Machine.execCalendarReadShift tag code s
  | .calendarReadCrew tag crew => Sys2Proof.Machine.execCalendarReadCrew tag crew s
  | .calendarReadDay tag crew day => Sys2Proof.Machine.execCalendarReadDay tag crew day s
  | .calendarReadTally tag => Sys2Proof.Machine.execCalendarReadTally tag s
  | .calendarReadRates tag => Sys2Proof.Machine.execCalendarReadRates tag s
  | .workerPut tag fields => Sys2Proof.Machine.execWorkerPut tag fields s
  | .workerGet tag badge => Sys2Proof.Machine.execWorkerGet tag badge s
  | .workerRemove tag badge => Sys2Proof.Machine.execWorkerRemove tag badge s
  | .workerPresence tag badge presence => Sys2Proof.Machine.execWorkerPresence tag badge presence s
  | .collectChanged tag cursor k => Sys2Proof.Machine.execCollectChanged tag cursor k s
  | .loopConfig tag loop fields => Sys2Proof.Machine.execLoopConfig tag loop fields s
  | .loopStart tag loop => Sys2Proof.Machine.execLoopStart tag loop s
  | .loopStop tag loop => Sys2Proof.Machine.execLoopStop tag loop s
  | .loopTest tag loop k => Sys2Proof.Machine.execLoopTest tag loop k s
  | .loopStatus tag loop clearLatches => Sys2Proof.Machine.execLoopStatus tag loop clearLatches s
  | .gateConfig tag gate fields in0 in1 => Sys2Proof.Machine.execGateConfig tag gate fields in0 in1 s
  | .gateCommandNormal tag gate => Sys2Proof.Machine.execGateCommandNormal tag gate s
  | .gateCommandFree tag gate => Sys2Proof.Machine.execGateCommandFree tag gate s
  | .gateCommandLockdown tag gate => Sys2Proof.Machine.execGateCommandLockdown tag gate s
  | .gateCommandRelease tag gate direction => Sys2Proof.Machine.execGateCommandRelease tag gate direction s
  | .gateRead tag gate => Sys2Proof.Machine.execGateRead tag gate s
  | .musterRead tag cursor k => Sys2Proof.Machine.execMusterRead tag cursor k s
  | .journalRead tag k => Sys2Proof.Machine.execJournalRead tag k s
  | .journalRelease tag n expected => Sys2Proof.Machine.execJournalRelease tag n expected s
  | .periodClose tag number => Sys2Proof.Machine.execPeriodClose tag number s
  | .closeRead tag k rewind => Sys2Proof.Machine.execCloseRead tag k rewind s
  | .closeRelease tag => Sys2Proof.Machine.execCloseRelease tag s
  | .periodRead tag => Sys2Proof.Machine.execPeriodRead tag s
  | .cadenceDefine tag cadence steps repeats => Sys2Proof.Machine.execCadenceDefine tag cadence steps repeats s
  | .bellEntryPut tag slot minute days zones cadence => Sys2Proof.Machine.execBellEntryPut tag slot minute days zones cadence s
  | .bellEntryRemove tag slot => Sys2Proof.Machine.execBellEntryRemove tag slot s
  | .zoneConfig tag mask => Sys2Proof.Machine.execZoneConfig tag mask s
  | .bellManual tag mask cadence => Sys2Proof.Machine.execBellManual tag mask cadence s
  | .bellSilence tag mask => Sys2Proof.Machine.execBellSilence tag mask s
  | .bellRead tag => Sys2Proof.Machine.execBellRead tag s
  | .restart tag => Sys2Proof.Machine.execRestart tag s
  | .factoryClear tag => Sys2Proof.Machine.execFactoryClear tag s
  | .status tag => Sys2Proof.Machine.execStatus tag s
  | .reportFetch tag k => Sys2Proof.Machine.execReportFetch tag k s
  | .unknownKind kind tag body => Sys2Proof.Machine.execUnknownKind kind tag body s
  | .requestOverrun kind tag body => Sys2Proof.Machine.execRequestOverrun kind tag body s
  | .stationFrameDiscarded line => Sys2Proof.Machine.execStationFrameDiscarded line s
  | .byteGapTimeout => Sys2Proof.Machine.execByteGapTimeout s
  | .replySent levels => Sys2Proof.Machine.execReplySent levels s
  | .secondEvent => Sys2Proof.Machine.execSecondEvent s
  | .impulseEvent line => Sys2Proof.Machine.execImpulseEvent line s
  | .readyEvent => Sys2Proof.Machine.execReadyEvent s
  | .cadenceStepEnded zone => Sys2Proof.Machine.execCadenceStepEnded zone s
  | .pollSent loop => Sys2Proof.Machine.execPollSent loop s
  | .wakeSent loop => Sys2Proof.Machine.execWakeSent loop s
  | .verdictSent loop => Sys2Proof.Machine.execVerdictSent loop s
  | .responseWindowExpired loop => Sys2Proof.Machine.execResponseWindowExpired loop s
  | .loopAnswerReceived loop line => Sys2Proof.Machine.execLoopAnswerReceived loop line s
  | .loopFrameAborted loop line => Sys2Proof.Machine.execLoopFrameAborted loop line s
  | .huntBoundExpired loop line => Sys2Proof.Machine.execHuntBoundExpired loop line s
  | .abortQuietEnded loop => Sys2Proof.Machine.execAbortQuietEnded loop s
  | .testFrameSettled loop line => Sys2Proof.Machine.execTestFrameSettled loop line s
  | .punchTaken => Sys2Proof.Machine.execPunchTaken s
  | .passagePulse gate input => Sys2Proof.Machine.execPassagePulse gate input s
  | .turnstileReleaseExpired gate => Sys2Proof.Machine.execTurnstileReleaseExpired gate s
  | .hingedReleaseExpired gate => Sys2Proof.Machine.execHingedReleaseExpired gate s
  | .heldOpenExpired gate => Sys2Proof.Machine.execHeldOpenExpired gate s
  | .contactOpens gate => Sys2Proof.Machine.execContactOpens gate s
  | .contactCloses gate => Sys2Proof.Machine.execContactCloses gate s
  | .fireTaken => Sys2Proof.Machine.execFireTaken s
  | .fireCleared => Sys2Proof.Machine.execFireCleared s
  | .mainLoss vbakLow => Sys2Proof.Machine.execMainLoss vbakLow s
  | .backupLow => Sys2Proof.Machine.execBackupLow s
  | .mainRestored levels => Sys2Proof.Machine.execMainRestored levels s
  | .resetnLow => Sys2Proof.Machine.execResetnLow s
  | .resetnReleased levels => Sys2Proof.Machine.execResetnReleased levels s
  | .firstPower => Sys2Proof.Machine.execFirstPower s
  | .tenthTick => Sys2Proof.Machine.execTenthTick s

end Sys2Proof.Machine
end

