-- ==== Sys2Proof/Machine/Step.lean ====
section
/-! DEFINITION. One step of the part: the command at the front of the queue, or, with none waiting, one period of the crystal. -/

namespace Sys2Proof.Machine

/-- The part with the first of its waiting commands taken from the queue. -/
def State.withPending (s : State) (rest : List Instr) : State := { s with pending := rest }

/-- One step (log 1, log 26). -/
def step (s : State) : Host.Outcome State Fault Refusal :=
  match s.pending with
  | [] => .next (crystalPeriod s)
  | c :: rest => exec c (s.withPending rest)

/-- The part with the command that a word of the table's bits spells at the front of its queue; no word spells one. -/
def State.withFetchWord (s : State) (nbits w : Nat) : State :=
  match decodeTableWord nbits w with
  | some c => s.withPending (c :: s.pending)
  | none => s

end Sys2Proof.Machine
end

