-- ==== Sys2Proof/Safety.lean ====
section
/-! DEFINITION. The laws of the part in the terms the claims use: each is kept by every step, and each is decidable on a state. -/

namespace Sys2Proof.Machine

/-! ## Answering -/

/-- The part works: its supply state is RUN and RESETn is high (R163, R165). -/
abbrev State.Works (s : State) : Prop := s.supply.state = .run ∧ s.supply.resetnHigh = true

/-- The part works and holds no request: a request that arrives now is taken (R163, R165, R168). -/
abbrev State.Ready (s : State) : Prop := s.Works ∧ s.link.held = none

/-- The part with a request held whose reply is decided, and nothing else changed (R168). -/
def State.answered (s : State) (kind tag : Nat) (result : Result) (content : Content) : State :=
  { s with link := { s.link with held := some ⟨kind, tag, ⟨result, content⟩⟩, partialFrame := [] } }

/-! ## Journal (R117, R119, R121) -/

/-- The number of pending passages the gates hold. -/
def State.passages (s : State) : Nat := (allGates.filter fun g => (s.gateAt g).passage.isSome).length

/-- R121, and the reserved count as R88 and R120 give it. -/
abbrev State.JournalFits (s : State) : Prop :=
  s.journal.entries.length + s.journal.reserved ≤ 2048 ∧ s.journal.reserved = s.passages

/-- R119: the held entries carry consecutive numbers modulo 65,536, up to the one before the next entry number. -/
abbrev State.JournalNumbered (s : State) : Prop :=
  s.journal.nextNumber < 65536 ∧ (∀ e ∈ s.journal.entries, e.number < 65536) ∧
    ∀ i : Fin s.journal.entries.length,
      ((s.journal.entries[i]).number + (s.journal.entries.length - i.val)) % 65536 = s.journal.nextNumber

/-! ## Calendar (R18, R23, R25, R27, R28) -/

/-- The fields of a definition lie in the ranges of Table 2.1, and its breaks meet the conditions of R18. -/
abbrev ShiftInTable (d : ShiftDef) : Prop :=
  d.start ≤ 1439 ∧ 60 ≤ d.length ∧ d.length ≤ 960 ∧ d.entryWindow ≤ 240 ∧ d.lateGrace ≤ 15 ∧ d.leaveGrace ≤ 15 ∧
    d.unit ∈ [1, 5, 6, 10, 15, 30] ∧ d.otThreshold ≤ 120 ∧ d.otCap ≤ 480 ∧ 30 ≤ d.closeDelay ∧ d.closeDelay ≤ 600 ∧
    d.breaks.length ≤ 2 ∧
    (∀ b ∈ d.breaks, b.offset + 5 ≤ d.length ∧ 5 ≤ b.length ∧ b.length ≤ 120 ∧ b.offset + b.length ≤ d.length) ∧
    d.breaks.Pairwise (fun a b => a.offset + a.length ≤ b.offset ∨ b.offset + b.length ≤ a.offset) ∧
    d.bellFlags ≤ 15 ∧ 1 ≤ d.warnLead ∧ d.warnLead ≤ 30 ∧ d.zoneMask ≤ 15 ∧ 1 ≤ d.cadence ∧ d.cadence ≤ 7

/-- The window is a candidate of the crew for an entry at plant minute `t` that qualifies (R28): it is of the day of `t` or a day
beside it, with no window across the day wrap; it is the window of the defined shift the crew works on that day; and S - We ≤ t < E. -/
abbrev Calendar.Qualifies (c : Calendar) (crew t : Nat) (w : Window) : Prop :=
  (w.day = t / 1440 ∨ (w.day + 1 = t / 1440) ∨ (w.day = t / 1440 + 1 ∧ t / 1440 ≠ 65535)) ∧
    ∃ d ∈ c.shiftOf w.code, w.code = (c.rotationOf crew).codeOn w.day ∧ w.start = w.day * 1440 + d.start ∧
      w.stop = w.start + d.length ∧ w.start ≤ t + d.entryWindow ∧ t < w.stop

/-- The tally parameters lie in the ranges of Table 2.3 (R25). -/
abbrev TallyInTable (p : TallyParams) : Prop :=
  p.nightStart ≤ 1439 ∧ p.nightEnd ≤ 1439 ∧ 8 ≤ p.otFactor ∧ p.otFactor ≤ 24 ∧ p.nightFactor ≤ 8 ∧
    p.unschedUnit ∈ [1, 5, 6, 10, 15, 30] ∧ 60 ≤ p.unschedCap ∧ p.unschedCap ≤ 480 ∧
    60 ≤ p.unschedLimit ∧ p.unschedLimit ≤ 960

/-- The rotation lies in the ranges of Table 2.2 (R23). -/
def Rotation.inTable (r : Rotation) : Bool := r.anchor ≤ 65535 && within 1 r.pattern.length 28 && r.pattern.all (· ≤ 15)

/-- The four tables hold what their rules admit (R18, R23, R25, R27). -/
abbrev State.CalendarInTable (s : State) : Prop :=
  (∀ i : Fin 15, ∀ d ∈ s.calendar.shiftOf (i.val + 1), ShiftInTable d) ∧
    (∀ i : Fin 8, (s.calendar.rotationOf (i.val + 1)).inTable = true) ∧
    TallyInTable s.calendar.tally ∧ ∀ grade : Fin 16, s.calendar.rates[grade] ≤ 65535

/-! ## Worker table (R33, R35, R21, R143, R138) -/

/-- R33: at most 4,096 records, in ascending badge order, each badge in its range. -/
abbrev State.WorkersOrdered (s : State) : Prop :=
  s.workers.length ≤ 4096 ∧ s.workers.Pairwise (fun a b => a.badge < b.badge) ∧
    ∀ w ∈ s.workers, 1 ≤ w.badge ∧ w.badge ≤ 16777215

/-- R35, R38: one to four segments, all but the last closed, and the last open exactly while presence is IN. -/
def WorkerRecord.agrees (w : WorkerRecord) : Bool :=
  match w.attendance with
  | none => true
  | some a =>
    within 1 a.segments.length 4 && a.segments.dropLast.all (·.outMinute.isSome)
      && (a.isOpen == (w.presence == .inside)) && w.presence != .unknown

/-- R35; while the time is UNSET no attendance is open and no passage pends (R44, R82). -/
abbrev State.PresenceAgrees (s : State) : Prop :=
  (∀ w ∈ s.workers, w.agrees = true) ∧
    (s.time.validity = .unset → (∀ w ∈ s.workers, w.attendance = none) ∧ s.passages = 0)

/-- Does the record hold an open SCHEDULED attendance under the code? -/
def WorkerRecord.scheduledUnder (w : WorkerRecord) (code : Nat) : Bool :=
  match w.attendance with
  | some a => match a.kind with
    | .scheduled c _ => c == code
    | .unscheduled => false
  | none => false

/-- The code of an open SCHEDULED attendance and its window's S and E, if the record holds one. -/
def WorkerRecord.openShift (w : WorkerRecord) : Option (Nat × Nat × Nat) :=
  match w.attendance with
  | some a => match a.kind with
    | .scheduled code stop => some (code, a.start, stop)
    | .unscheduled => none
  | none => none

/-- R21, R19, R20: each open reference count is the number of open SCHEDULED attendances under its code, and such a code is
defined, with the length its attendances' windows have. -/
abbrev State.RefsCounted (s : State) : Prop :=
  (∀ i : Fin 15, s.calendar.openRef (i.val + 1) = s.workers.countP (·.scheduledUnder (i.val + 1))) ∧
    ∀ w ∈ s.workers, ∀ x ∈ w.openShift, 1 ≤ x.1 ∧ x.1 ≤ 15 ∧ ∃ d ∈ s.calendar.shiftOf x.1, x.2.2 = x.2.1 + d.length

/-- R143: the counter is the number of open attendances tagged CLOSING, and there is none but in PENDING. -/
abbrev State.ClosingCounted (s : State) : Prop :=
  s.period.counter = s.workers.countP (·.taggedClosing) ∧ (s.period.state ≠ .pending → s.period.counter = 0)

/-- A crew of record, when there is one, is a crew. -/
abbrev CrewOk (crew : Option Nat) : Prop := ∀ c ∈ crew, 1 ≤ c ∧ c ≤ 8

/-- The limits of Table 3.3 on one bank (R137). -/
abbrev Bank.Bounded (b : Bank) : Prop :=
  CrewOk b.crew ∧ b.regular ≤ 65535 ∧ b.overtime ≤ 65535 ∧ b.night ≤ 65535 ∧ b.pay ≤ 99999999 ∧ b.count ≤ 255

/-- R138, with the crews that banks take from their attendances and attendances from their records. -/
abbrev State.BanksBounded (s : State) : Prop :=
  ∀ w ∈ s.workers, w.current.Bounded ∧ w.closing.Bounded ∧ CrewOk w.crew ∧ CrewOk (w.attendance.bind (·.crew))

/-! ## The close stream (R144 to R148) -/

/-- The records of the close stream (Table 9.4): the start, the summaries of crews 0 to 8, the records whose CLOSING bank is not
empty in badge order, the end. -/
def State.closeStream (s : State) : List StreamRecord :=
  [.periodStart s.period.number s.period.previous s.period.boundary s.period.workerCount]
    ++ (List.range 9).map (fun c => .crewSummary c (s.period.crews.getD c Summary.zero))
    ++ s.closingRecords.map (fun w => .worker w.badge w.closing)
    ++ [.periodEnd s.period.grand (s.period.workerCount + 11)]

/-- The sum of one field over the CLOSING banks of a list of records (R144). -/
def closingSum (ws : List WorkerRecord) (field : Bank → Nat) : Nat := (ws.map fun w => field w.closing).sum

/-- The row holds the sums of the CLOSING banks of the records listed (R144, Table 9.3). -/
abbrev Summary.Sums (row : Summary) (ws : List WorkerRecord) : Prop :=
  row.workers = ws.length ∧ row.regular = closingSum ws (·.regular) ∧ row.overtime = closingSum ws (·.overtime) ∧
    row.night = closingSum ws (·.night) ∧ row.pay = closingSum ws (·.pay) ∧ row.count = closingSum ws (·.count) ∧
    row.anomalyWorkers = ws.countP fun w => w.closing.anomalies != AnomalySet.empty

/-- The Period Unit holds the sums of R144 over the CLOSING banks as they stand. -/
abbrev State.SumsStand (s : State) : Prop :=
  s.period.workerCount = s.closingRecords.length ∧ s.period.grand.Sums s.closingRecords ∧
    ∀ c : Fin 9, s.period.crews[c].Sums (s.closingRecords.filter fun w => w.closing.crew.getD 0 == c.val)

/-- The cursor stands in the stream, past its end exactly in DRAINED, and knows the last record of a worker it has passed (R147). -/
abbrev State.CursorStands (s : State) : Prop :=
  1 ≤ s.period.cursor ∧
    (s.period.state = .ready → s.period.cursor ≤ s.period.workerCount + 11) ∧
    (s.period.state = .drained → s.period.cursor = s.period.workerCount + 12) ∧
    s.period.cursorBadge = (((s.closingRecords.take (s.period.cursor - 11)).getLast?).map (·.badge)).getD 0

/-- R140, R144, R145: in FREE every CLOSING bank is empty, and in READY and DRAINED the totals of the close stand. -/
abbrev State.StreamStands (s : State) : Prop :=
  (s.period.state = .free → s.closingRecords = []) ∧
    (s.period.state = .ready ∨ s.period.state = .drained → s.SumsStand ∧ s.CursorStands)

/-! ## Gates (R36, R88, R96, R103, R104, R109) -/

/-- R36, R93: a record names a pending gate exactly while that gate holds a passage of its badge. -/
abbrev State.PassagesNamed (s : State) : Prop :=
  (∀ w ∈ s.workers, ∀ g ∈ w.pendingGate, g < 16 ∧ ((s.gateAt g).passage.map (·.badge)) = some w.badge) ∧
    ∀ g : Fin 16, ∀ p ∈ (s.gateAt g).passage, ∃ w ∈ s.workers, w.badge = p.badge ∧ w.pendingGate = some g.val

/-- R96: partnership is symmetric, no gate is its own partner, and partners are gates. -/
abbrev State.PartnersSymmetric (s : State) : Prop :=
  ∀ g : Fin 16, ∀ p ∈ (s.gateAt g).config.partner, p < 16 ∧ p ≠ g.val ∧ (s.gateAt p).config.partner = some g.val

/-- R104: cause PUNCH exactly while the gate holds a passage, in the passage's direction; a hinged gate has neither. -/
def Gate.armedRight (x : Gate) : Bool :=
  (match x.arming with
    | some a => a.cause != .punch || x.passage.any (fun p => p.direction == a.direction)
    | none => true) &&
  (match x.passage with
    | some p => x.arming == some ⟨p.direction, .punch⟩
    | none => true) &&
  (x.config.kind == .turnstile || (x.arming == none && x.passage == none))

/-- R104 at every gate, and R109: a hinged gate is FREE exactly while its standing is not empty. -/
abbrev State.GatesStand (s : State) : Prop :=
  ∀ g : Fin 16, (s.gateAt g).armedRight = true ∧
    ((s.gateAt g).config.kind = .hinged → ((s.gateAt g).hinged = .free ↔ s.standing g ≠ .nothing))

/-! ## Loops (R54, R68, R70, R71, R75) -/

/-- The configuration lies in the ranges of Table 4.2. -/
def LoopConfig.inTable (c : LoopConfig) : Bool :=
  within 2 c.npre 16 && within 16 c.nsync 4095 && within 16 c.window 255 && within 1 c.nmiss 15 && within 4 c.dlos 64
    && within 2 c.clos 32

/-- The configuration in its ranges, rows in ascending address order (R54), runs in their ranges (R68, R70, R71), the frames of a test
counted (R75), and no frame in hand in OFF, nor one of another state in TESTING (Table 4.6). -/
def LoopState.inOrder (l : LoopState) : Bool :=
  l.config.inTable &&
  decide (l.positions.Pairwise fun a b => a.address < b.address) && decide (l.positions.length ≤ 8)
    && l.positions.all (fun p => within 1 p.address 8 && p.gate ≤ 15)
    && l.deadRun ≤ 64 && l.validRun ≤ 32
    && (match l.exchange with
      | .testing k n => l.mode == .testing && 1 ≤ n && n ≤ k && k ≤ 255 && l.good + l.checkFailed + l.aborted + 1 == n
      | .idle => true
      | _ => l.mode != .off && l.mode != .testing)

/-- The four loops in order. -/
abbrev State.LoopsInOrder (s : State) : Prop := ∀ l : Fin 4, (s.loopAt l).inOrder = true

/-! ## Bells (R154, R158, R159) -/

/-- A sounding zone stands in a step of its cadence. -/
def Sounding.inStep (x : Sounding) : Bool := x.index < x.steps.length && x.down ≤ ((x.step.map (·.tenths)).getD 0)

/-- R158: at most four entries, in descending order of class, and never EVACUATION; evacuation sounds only under fire (R159). -/
def Zone.inOrder (z : Zone) (fire : Bool) : Bool :=
  z.queue.length ≤ 4 && decide (z.queue.Pairwise fun a b => b.cls.rank ≤ a.cls.rank)
    && z.queue.all (·.cls != .evacuation) && (!z.evacuating || fire) && z.sounding.all (·.inStep)

/-- R158 in every zone. -/
abbrev State.ZonesInOrder (s : State) : Prop := ∀ z : Fin 4, (s.bells.zoneAt z).inOrder s.fire = true

/-! ## Time and link (Tables 1.1, 1.2; R169) -/

/-- The ranges of Table 1.1, and HOLDING only in a second 59 (R2). -/
abbrev State.TimeInRange (s : State) : Prop :=
  s.time.day ≤ 65535 ∧ s.time.second ≤ 86399 ∧ -128 ≤ s.time.trim ∧ s.time.trim ≤ 127 ∧ s.time.divider ≤ 32895 ∧
    (s.time.mark = .holding → s.time.secondOfMinute = 59)

/-- The ranges of Table 1.2, and OFF exactly while enable is off. -/
abbrev State.FollowerInRange (s : State) : Prop :=
  (s.follower.state = .off ↔ s.follower.enable = false) ∧ 1 ≤ s.follower.window ∧ s.follower.window ≤ 30 ∧
    1 ≤ s.follower.minuteWindow ∧ s.follower.minuteWindow ≤ 30 ∧
    s.follower.missingRun ≤ 2 ∧ s.follower.wideRun ≤ 2 ∧ -30 ≤ s.follower.phase ∧ s.follower.phase ≤ 29 ∧
    (s.follower.state = .locked → s.follower.missingRun ≤ 1 ∧ s.follower.wideRun ≤ 1)

/-- R169. -/
abbrev State.ReportsFit (s : State) : Prop := s.link.reports.length ≤ 32

/-! ## Loops and gates: what a change of a loop may touch (R64, R69) -/

/-- The state the loop's poll cursor leads to next: a POLL to the first configured address above it, or to the lowest (R65). -/
def LoopState.pollNext (l : LoopState) : Exchange :=
  match ((l.positions.find? fun p => l.cursor < p.address).or l.positions.head?) with
  | some p => .sendingPoll p.address
  | none => .idle

/-- A gate under a recomputed standing (R109): a hinged gate enters FREE under one that is not empty, and leaves FREE, to OPEN or LOCKED by
its contact, under an empty one; every other gate stays as it is. -/
def Gate.under (x : Gate) (standing : Standing) : Gate :=
  if x.config.kind = .hinged ∧ standing ≠ .nothing ∧ x.hinged ≠ .free then
    { x with hinged := .free, releaseTimer := none, heldTimer := none }
  else if x.config.kind = .hinged ∧ standing = .nothing ∧ x.hinged = .free then
    if x.contactOpen then { x with hinged := .opened, releaseTimer := none, heldTimer := some x.config.heldOpen }
    else { x with hinged := .locked, releaseTimer := none, heldTimer := none }
  else x

/-- The link after gate `g` has gone from `x` to `y` without its door: the CLEARED report where it has left HELD or FORCED (R96, R109,
R110). -/
def StationLink.alarmEnded (l : StationLink) (g : Nat) (x y : Gate) (now : Nat) : StationLink :=
  if x.config.kind = .hinged ∧ (y.config.kind ≠ .hinged ∨ y.hinged ≠ x.hinged) then
    match x.hinged with
    | .held => l.queue (.gateAlarm g .held .cleared none now)
    | .forced => l.queue (.gateAlarm g .forced .cleared none now)
    | .locked | .released _ | .opened | .free => l
  else l

/-- The part after every gate that learns of a change has taken its recomputed standing, with the CLEARED reports of the alarms that ends,
in ascending gate order (R109, R110; the order by log 15). -/
def State.standingsTaken (s : State) (learns : Fin 16 → Bool) : State :=
  let taken := fun (g : Fin 16) => if learns g then s.gates[g].under (s.standing g) else s.gates[g]
  { s with
    gates := Vector.ofFn taken
    link := (List.finRange 16).foldl
      (fun (k : StationLink) (g : Fin 16) => k.alarmEnded g s.gates[g] (taken g) (s.time.day * 86400 + s.time.second)) s.link }

/-- The part after loop `l` has become `y`, with the loop's reports of the change: every gate bound to the loop before or after learns of
it (R64, R69; the loop's reports before the gates' by log 15). -/
def State.loopMoved (s : State) (l : Nat) (y : LoopState) (reports : List Report) : State :=
  State.standingsTaken { s with loops := s.loops.setIfInBounds l y, link := reports.foldl StationLink.queue s.link }
    fun g => (s.loopAt l).binds g || y.binds g

/-! ## Starts (R165, R166) -/

/-- The entries the restart voids write, in ascending gate order, the first under the given number (R116, R125). -/
def restartVoids (s : State) (number : Nat) : List JournalEntry :=
  (((List.range 16).filterMap fun g => (s.gateAt g).passage.map fun p => (g, p)).zipIdx).map fun x =>
    ⟨(number + x.2) % 65536, x.1.2.second, x.1.2.badge, x.1.2.loop, x.1.2.address, x.1.1, x.1.2.direction, .voided,
      AnomalySet.empty, true⟩

/-- A loop after a warm start (R78): its run intent takes it to TRAINING or OFF; configuration, bindings and duplicate records stay. -/
def LoopState.restarted (x : LoopState) : LoopState :=
  ⟨x.config, if x.intent then .training else .off, x.intent, .search, false, false, 0, 0,
    x.positions.map fun p => { p with present := false, silence := 0 }, 0, 0, 0, 0,
    if x.intent then .sendingWake else .idle⟩

/-- The part `t` is the part `s` after a warm start of the cause (R17, R78, R95, R116, R125, R162, R166, R172): what is kept, what is
cleared, the voids of the pending passages, the READY event where it is due (R152), and START as the oldest report. Each gate's inputs are
taken at their levels, so that an input active then delivers no pulse until it has gone inactive (R97). The tick divider keeps its phase
(log 30). -/
abbrev State.WarmStarted (s t : State) (cause : StartCause) (duration : Nat) (v : InputLevels) : Prop :=
  t = { s with
    time := { s.time with mark := .none }
    follower := ⟨s.follower.enable, if s.follower.state = .off then .off else .holdover, s.follower.window, s.follower.minuteWindow,
      none, false, 0, 0, false, false, false, false, s.follower.phase, v.mia, v.mib⟩
    workers := s.workers.map fun w => { w with pendingGate := none }
    loops := Vector.ofFn fun l => s.loops[l].restarted
    punch := ⟨none, 3⟩
    gates := t.gates
    fire := false
    journal := ⟨s.journal.entries ++ restartVoids s s.journal.nextNumber, 0, (s.journal.nextNumber + s.passages) % 65536⟩
    period := t.period
    bells := { s.bells with
      zones := Vector.replicate 4 ⟨none, []⟩, highWater := max s.bells.highWater (s.time.day * 1440 + s.time.second / 60) }
    supply := ⟨.run, s.supply.retention, s.supply.duration, false, false, s.supply.resetnHigh⟩
    link := ⟨none, t.link.reports, false, false, [], v.baud0, v.baud1⟩ } ∧
  (let now := s.time.day * 86400 + s.time.second
   let start := Report.start .warm cause duration now
   let n := s.closingRecords.length
   (s.period.state ≠ .pending ∨ s.period.counter ≠ 0 → t.period = s.period ∧ t.link.reports = [start]) ∧
   (s.period.state = .pending → s.period.counter = 0 →
     t.period = { s.period with
       state := .ready, crews := t.period.crews, grand := t.period.grand, workerCount := n, cursor := 1, cursorBadge := 0 } ∧
     t.SumsStand ∧ t.link.reports = [start, .closeReady s.period.number s.period.boundary n (n + 11) now])) ∧
  ∀ g : Fin 16,
    let atRest : Gate := { s.gates[g] with
      arming := none, passage := none, releaseTimer := none, heldTimer := none, hinged := .locked
      contactOpen := v.gate0.getLsbD g, pulse0 := v.gate0.getLsbD g, pulse1 := v.gate1.getLsbD g }
    t.gates[g] = match s.gates[g].config.kind with
      | .turnstile => atRest
      | .hinged =>
        if t.standing g ≠ .nothing then { atRest with hinged := .free }
        else if v.gate0.getLsbD g then { atRest with hinged := .opened, heldTimer := some s.gates[g].config.heldOpen }
        else atRest

/-- The part `t` is the part `s` after a cold start of the cause (R7, R17, R31, R53, R77, R95, R115, R125, R151, R162, R166, R172): every
block's cold-start values, and START alone in the queue, with the plant second after them (log 28). The tick divider, the RESETn pin
and the last backup duration stay (log 2). -/
abbrev State.ColdStarted (s t : State) (cause : StartCause) (v : InputLevels) : Prop :=
  t = { time := ⟨0, 0, 0, 32768, .none, .unset⟩
        follower := ⟨false, .off, 5, 5, none, false, 0, 0, false, false, false, false, 0, v.mia, v.mib⟩
        calendar := ⟨Vector.replicate 15 none, Vector.replicate 15 0, Vector.replicate 8 ⟨0, [0]⟩, ⟨0, 0, 12, 0, 15, 240, 720⟩,
          Vector.replicate 16 0⟩
        workers := []
        loops := Vector.replicate 4 ⟨⟨.b19200, .biphaseMark, .crc16, 4, 64, 48, 3, 16, 4⟩, .off, false, .search, false, false, 0, 0, [],
          0, 0, 0, 0, .idle⟩
        punch := ⟨none, 3⟩
        gates := Vector.ofFn fun g => ⟨⟨.hinged, 5, 30, .soft, .locked, none⟩, .normal,
          if v.gate0.getLsbD g then .opened else .locked, none, none, if v.gate0.getLsbD g then some 30 else none, none,
          v.gate0.getLsbD g, v.gate0.getLsbD g, v.gate1.getLsbD g⟩
        fire := false
        journal := ⟨[], 0, 0⟩
        period := ⟨.free, 0, 0, 0, 0, Vector.replicate 9 Summary.zero, Summary.zero, 0, 1, 0⟩
        bells := ⟨Vector.replicate 7 none, Vector.replicate 32 none, 0, 0, Vector.replicate 4 ⟨none, []⟩, s.bells.tickElapsed,
          s.bells.tickPlace⟩
        supply := ⟨.run, .valid, s.supply.duration, false, false, s.supply.resetnHigh⟩
        link := ⟨none, [.start .cold cause 0 0], false, false, [], v.baud0, v.baud1⟩
        pending := s.pending }

/-- The part works and the line's qualifier delivers an impulse: it is not waiting for its line to go inactive, or the line has been
inactive meanwhile (R8). -/
abbrev State.lineDelivers (s : State) (l : ActiveLine) : Prop :=
  s.Works ∧ (l.rearmed = true ∨ (match l.line with
    | .mia => s.follower.miaHeld
    | .mib => s.follower.mibHeld) = false)

/-- The part works and the input of gate `g` delivers a pulse: it is not waiting to go inactive, or it has been inactive meanwhile
(R97). -/
abbrev State.inputDelivers (s : State) (g : Nat) (i : ActiveInput) : Prop :=
  s.Works ∧ (i.rearmed = true ∨ (match i.direction with
    | .inward => (s.gateAt g).pulse0
    | .outward => (s.gateAt g).pulse1) = false)

/-- The record after an anomaly raised on it (R41): in the pending set, in the set of the bank the owning attendance's tag names, where one
owns it, and with the changed mark (R43). -/
def WorkerRecord.raised (w : WorkerRecord) (owner : Option BankTag) (add : AnomalySet → AnomalySet) : WorkerRecord :=
  { w with
    pendingSet := add w.pendingSet, changed := true
    current := if owner = some .current then { w.current with anomalies := add w.current.anomalies } else w.current
    closing := if owner = some .closing then { w.closing with anomalies := add w.closing.anomalies } else w.closing }

/-- The attendance with its last segment, which is `g`, closed at the minute (R38). -/
def Attendance.closed (a : Attendance) (g : Segment) (minute : Nat) : Attendance :=
  { a with segments := a.segments.dropLast ++ [{ g with outMinute := some minute }] }

/-- The out minute of an open last segment that no exit closed: E for a SCHEDULED attendance whose E the in minute does not pass, and the in
minute otherwise (R45, R90). -/
def Attendance.unseenOut (a : Attendance) (inMinute : Nat) : Nat :=
  match a.kind with
  | .scheduled _ stop => if inMinute ≤ stop then stop else inMinute
  | .unscheduled => inMinute

/-- The record after the finalization of an attendance: its credit, and no attendance (R39, R126). -/
def WorkerRecord.finalized (w : WorkerRecord) (c : Calendar) (a : Attendance) : WorkerRecord :=
  { creditAttendance c a w with attendance := none }

/-- The part after the finalization of an attendance: one open reference fewer of its code, and one fewer in the open-closing counter
where it was tagged CLOSING (R39, R139). -/
def State.finalized (s : State) (a : Attendance) : State :=
  { s with
    calendar := { s.calendar with openRefs := match a.kind with
      | .scheduled code _ => s.calendar.openRefs.setIfInBounds (code - 1) (s.calendar.openRefs.getD (code - 1) 0 - 1)
      | .unscheduled => s.calendar.openRefs }
    period := { s.period with counter := if a.tag = .closing then s.period.counter - 1 else s.period.counter } }

/-- The report is the first that joined the queue, where the queue had room (R169). -/
abbrev State.Reported (s t : State) (r : Report) : Prop :=
  s.link.reports.length < 32 → (s.link.reports ++ [r]) <+: t.link.reports

/-- A position after a settled answer that is not valid (R68). -/
def Position.unheard (p : Position) (nmiss : Nat) : Position :=
  { p with silence := min nmiss (p.silence + 1), present := p.present && p.silence + 1 < nmiss }

/-- A position after a valid answer (R68). -/
def Position.heard (p : Position) : Position := { p with silence := 0, present := true }

/-- Is the position of the address PRESENT (R68)? -/
def LoopState.presentAt (l : LoopState) (address : Nat) : Bool := (l.positions.find? fun p => p.address == address).any (·.present)

/-- The loop once its exchange is complete, with the cause of its change of state where it changes: a roll call that has polled its
highest address ends in UP (R62), a silent answer at Dlos loses a loop in UP (R70), a valid one at Clos regains a LOST loop (R71); and
otherwise the next address is polled (R65). -/
def LoopState.afterExchange (l : LoopState) (answer : Answer) : LoopState × Option LoopCause :=
  let polled : LoopState := { l with exchange := l.pollNext }
  match l.mode with
  | .off | .testing => (l, none)
  | .training =>
    if ∀ p ∈ l.positions.getLast?, p.address = l.cursor then
      ({ l with mode := .up, exchange := (l.positions.head?.map fun p => Exchange.sendingPoll p.address).getD .idle }, some .trained)
    else (polled, none)
  | .up =>
    if answer = .silent ∧ l.config.dlos ≤ l.deadRun then ({ polled with mode := .lost, validRun := 0 }, some .loss)
    else (polled, none)
  | .lost =>
    if answer.valid = true ∧ l.config.clos ≤ l.validRun then
      ({ l with mode := .training, deadRun := 0, exchange := .sendingWake }, some .regained)
    else (polled, none)

/-- The part after loop `l` has gone to the first of the pair at the end of an exchange: where that is a change of state for a cause, with
its LOOP_EVENT and known to the gates (R64, R69). -/
def State.exchangeEnded (s : State) (l : Nat) (e : LoopState × Option LoopCause) : State :=
  match e.2 with
  | none => { s with loops := s.loops.setIfInBounds l e.1 }
  | some cause => s.loopMoved l e.1 [.loopEvent l (s.loopAt l).mode e.1.mode cause (s.time.day * 86400 + s.time.second)
      ((e.1.positions.filter (·.present)).map (·.address))]

/-- The fields of LOOP_CONFIG meet the conditions of R54. -/
abbrev LoopFieldsInTable (f : LoopFields) : Prop :=
  f.rate ≤ 2 ∧ f.coding ≤ 1 ∧ f.check ≤ 1 ∧ 2 ≤ f.npre ∧ f.npre ≤ 16 ∧ 16 ≤ f.nsync ∧ f.nsync ≤ 4095 ∧
    16 ≤ f.window ∧ f.window ≤ 255 ∧ 1 ≤ f.nmiss ∧ f.nmiss ≤ 15 ∧ 4 ≤ f.dlos ∧ f.dlos ≤ 64 ∧ 2 ≤ f.clos ∧ f.clos ≤ 32 ∧
    f.positions.length ≤ 8 ∧ f.positions.Pairwise (fun a b => a.address ≠ b.address) ∧
    ∀ b ∈ f.positions, 1 ≤ b.address ∧ b.address ≤ 8 ∧ b.gate ≤ 15 ∧ b.direction ≤ 1

/-! ## Commands -/

/-- The events the part sees only while it works: all but the crystal's, the supply's and RESETn's (R163, R165, R172). -/
def needsLive : Instr → Bool
  | .secondEvent | .tenthTick | .mainLoss _ | .backupLow | .mainRestored _ | .resetnLow | .resetnReleased _ | .firstPower => false
  | _ => true

end Sys2Proof.Machine
end

