-- ==== Sys2Proof/Certificates/Slice0/Obligations.lean ====
section
/-! DEFINITION. The statements about the model, for the provers: the steps and the requests of the part as a whole, then the
blocks in the order of the manual's sections, then the laws that every step keeps. A statement that says "model's choice" in
its docstring rests on the assumption log entry it names. -/

open Sys2Proof Sys2Proof.Machine

/-! ## Steps, requests and the station link -/

/-- A step takes the command at the front of the queue and runs it on the part with the queue's rest (the model's own queue, log
26). With no command waiting, a step is one crystal period (model's choice, log 1): away from a second event and a tenth tick the
two dividers move by one period and nothing else changes, the tick divider also in BACKUP and while RESETn is low (model's choice, log
30). R1: the period that ends the seconds divider takes the second event of SECOND_EVENT; R154: the period that ends the tick divider, at
3,276 or 3,277 periods, ten ticks making 32,768 (log 10 for which are the short ones), takes the tick of TENTH_TICK, after the second event
where both end (model's choice, log 1). A stopped crystal (R164) changes nothing. While the part does not work a TENTH_TICK begins the
next count of the divider and nothing else (model's choice, log 30). -/
def Obligations.StepsRunTheQueueOrOneCrystalPeriod : Prop :=
  (∀ (s : State) (c : Instr) (rest : List Instr),
    step { s with pending := c :: rest } = exec c { s with pending := rest }) ∧
  (∀ s : State, s.pending = [] →
    (s.supply.retention = .valid → 1 < s.time.divider → s.bells.tickElapsed + 1 < 3276 →
      step s = .next { s with
        time := { s.time with divider := s.time.divider - 1 }
        bells := { s.bells with tickElapsed := s.bells.tickElapsed + 1 } }) ∧
    (s.supply.retention = .valid → ∃ u : State,
      (if s.time.divider ≤ 1 then exec .secondEvent s
        else .next { s with time := { s.time with divider := s.time.divider - 1 } }) = .next u ∧
      step s = if Config.tickPeriods u.bells.tickPlace ≤ u.bells.tickElapsed + 1 then exec .tenthTick u
        else .next { u with bells := { u.bells with tickElapsed := u.bells.tickElapsed + 1 } }) ∧
    (s.supply.retention = .lost → step s = .next s)) ∧
  (∀ s : State, ¬ s.Works → exec .tenthTick s = .next { s with bells := { s.bells with
    tickElapsed := 0, tickPlace := (s.bells.tickPlace + 1) % 10 } }) ∧
  (∀ place, Config.tickPeriods place = 3276 ∨ Config.tickPeriods place = 3277) ∧
  ((List.range 10).map Config.tickPeriods).sum = 32768

/-- The part answers every command with a next state, and no command touches the queue of those that wait (log 3, log 26). -/
def Obligations.EveryCommandIsAnsweredAndLeavesTheQueue : Prop :=
  ∀ (c : Instr) (s : State), ∃ t, exec c s = .next t ∧ t.pending = s.pending

/-- R163, R165: outside RUN, or with RESETn low, no request, field event or link event has any effect; only the crystal's, the
supply's and RESETn's own events have. MAIN_LOSS (R163), BACKUP_LOW (R164), RESETN_LOW (R165) and FIRST_POWER (R165): the field
and host work stops where it stands, the contents stay, and the Supply Monitor records what came; what each finds already so has
no effect. That the tick divider of the bells goes on is the model's choice (log 30). FIRST_POWER is taken in every state (model's
choice, log 25); the contents stand after a retention LOST (log 22); the mark
stays through the loss itself (log 13); a main loss withdraws an owed start (log 14). -/
def Obligations.SupplyLossStopsTheWorkAndKeepsTheContents : Prop :=
  (∀ (c : Instr) (s : State), needsLive c = true → s.supply.state = .backup ∨ s.supply.resetnHigh = false →
    exec c s = .next s) ∧
  (∀ s : State,
    let stopped : State := { s with
      loops := Vector.ofFn fun l => { s.loops[l] with exchange := .idle, tracker := .search }
      link := { s.link with held := none, partialFrame := [] } }
    (∀ low, s.supply.state = .run → exec (.mainLoss low) s = .next { stopped with supply := { s.supply with
      state := .backup, duration := 0, startOwed := false, retention := if low then .lost else s.supply.retention } }) ∧
    (∀ low, s.supply.state = .backup → exec (.mainLoss low) s = .next s) ∧
    (s.supply.state = .backup → exec .backupLow s = .next { s with supply := { s.supply with retention := .lost } }) ∧
    (s.supply.state = .run → exec .backupLow s = .next s) ∧
    exec .resetnLow s = .next { stopped with supply := { s.supply with resetnHigh := false } } ∧
    exec .firstPower s = .next { stopped with supply := { s.supply with
      state := .backup, retention := .lost, firstPower := true, startOwed := false } })

/-- R168: a request that arrives while one is held is discarded, and REQUEST_OVERRUN is set; nothing else changes but the link's
receiver, which stands between frames. It holds of every kind of request and of REQUEST_OVERRUN itself. R168: a frame whose kind
names no request is answered UNKNOWN_KIND and has no other effect; one of a known kind whose body has not the length its fields
give is answered BAD_VALUE (log 7 for the row that carries it). R167: bytes of which no frame passes leave the part as it was, but
for the bytes of a frame in progress; a gap abandons those. -/
def Obligations.DiscardedFramesHaveNoOtherEffect : Prop :=
  (∀ s : State, s.Works → s.link.held.isSome = true →
    let marked : State := { s with link := { s.link with overrun := true, partialFrame := [] } }
    (∀ c, (encodeRequest c).isSome = true → exec c s = .next marked) ∧
    ∀ kind tag body, exec (.requestOverrun kind tag body) s = .next marked) ∧
  (∀ (s : State) (kind tag : Nat) (body : List Byte), s.Ready →
    (Layout.requestParts kind = none →
      exec (.unknownKind kind tag body) s = .next (s.answered kind tag .unknownKind .nothing)) ∧
    (∀ parts, Layout.requestParts kind = some parts → Layout.bodyFits parts body = false →
      exec (.unknownKind kind tag body) s = .next (s.answered kind tag .badValue .nothing))) ∧
  (∀ s : State, s.Works →
    (∀ (line : List LineByte) (bytes : List Byte), takeLine s.link.partialFrame line = .collecting bytes →
      exec (.stationFrameDiscarded line) s = .next { s with link := { s.link with partialFrame := bytes } }) ∧
    exec .byteGapTimeout s = .next { s with link := { s.link with partialFrame := [] } })

/-- R168: each request taken is held with one reply of its own kind and tag until that reply has been sent. A request refused
leaves every block as it was: the part differs only in the held request and its reply. -/
def Obligations.RequestsAreAnsweredAndRefusalsChangeNothing : Prop :=
  (∀ (c : Instr) (s : State), s.Ready → ∀ r, encodeRequest c = some r →
    ∃ t, exec c s = .next t ∧ t.link.held.map (fun h => (h.kind, h.tag)) = some (r.kind, r.tag)) ∧
  (∀ (c : Instr) (s : State), s.Ready → (encodeRequest c).isSome = true →
    ∃ t, exec c s = .next t ∧ ∀ h ∈ t.link.held, h.reply.result ≠ .ok →
      t = s.answered h.kind h.tag h.reply.result h.reply.content)

/-- R169: a report joins the newest end of the queue, or, with 32 reports held, is dropped and sets REPORTS_DROPPED; REPORT_FETCH
gives up to k of 1 to 4 of the oldest, which leave the queue, with the number left. R170: ATTN is low while a report is queued, an
entry is held or the bank state is READY, and the part works. -/
def Obligations.ReportQueueKeepsOrder : Prop :=
  (∀ (r : Report) (s : State), queueReport r s =
    if s.link.reports.length < 32 then { s with link := { s.link with reports := s.link.reports ++ [r] } }
    else { s with link := { s.link with dropped := true } }) ∧
  (∀ (s : State) (tag k : Nat), s.Ready →
    exec (.reportFetch tag k) s = .next (
      if k < 1 ∨ 4 < k then s.answered 0x71 tag .badValue .nothing
      else State.answered { s with link := { s.link with reports := s.link.reports.drop k } } 0x71 tag .ok
        (.reports (s.link.reports.take k) (s.link.reports.length - k)))) ∧
  ∀ s : State, (s.attnLow = true ↔
    s.Works ∧ (s.link.reports ≠ [] ∨ 0 < s.journal.entries.length ∨ s.period.state = .ready))

/-! ## Section 1: Timebase and Impulse Follower -/

/-- CLOCK_SET (R5): refused out of range; otherwise the time loaded, the divider restarted, the mark NONE, the validity SET, the
time step made known to the bells (R157) and, when it is of 60 s or more either way, to the worker table (R47), and an enabled
follower that is LOCKED or in HOLDOVER sent to SEARCH with its CLOCK_EVENT. R47, R41: a record marked at a large step gets
TIME_STEPPED in its pending set and in the bank its open attendance's tag names, and its changed mark; its attendance, presence
and all else stay. A record with no open attendance is untouched. -/
def Obligations.ClockSetLoadsTheTimeAndMarksALargeStep : Prop :=
  (∀ (s : State) (tag day second : Nat), s.Ready → ∃ t, exec (.clockSet tag day second) s = .next t ∧ t =
      if 65535 < day ∨ 86399 < second then s.answered 0x01 tag .badValue .nothing
      else
        let old := s.time.day * 86400 + s.time.second
        let new := day * 86400 + second
        let moved : State := { s with
          time := ⟨day, second, s.time.trim, (32768 + s.time.trim).toNat, .none, .set⟩
          follower := { s.follower with minuteWindow := t.follower.minuteWindow }
          bells := { s.bells with highWater := max s.bells.highWater (day * 1440 + second / 60) }
          workers := if old + 60 ≤ new ∨ new + 60 ≤ old then s.workers.map markStepped else s.workers }
        let sought : State :=
          if s.follower.state = .locked ∨ s.follower.state = .holdover then
            queueReport (.clockEvent s.follower.state .search .clockSet new s.follower.phase)
              { moved with follower := { moved.follower with state := .search } }
          else moved
        sought.answered 0x01 tag .ok .nothing) ∧
  (∀ w : WorkerRecord,
    (w.attendance = none → markStepped w = w) ∧
    ∀ a, w.attendance = some a → markStepped w = { w with
      pendingSet := { w.pendingSet with timeStepped := true }
      changed := true
      current := if a.tag = .current then
        { w.current with anomalies := { w.current.anomalies with timeStepped := true } } else w.current
      closing := if a.tag = .closing then
        { w.closing with anomalies := { w.closing.anomalies with timeStepped := true } } else w.closing })

/-- CLOCK_CONFIG (R9): refused out of range with nothing applied; otherwise trim and C stored and the enable flag applied by the
follower's state. -/
def Obligations.ClockConfigAppliesItsThreeValues : Prop :=
  ∀ (s : State) (tag : Nat) (enable : Bool) (window : Nat) (trim : Int), s.Ready →
    exec (.clockConfig tag enable window trim) s = .next (
      if window < 1 ∨ 30 < window ∨ trim < -128 ∨ 127 < trim then s.answered 0x02 tag .badValue .nothing
      else
        let stored : State := { s with
          time := { s.time with trim := trim }, follower := { s.follower with window := window } }
        let applied : State :=
          if enable = true ∧ s.follower.state = .off then
            queueReport (.clockEvent .off .search .enable (s.time.day * 86400 + s.time.second) s.follower.phase)
              { stored with follower := { stored.follower with
                enable := true, state := .search, miss1 := false, miss2 := false, wide1 := false, wide2 := false
                missingRun := 0, wideRun := 0, windowFlag := false, lastLine := none } }
          else if enable = false ∧ s.follower.state ≠ .off then
            queueReport (.clockEvent s.follower.state .off .disable (s.time.day * 86400 + s.time.second) s.follower.phase)
              { stored with
                time := { stored.time with mark := .none }
                follower := { stored.follower with enable := false, state := .off } }
          else stored
        applied.answered 0x02 tag .ok .nothing)

/-- A second event of a working part within its minute (R1, R2, R14, R102): the divider reloaded, the second counted under the
correction mark, the window check made in LOCKED where it is due, every running gate timer one second lower, and nothing else; a timer
that stands at 0 stays there (model's choice, log 3). R2, R3: the second event that leaves second 59, or that passes over an omitted
one, begins the next minute, carrying into the day number and wrapping from day 65,535 to day 0, and its minute event is taken. R17,
R163, R165: a part in BACKUP, or held by RESETn, counts on the crystal and the trim alone, with no correction, no check, no timer and
no minute event; the backup duration rises in BACKUP (log 13 for the mark, which no one can read there). R164: a stopped Timebase does
not count. -/
def Obligations.SecondEventsCountTheTime : Prop :=
  (∀ s : State, s.supply.retention = .valid → s.Works → s.time.second < 86400 →
    (s.time.second % 60 < 58 ∨ (s.time.second % 60 = 58 ∧ s.time.mark ≠ .omit) ∨
      (s.time.second % 60 = 59 ∧ s.time.mark = .holding)) →
    (s.time.mark = .holding → s.time.second % 60 = 59) →
    exec .secondEvent s = .next (
      let second := if s.time.mark = .holding then s.time.second else s.time.second + 1
      let mark : Mark :=
        if s.time.mark = .holding then .none
        else if s.time.mark = .hold ∧ s.time.second % 60 = 58 then .holding else s.time.mark
      let counted : State := { s with
        time := { s.time with second := second, mark := mark, divider := (32768 + s.time.trim).toNat }
        gates := Vector.ofFn fun g => { s.gates[g] with
          releaseTimer := s.gates[g].releaseTimer.map (· - 1), heldTimer := s.gates[g].heldTimer.map (· - 1) } }
      if s.follower.state = .locked ∧ second % 60 = s.follower.minuteWindow + 1 then
        if s.follower.windowFlag then { counted with follower := { s.follower with windowFlag := false } }
        else if s.follower.missingRun = 0 then
          { counted with follower := { s.follower with missingRun := 1, miss1 := true } }
        else queueReport (.clockEvent .locked .holdover .miss (s.time.day * 86400 + second) s.follower.phase)
          { counted with
            time := { counted.time with mark := .none }
            follower := { s.follower with missingRun := s.follower.missingRun + 1, miss2 := true, state := .holdover } }
      else counted)) ∧
  (∀ s : State, s.supply.retention = .valid → s.time.second < 86400 →
    let advance := fun (n : Nat) => if s.time.second + n < 86400 then (s.time.day, s.time.second + n)
      else ((s.time.day + 1) % 65536, s.time.second + n - 86400)
    (s.Works → ∀ omitted : Bool, (omitted = true → s.time.second % 60 = 58 ∧ s.time.mark = .omit) →
      (omitted = false → s.time.second % 60 = 59 ∧ s.time.mark ≠ .holding) →
      exec .secondEvent s = .next (
        let counted := advance (if omitted then 2 else 1)
        let begun : State := { s with
          time := { s.time with
            day := counted.1, second := counted.2, divider := (32768 + s.time.trim).toNat
            mark := if omitted then .none else s.time.mark }
          follower := { s.follower with minuteWindow := s.follower.window } }
        { minuteEvent begun with
          gates := Vector.ofFn fun g => { s.gates[g] with
            releaseTimer := s.gates[g].releaseTimer.map (· - 1), heldTimer := s.gates[g].heldTimer.map (· - 1) } })) ∧
    (s.supply.state = .backup ∨ s.supply.resetnHigh = false →
      exec .secondEvent s = .next { s with
        time := { s.time with
          day := (advance 1).1, second := (advance 1).2, divider := (32768 + s.time.trim).toNat, mark := .none }
        follower := if s.time.second % 60 = 59 then { s.follower with minuteWindow := s.follower.window } else s.follower
        supply := if s.supply.state = .backup then { s.supply with duration := min 4294967295 (s.supply.duration + 1) }
          else s.supply })) ∧
  ∀ s : State, s.supply.retention = .lost → exec .secondEvent s = .next s

/-- R44, R45: a minute event that carries SET, whatever brought it (a count, the passing over of an omitted second or a forward
alignment), finalizes exactly the open attendances whose limit has passed, and touches no other record; at plant minute 0 every limit
has passed; one that carries UNSET does nothing. R45: an attendance closed by the part with its last segment
open is finalized with that segment closed at E, or at its in minute where that lies past E or the attendance is UNSCHEDULED, and leaves
presence UNKNOWN and MISSED_OUT in the pending set and in the bank the attendance's tag names; one whose last segment is closed is
finalized as it is. Either way the credit goes to that bank (R39, R126), with the changed mark, and no attendance is left. -/
def Obligations.MinuteEventClosesTheOverdueAttendances : Prop :=
  (∀ s : State, (s.time.validity = .unset → minuteEvent s = s) ∧
    (s.WorkersOrdered → s.time.validity = .set → (minuteEvent s).workers = s.workers.map fun w =>
      match w.attendance with
      | none => w
      | some a =>
        let m := s.time.day * 1440 + s.time.second / 60
        let passed : Bool := m == 0 || match a.kind with
          | .unscheduled => a.start + s.calendar.tally.unschedLimit ≤ m
          | .scheduled code stop => (s.calendar.shiftOf code).any fun d => stop + d.closeDelay ≤ m
        if passed then autoCloseRecord s.calendar a w else w)) ∧
  (∀ s : State, s.WorkersOrdered → s.supply.retention = .valid → s.Works →
    s.time.validity = .set → s.time.second < 86400 → s.time.second % 60 = 59 → s.time.mark = .none → ∃ t,
    exec .secondEvent s = .next t ∧
    t.workers = s.workers.map fun w =>
      match w.attendance with
      | none => w
      | some a =>
        let m := t.time.day * 1440 + t.time.second / 60
        let passed : Bool := m == 0 || match a.kind with
          | .unscheduled => a.start + s.calendar.tally.unschedLimit ≤ m
          | .scheduled code stop => (s.calendar.shiftOf code).any fun d => stop + d.closeDelay ≤ m
        if passed then autoCloseRecord s.calendar a w else w) ∧
  (∀ (c : Calendar) (w : WorkerRecord) (a : Attendance), w.attendance = some a → ∀ g, a.segments.getLast? = some g →
    let r := autoCloseRecord c a w
    (g.outMinute = none → r = (({ w with presence := .unknown } : WorkerRecord).raised (some a.tag)
      fun x => { x with missedOut := true }).finalized c (a.closed g (a.unseenOut g.inMinute))) ∧
    (g.outMinute.isSome = true → r = w.finalized c a) ∧
    r.attendance = none ∧ r.badge = w.badge ∧ r.pendingGate = w.pendingGate ∧ r.lastPunch = w.lastPunch ∧ r.changed = true ∧
    (g.outMinute = none → r.presence = .unknown ∧ r.pendingSet.missedOut = true ∧
      (r.bank a.tag).anomalies.missedOut = true) ∧
    (g.outMinute.isSome = true → r.presence = w.presence ∧ r.pendingSet.missedOut = w.pendingSet.missedOut) ∧
    (r.bank a.tag).count = min 255 ((w.bank a.tag).count + 1) ∧
    (a.tag = .current → r.closing = w.closing) ∧ (a.tag = .closing → r.current = w.current))

/-- An impulse in SEARCH or HOLDOVER below position 30 (R10, R11): the time steps back to second 0 of its minute, the divider
restarts, the mark is NONE, and the follower becomes LOCKED with its CLOCK_EVENT. An impulse in SEARCH or HOLDOVER from position
30 on (R10, R11): the time steps forward to second 0 of the next minute, the follower becomes LOCKED with its CLOCK_EVENT, and the
minute event of the new minute is taken; the gates, the loops, the journal and the punch in hand are untouched. The qualifier of the
line has delivered and is held (R8). -/
def Obligations.ImpulsesAlignTheClock : Prop :=
  (∀ (s : State) (l : ActiveLine), s.Works → s.lineDelivers l → s.time.second < 86400 →
    s.follower.state = .search ∨ s.follower.state = .holdover → s.time.second % 60 < 30 →
    exec (.impulseEvent l) s = .next (
      let p := s.time.second % 60
      queueReport (.clockEvent s.follower.state .locked .align (s.time.day * 86400 + (s.time.second - p)) p) { s with
        time := { s.time with second := s.time.second - p, divider := (32768 + s.time.trim).toNat, mark := .none }
        follower := { s.follower with
          state := .locked, lastLine := some l.line, phase := p, windowFlag := true, missingRun := 0, wideRun := 0
          miaHeld := s.follower.miaHeld || l.line == .mia, mibHeld := s.follower.mibHeld || l.line == .mib } })) ∧
  (∀ (s : State) (l : ActiveLine), s.Works → s.lineDelivers l → s.time.second < 86400 →
    s.follower.state = .search ∨ s.follower.state = .holdover → 30 ≤ s.time.second % 60 →
    let stepped := s.time.second + (60 - s.time.second % 60)
    let time : Timebase := { s.time with
      second := stepped % 86400, day := if stepped = 86400 then (s.time.day + 1) % 65536 else s.time.day
      divider := (32768 + s.time.trim).toNat, mark := .none }
    let phase : Int := (s.time.second % 60 : Nat) - 60
    ∃ t, exec (.impulseEvent l) s = .next t ∧
      t = minuteEvent { s with
        time := time
        follower := { s.follower with
          state := .locked, lastLine := some l.line, phase := phase, windowFlag := true, missingRun := 0, wideRun := 0
          minuteWindow := s.follower.window
          miaHeld := s.follower.miaHeld || l.line == .mia, mibHeld := s.follower.mibHeld || l.line == .mib }
        link := s.link.queue (.clockEvent s.follower.state .locked .align (time.day * 86400 + time.second) phase) } ∧
      t.time = time ∧ t.gates = s.gates ∧ t.loops = s.loops ∧ t.journal = s.journal ∧ t.punch = s.punch ∧ t.fire = s.fire ∧
      t.supply = s.supply)

/-- An impulse in LOCKED (R10, R12, R13): ignored on the last accepted line; on the other line judged against the window, with one
correction mark at most, and the second wide impulse in a row giving up the lock. OFF ignores every impulse. R8: a line that has not
been inactive since its last impulse, or since a start that found it active, delivers none (the event's operand says
whether it has been, log 5). -/
def Obligations.ImpulseDisciplinesALockedClock : Prop :=
  (∀ (s : State) (l : ActiveLine), ¬ s.lineDelivers l → exec (.impulseEvent l) s = .next s) ∧
  ∀ (s : State) (l : ActiveLine), s.Works → s.lineDelivers l →
      let seen : State := { s with follower := { s.follower with
        miaHeld := s.follower.miaHeld || l.line == .mia, mibHeld := s.follower.mibHeld || l.line == .mib } }
      let p := s.time.second % 60
      let e : Int := if p < 30 then p else (p : Int) - 60
      (s.follower.state = .off → exec (.impulseEvent l) s = .next seen) ∧
      (s.follower.state = .locked → exec (.impulseEvent l) s = .next (
        if s.follower.lastLine = some l.line then seen
        else if p ≤ s.follower.window ∨ 60 - s.follower.window ≤ p then { seen with
          follower := { seen.follower with
            lastLine := some l.line, phase := e, windowFlag := true, missingRun := 0, wideRun := 0 }
          time := { s.time with mark :=
            if s.time.mark ≠ .none ∨ e = 0 then s.time.mark else if 0 < e then .hold else .omit } }
        else if s.follower.wideRun = 0 then { seen with
          follower := { seen.follower with lastLine := some l.line, phase := e, wideRun := 1, wide1 := true } }
        else queueReport (.clockEvent .locked .search .wide (s.time.day * 86400 + s.time.second) e) { seen with
          time := { s.time with mark := .none }
          follower := { seen.follower with
            lastLine := some l.line, phase := e, wideRun := s.follower.wideRun + 1, wide2 := true, state := .search } }))

/-- CLOCK_READ (R15) and LOOP_STATUS (R76): the reading as it stands, and then, where the flag is given, the latches cleared.
STATUS (R171): the counts and states as they stand, and then REQUEST_OVERRUN and REPORTS_DROPPED cleared. -/
def Obligations.LatchReadingsShowThenClear : Prop :=
  ∀ (s : State) (tag loop : Nat) (clear : Bool), s.Ready →
    exec (.clockRead tag clear) s = .next (
      let f := s.follower
      let shown := Content.clock ⟨s.time.day, s.time.second, s.time.validity, s.time.trim, f.enable, f.window, f.state, f.lastLine,
        s.time.mark, f.miss1, f.miss2, f.wide1, f.wide2, f.phase⟩
      if clear then
        State.answered { s with follower := { f with miss1 := false, miss2 := false, wide1 := false, wide2 := false } } 0x03 tag .ok shown
      else s.answered 0x03 tag .ok shown) ∧
    exec (.loopStatus tag loop clear) s = .next (
      if h : loop < 4 then
        let l := s.loops[loop]
        let shown := Content.loop ⟨l.config, l.mode, l.intent, l.miss1, l.miss2, l.deadRun, l.validRun, l.positions⟩
        if clear then
          State.answered { s with loops := s.loops.set loop { l with miss1 := false, miss2 := false } } 0x34 tag .ok shown
        else s.answered 0x34 tag .ok shown
      else s.answered 0x34 tag .badValue .nothing) ∧
    exec (.status tag) s = .next (
      State.answered { s with link := { s.link with overrun := false, dropped := false } } 0x70 tag .ok
        (.status ⟨s.time.validity, s.follower.state, s.loops.toList.map (·.mode),
          (List.range 16).map fun g => ⟨s.gateState g, (s.gateAt g).mode⟩, s.fire, s.journal.entries.length, s.journal.reserved,
          s.period.state, s.period.counter, s.link.reports.length, s.link.overrun, s.link.dropped⟩))

/-! ## Section 2: Shift Calendar -/

/-- SHIFT_DEFINE (R18, R19): refused BAD_VALUE outside Table 2.1, IN_USE while the code's open reference count is above 0, and
otherwise stored with its breaks in ascending order of offset. SHIFT_DELETE (R20): its four checks in their order. -/
def Obligations.ShiftsAreDefinedAndDeletedUnused : Prop :=
  (∀ (s : State) (tag code : Nat) (d : ShiftDef), s.Ready →
    exec (.shiftDefine tag code d) s = .next (
      if code < 1 ∨ 15 < code ∨ ¬ ShiftInTable d then s.answered 0x10 tag .badValue .nothing
      else if 0 < s.calendar.openRef code then s.answered 0x10 tag .inUse .nothing
      else
        let breaks := match d.breaks with
          | [a, b] => if b.offset < a.offset then [b, a] else [a, b]
          | l => l
        State.answered { s with calendar := { s.calendar with
          shifts := s.calendar.shifts.setIfInBounds (code - 1) (some { d with breaks := breaks }) } } 0x10 tag .ok .nothing)) ∧
  (∀ (s : State) (tag code : Nat), s.Ready →
    exec (.shiftDelete tag code) s = .next (
      if code < 1 ∨ 15 < code then s.answered 0x11 tag .badValue .nothing
      else if s.calendar.shifts.getD (code - 1) none = none then s.answered 0x11 tag .notFound .nothing
      else if 0 < s.calendar.openRef code then s.answered 0x11 tag .inUse .nothing
      else State.answered { s with calendar := { s.calendar with shifts := s.calendar.shifts.setIfInBounds (code - 1) none } }
        0x11 tag .ok .nothing))

/-- CREW_DEFINE (R23), TALLY_CONFIG (R25) and RATE_SET (R27): each refused BAD_VALUE whole, or stored whole; every listed grade
takes its new rate and every other keeps its own. -/
def Obligations.CalendarTablesAreReplacedWhole : Prop :=
  ∀ s : State, s.Ready →
    (∀ (tag crew n anchor : Nat) (pattern : List Nat), exec (.crewDefine tag crew n anchor pattern) s = .next (
      if 1 ≤ crew ∧ crew ≤ 8 ∧ 1 ≤ n ∧ n ≤ 28 ∧ anchor ≤ 65535 ∧ pattern.length = n ∧ ∀ code ∈ pattern, code ≤ 15 then
        State.answered { s with calendar := { s.calendar with
          rotations := s.calendar.rotations.setIfInBounds (crew - 1) ⟨anchor, pattern⟩ } } 0x12 tag .ok .nothing
      else s.answered 0x12 tag .badValue .nothing)) ∧
    (∀ (tag : Nat) (p : TallyParams), exec (.tallyConfig tag p) s = .next (
      if p.nightStart ≤ 1439 ∧ p.nightEnd ≤ 1439 ∧ 8 ≤ p.otFactor ∧ p.otFactor ≤ 24 ∧ p.nightFactor ≤ 8 ∧
          p.unschedUnit ∈ [1, 5, 6, 10, 15, 30] ∧ 60 ≤ p.unschedCap ∧ p.unschedCap ≤ 480 ∧
          60 ≤ p.unschedLimit ∧ p.unschedLimit ≤ 960 then
        State.answered { s with calendar := { s.calendar with tally := p } } 0x13 tag .ok .nothing
      else s.answered 0x13 tag .badValue .nothing)) ∧
    (∀ (tag : Nat) (rates : List GradeRate), exec (.rateSet tag rates) s = .next (
      if 1 ≤ rates.length ∧ rates.length ≤ 16 ∧ (∀ r ∈ rates, r.grade ≤ 15 ∧ r.rate ≤ 65535) ∧
          rates.Pairwise (fun a b => a.grade ≠ b.grade) then
        State.answered { s with calendar := { s.calendar with
          rates := Vector.ofFn fun g => ((rates.find? fun r => r.grade == g.val).map (·.rate)).getD s.calendar.rates[g] } }
          0x14 tag .ok .nothing
      else s.answered 0x14 tag .badValue .nothing))

/-- CALENDAR_READ (R30) under each selector: nothing changes, and the answer is the table's own, the DAY answer by the index of
R24. WORKER_GET (R49), MUSTER_READ (R113), JOURNAL_READ (R123), GATE_READ (R114, log 19), PERIOD_READ (R150) and BELL_READ (R161):
nothing changes, and the answer is what the tables hold. -/
def Obligations.ReadingsChangeNothing : Prop :=
  (∀ (s : State) (tag : Nat), s.Ready →
    (∀ code, exec (.calendarReadShift tag code) s = .next (
      if code < 1 ∨ 15 < code then s.answered 0x15 tag .badValue .nothing
      else match s.calendar.shifts.getD (code - 1) none with
        | none => s.answered 0x15 tag .notFound .nothing
        | some d => s.answered 0x15 tag .ok (.shift d (s.calendar.openRefs.getD (code - 1) 0)))) ∧
    (∀ crew, exec (.calendarReadCrew tag crew) s = .next (
      if crew < 1 ∨ 8 < crew then s.answered 0x15 tag .badValue .nothing
      else s.answered 0x15 tag .ok (.crew (s.calendar.rotations.getD (crew - 1) Rotation.rest)))) ∧
    (∀ crew day, exec (.calendarReadDay tag crew day) s = .next (
      if crew < 1 ∨ 8 < crew ∨ 65535 < day then s.answered 0x15 tag .badValue .nothing
      else
        let r := s.calendar.rotations.getD (crew - 1) Rotation.rest
        let index := (((day : Int) - r.anchor) % r.pattern.length).toNat
        let code := r.pattern.getD index 0
        s.answered 0x15 tag .ok (
          if code = 0 then .day index code .resting none
          else match s.calendar.shiftOf code with
            | none => .day index code .undefinedCode none
            | some d => .day index code .working (some (day * 1440 + d.start, day * 1440 + d.start + d.length))))) ∧
    exec (.calendarReadTally tag) s = .next (s.answered 0x15 tag .ok (.tally s.calendar.tally)) ∧
    exec (.calendarReadRates tag) s = .next (s.answered 0x15 tag .ok (.rates s.calendar.rates.toList))) ∧
  (∀ (s : State) (tag : Nat), s.Ready →
    (∀ badge, exec (.workerGet tag badge) s = .next (
      if badge < 1 ∨ 16777215 < badge then s.answered 0x21 tag .badValue (.recordCount s.workers.length)
      else match s.workers.find? (fun w => w.badge == badge) with
        | none => s.answered 0x21 tag .notFound (.recordCount s.workers.length)
        | some w => s.answered 0x21 tag .ok (.worker w s.workers.length))) ∧
    (∀ cursor k, exec (.musterRead tag cursor k) s = .next (
      if 16777215 < cursor ∨ k < 1 ∨ 8 < k then s.answered 0x43 tag .badValue .nothing
      else
        let standing := s.workers.filter fun w => cursor < w.badge ∧ w.presence ≠ .outside
        s.answered 0x43 tag .ok (.muster
          ((standing.take k).map fun w => ⟨w.badge, w.presence, w.lastPunch.map (·.gate), w.lastPunch.map (·.second)⟩)
          (k < standing.length)))) ∧
    (∀ k, exec (.journalRead tag k) s = .next (
      if k < 1 ∨ 16 < k then s.answered 0x48 tag .badValue .nothing
      else s.answered 0x48 tag .ok (.journal s.journal.entries.length s.journal.reserved s.journal.nextNumber
        (s.journal.entries.take k)))) ∧
    (∀ gate, exec (.gateRead tag gate) s = .next (
      if 15 < gate then s.answered 0x42 tag .badValue .nothing
      else
        let x := s.gateAt gate
        let hinged : Bool := x.config.kind == .hinged
        s.answered 0x42 tag .ok (.gate ⟨x.config, x.mode, s.gateState gate, s.standing gate, s.cutOff gate, x.arming, x.releaseTimer,
          if hinged then some x.contactOpen else none, if hinged then x.heldTimer else none, x.passage, s.fire⟩))) ∧
    exec (.periodRead tag) s = .next (
      let p := s.period
      s.answered 0x53 tag .ok (.period ⟨p.state, p.number, p.boundary, p.previous, p.counter, p.workerCount, p.cursor,
        match p.state with
        | .ready | .drained => some p.grand
        | .free | .pending => none⟩)) ∧
    exec (.bellRead tag) s = .next (s.answered 0x5D tag .ok
      (.bells ⟨s.bells.cadences.toList, s.bells.fixed.toList, s.bells.fireMask, s.bells.highWater, s.bells.zones.toList⟩)))

/-- R28, R29: matching answers none when no window qualifies, and otherwise a qualifying window with its start nearest the entry,
the earlier of two equally near. -/
def Obligations.MatchingChoosesTheNearestWindow : Prop :=
  ∀ (c : Calendar) (crew t : Nat),
    (∀ w, c.matchEntry (some crew) t = some w → c.Qualifies crew t w ∧
      ∀ v, c.Qualifies crew t v →
        w.distance t < v.distance t ∨ (w.distance t = v.distance t ∧ w.start ≤ v.start)) ∧
    (c.matchEntry (some crew) t = none → ∀ v, ¬ c.Qualifies crew t v) ∧
    c.matchEntry none t = none

/-! ## Section 3: Worker Table -/

/-- WORKER_PUT (R48): the fields checked; a held record keeps all but its host-set fields, a new badge is installed in badge
order, and a full table refuses it. Every reply carries the number of records. -/
def Obligations.WorkerPutReplacesOrInstalls : Prop :=
  ∀ (s : State) (tag : Nat) (f : WorkerFields), s.Ready → s.WorkersOrdered →
    exec (.workerPut tag f) s = .next (
      let n := s.workers.length
      let status : WorkerStatus := if f.status = 0 then .active else .suspended
      if f.badge < 1 ∨ 16777215 < f.badge ∨ 1 < f.status ∨ (∃ d ∈ f.validUntil, 65535 < d) ∨
          (∃ c ∈ f.crew, c < 1 ∨ 8 < c) ∨ 15 < f.grade then
        s.answered 0x20 tag .badValue (.recordCount n)
      else if ∃ w ∈ s.workers, w.badge = f.badge then
        State.answered { s with workers := s.workers.map fun w => if w.badge = f.badge then { w with
            status := status, validUntil := f.validUntil, crew := f.crew, grade := f.grade, gateMask := f.gateMask
            anytime := f.anytime, unschedAuth := f.unschedAuth } else w } 0x20 tag .ok (.recordCount n)
      else if n < 4096 then
        let new : WorkerRecord := ⟨f.badge, status, f.validUntil, f.crew, f.grade, f.gateMask, f.anytime, f.unschedAuth, .outside,
          none, none, none, AnomalySet.empty, Bank.empty, Bank.empty, false⟩
        let below := s.workers.takeWhile fun w => w.badge < f.badge
        let above := s.workers.dropWhile fun w => w.badge < f.badge
        State.answered { s with workers := below ++ new :: above } 0x20 tag .ok (.recordCount (n + 1))
      else s.answered 0x20 tag .tableFull (.recordCount n))

/-- WORKER_REMOVE (R50): its checks in their order; a record removed leaves every other as it was. WORKER_PRESENCE (R51): its
checks in their order; the value set, with the changed mark, on that record alone. -/
def Obligations.WorkerRemoveAndPresenceFollowTheirChecks : Prop :=
  (∀ (s : State) (tag badge : Nat), s.Ready →
    exec (.workerRemove tag badge) s = .next (
      if badge < 1 ∨ 16777215 < badge then s.answered 0x22 tag .badValue .nothing
      else match s.workers.find? (fun w => w.badge == badge) with
        | none => s.answered 0x22 tag .notFound .nothing
        | some w =>
          if w.attendance ≠ none ∨ w.pendingGate ≠ none then s.answered 0x22 tag .inUse .nothing
          else if w.current ≠ Bank.empty ∨ w.closing ≠ Bank.empty then s.answered 0x22 tag .totalsPending .nothing
          else
            let left := s.workers.filter fun x => x.badge ≠ badge
            State.answered { s with workers := left } 0x22 tag .ok (.recordCount left.length))) ∧
  (∀ (s : State) (tag badge value : Nat), s.Ready → s.WorkersOrdered →
    exec (.workerPresence tag badge value) s = .next (
      if badge < 1 ∨ 16777215 < badge ∨ 2 < value then s.answered 0x23 tag .badValue .nothing
      else match s.workers.find? (fun w => w.badge == badge) with
        | none => s.answered 0x23 tag .notFound .nothing
        | some w =>
          if w.attendance ≠ none ∨ w.pendingGate ≠ none then s.answered 0x23 tag .inUse .nothing
          else
            let p : Presence := if value = 0 then .inside else if value = 1 then .outside else .unknown
            State.answered { s with workers := s.workers.map fun x =>
              if x.badge = badge then { x with presence := p, changed := true } else x } 0x23 tag .ok .nothing))

/-- COLLECT_CHANGED (R52): of the first k marked records beyond the cursor, in badge order, as many as fit whole in the 245 bytes a
reply frame leaves them (R167, R173), which is the first of them at least; MORE says whether a marked record remains; only the
returned records lose their mark. The returned records show their mark as set (log 24). -/
def Obligations.CollectChangedWalksTheMarkedRecords : Prop :=
  ∀ (s : State) (tag cursor k : Nat), s.Ready → s.WorkersOrdered →
    (16777215 < cursor ∨ k < 1 ∨ 8 < k → exec (.collectChanged tag cursor k) s = .next (s.answered 0x24 tag .badValue .nothing)) ∧
    (cursor ≤ 16777215 → 1 ≤ k → k ≤ 8 →
      let marked := s.workers.filter fun w => cursor < w.badge ∧ w.changed = true
      let given := takeFitting 245 (marked.take k)
      let room := fun (n : Nat) => (((marked.take k).take n).map fun w => (Layout.workerRecord w).length).sum
      exec (.collectChanged tag cursor k) s = .next (
        State.answered { s with workers := s.workers.map fun w =>
            if w.badge ∈ given.map (·.badge) then { w with changed := false } else w } 0x24 tag .ok
          (.workers given (given.length < marked.length))) ∧
      given = (marked.take k).take given.length ∧ room given.length ≤ 245 ∧
      (given.length < (marked.take k).length → 245 < room (given.length + 1)) ∧
      ((∀ w ∈ s.workers, w.agrees = true) → marked ≠ [] → 1 ≤ given.length))

/-! ## Section 4: Reader Loops -/

/-- LOOP_CONFIG (R54): its checks in their order; otherwise the fields stored together, the bindings in ascending order of
address, each ABSENT with a silence run of 0 and with the duplicate record its address held. Every gate bound before or after takes its
recomputed standing (R69, R109). The bit rate is numbered as a list (log 27). -/
def Obligations.LoopConfigStoresItsBindings : Prop :=
  ∀ (s : State) (tag loop : Nat) (f : LoopFields), s.Ready →
    (3 < loop → exec (.loopConfig tag loop f) s = .next (s.answered 0x30 tag .badValue .nothing)) ∧
    (loop ≤ 3 → (s.loopAt loop).mode ≠ .off → exec (.loopConfig tag loop f) s = .next (s.answered 0x30 tag .state .nothing)) ∧
    (loop ≤ 3 → (s.loopAt loop).mode = .off → ¬ LoopFieldsInTable f →
      exec (.loopConfig tag loop f) s = .next (s.answered 0x30 tag .badValue .nothing)) ∧
    (loop ≤ 3 → (s.loopAt loop).mode = .off → LoopFieldsInTable f → ∃ t, exec (.loopConfig tag loop f) s = .next t ∧
      let y := t.loopAt loop
      t = State.answered (s.loopMoved loop { s.loopAt loop with config := y.config, positions := y.positions } []) 0x30 tag .ok .nothing ∧
      y.config = ⟨y.config.rate, y.config.coding, y.config.check, f.npre, f.nsync, f.window, f.nmiss, f.dlos, f.clos⟩ ∧
      Layout.bitRate y.config.rate = f.rate ∧ Layout.coding y.config.coding = f.coding ∧
      Layout.checkKind y.config.check = f.check ∧
      (y.positions.Pairwise fun a b => a.address < b.address) ∧
      (y.positions.map fun p => (⟨p.address, p.gate, Layout.direction p.direction⟩ : BindingFields)).Perm f.positions ∧
      ∀ p ∈ y.positions, p.present = false ∧ p.silence = 0 ∧
        p.duplicate = ((s.loopAt loop).positions.find? fun q => q.address == p.address).bind (·.duplicate))

/-- LOOP_START (R61): refused out of range, outside OFF or with no positions; otherwise the run intent set, every position ABSENT
with its duplicate record cleared, latches and runs cleared, TRAINING entered with its LOOP_EVENT, and the wake begun. LOOP_STOP
(R63) and LOOP_TEST (R74): refused as they say; a stop leaves presence, silence runs and duplicate records as they stand and the
loop OFF; a test clears its counts and begins TEST frame 1 with the loop's bindings untouched. Every gate bound to the loop takes its
recomputed standing, with the CLEARED report of an alarm that ends (R69, R109, R110); the LOOP_EVENT comes before those reports (model's
choice, log 15). -/
def Obligations.LoopOrdersMoveTheLoop : Prop :=
  (∀ (s : State) (tag loop : Nat), s.Ready →
    (3 < loop → exec (.loopStart tag loop) s = .next (s.answered 0x31 tag .badValue .nothing)) ∧
    (loop ≤ 3 → (s.loopAt loop).mode ≠ .off ∨ (s.loopAt loop).positions = [] →
      exec (.loopStart tag loop) s = .next (s.answered 0x31 tag .state .nothing)) ∧
    (loop ≤ 3 → (s.loopAt loop).mode = .off → (s.loopAt loop).positions ≠ [] →
      exec (.loopStart tag loop) s = .next (State.answered (s.loopMoved loop { s.loopAt loop with
          mode := .training, intent := true, miss1 := false, miss2 := false, deadRun := 0, validRun := 0, exchange := .sendingWake
          positions := (s.loopAt loop).positions.map fun p => { p with present := false, silence := 0, duplicate := none } }
        [.loopEvent loop .off .training .start (s.time.day * 86400 + s.time.second) []]) 0x31 tag .ok .nothing))) ∧
  (∀ (s : State) (tag loop k : Nat), s.Ready →
    let x := s.loopAt loop
    let now := s.time.day * 86400 + s.time.second
    let present := (x.positions.filter (·.present)).map (·.address)
    (3 < loop → exec (.loopStop tag loop) s = .next (s.answered 0x32 tag .badValue .nothing)) ∧
    (loop ≤ 3 → x.mode = .off → exec (.loopStop tag loop) s = .next
      (State.answered { s with loops := s.loops.setIfInBounds loop { x with intent := false } } 0x32 tag .ok .nothing)) ∧
    (loop ≤ 3 → x.mode ≠ .off → exec (.loopStop tag loop) s = .next (State.answered
      (s.loopMoved loop { x with mode := .off, intent := false, tracker := .search, exchange := .idle }
        [.loopEvent loop x.mode .off .stop now present]) 0x32 tag .ok .nothing)) ∧
    (3 < loop ∨ k < 1 ∨ 255 < k → exec (.loopTest tag loop k) s = .next (s.answered 0x33 tag .badValue .nothing)) ∧
    (loop ≤ 3 → 1 ≤ k → k ≤ 255 → x.mode ≠ .off →
      exec (.loopTest tag loop k) s = .next (s.answered 0x33 tag .state .nothing)) ∧
    (loop ≤ 3 → 1 ≤ k → k ≤ 255 → x.mode = .off → exec (.loopTest tag loop k) s = .next (State.answered
      (s.loopMoved loop { x with mode := .testing, good := 0, checkFailed := 0, aborted := 0, exchange := .testing k 1 }
        [.loopEvent loop .off .testing .test now present]) 0x33 tag .ok .nothing)))

/-- The end of a frame the loop sends (R60, R62, R65, R66): after a WAKE the roll call begins at the lowest address; after a POLL
its answer is awaited; after a VERDICT in UP, or after the quiet that follows an abort, the next POLL is sent. Nothing else
changes. R62: the VERDICT to the highest configured address in TRAINING completes the roll call: the loop enters UP with a
LOOP_EVENT of cause TRAINED, which every gate bound to it takes (R69, R109, order by log 15), and polls the lowest address; before it, the
roll call goes on. R55, R59, R163,
Table 4.6: the driver LnDE of a loop is on while the part works and the loop sends a WAKE, a POLL or a VERDICT, and off otherwise, so in OFF
and TESTING; the line then carries that frame, its preamble of Nsync bytes for a WAKE and of Npre for the others, in the loop's coding. -/
def Obligations.SentFramesMoveTheExchange : Prop :=
  (∀ (s : State) (l : Fin 4), s.Works →
    let x := s.loopAt l
    (∀ a, x.exchange = .sendingPoll a → exec (.pollSent l) s = .next
      { s with loops := s.loops.setIfInBounds l { x with cursor := a, exchange := .awaiting a } }) ∧
    (∀ p, x.positions.head? = some p → x.exchange = .sendingWake → exec (.wakeSent l) s = .next
      { s with loops := s.loops.setIfInBounds l { x with exchange := .sendingPoll p.address } }) ∧
    (∀ a sequence v, x.exchange = .sendingVerdict a sequence v → x.mode = .up → exec (.verdictSent l) s = .next
      { s with loops := s.loops.setIfInBounds l { x with exchange := x.pollNext } }) ∧
    (x.exchange = .quiet → exec (.abortQuietEnded l) s = .next
      { s with loops := s.loops.setIfInBounds l { x with exchange := x.pollNext } })) ∧
  (∀ (s : State) (l : Fin 4), s.Works →
    let x := s.loopAt l
    ∀ a sequence v, x.exchange = .sendingVerdict a sequence v → x.mode = .training → ∀ p, x.positions.getLast? = some p →
      (x.cursor ≠ p.address → exec (.verdictSent l) s = .next
        { s with loops := s.loops.setIfInBounds l { x with exchange := x.pollNext } }) ∧
      (x.cursor = p.address → exec (.verdictSent l) s = .next (s.loopMoved l { x with
          mode := .up, exchange := (x.positions.head?.map fun q => Exchange.sendingPoll q.address).getD .idle }
        [.loopEvent l .training .up .trained (s.time.day * 86400 + s.time.second)
          ((x.positions.filter (·.present)).map (·.address))]))) ∧
  ∀ (s : State) (l : Fin 4),
    let x := s.loopAt l
    let framed := fun (n address kind sequence : Nat) (payload : List Byte) =>
      let bytes : List Byte := [BitVec.ofNat 8 address, BitVec.ofNat 8 kind, BitVec.ofNat 8 sequence, BitVec.ofNat 8 payload.length] ++ payload
      lineOf x.config.coding (List.replicate n 0x55 ++ 0xE7 :: (bytes ++ loopCheck x.config.check bytes))
    let sends : Bool := match x.exchange with
      | .sendingWake | .sendingPoll _ | .sendingVerdict _ _ _ => true
      | .idle | .awaiting _ | .quiet | .offering _ | .testing _ _ => false
    (s.driver l = true ↔ s.Works ∧ sends = true) ∧
    (s.LoopsInOrder → x.mode = .off ∨ x.mode = .testing → s.driver l = false) ∧
    (s.driver l = false → s.loopLine l = []) ∧
    (s.Works →
      (x.exchange = .sendingWake → s.loopLine l = framed x.config.nsync 0 0x01 0 []) ∧
      (∀ a, x.exchange = .sendingPoll a → s.loopLine l = framed x.config.npre a 0x02 0 []) ∧
      ∀ a sequence v, x.exchange = .sendingVerdict a sequence v →
        s.loopLine l = framed x.config.npre a 0x03 sequence [BitVec.ofNat 8 sequence, BitVec.ofNat 8 (Layout.verdictCode v.code),
          BitVec.ofNat 8 v.display, if v.seeOffice then 1 else 0])

/-- An answer that is not valid, in TRAINING, UP and LOST (R60, R62, R65, R68, R70, R71): the polled position's silence run rises and it
becomes ABSENT at Nmiss, with its READER_EVENT. A silent answer raises the dead-poll run, and at Dlos the loop in UP becomes LOST; a
corrupted one, complete or aborted, sets it to 0; in LOST each sets the valid-answer run to 0. The exchange is then complete: the next
address is polled, and a roll call that has reached the highest address ends in UP; each change of state queues its LOOP_EVENT (R64).
After an aborted frame, with the latches it set (R56, R58), quiet is awaited first. Each change, of a position's presence and then of the
loop's state, is taken by every gate bound to the loop (R69, R109, R110), and its own report comes before the CLEARED reports of those gates
(model's choice, log 15). -/
def Obligations.UnheardAnswersMoveThePositionAndTheMonitor : Prop :=
  ∀ (s : State) (l : Fin 4), s.Works →
    let x := s.loopAt l
    ∀ a, x.exchange = .awaiting a → x.mode ≠ .off → x.mode ≠ .testing →
    let now := s.time.day * 86400 + s.time.second
    let settled := fun (silent : Bool) (r : LoopState) => ({ r with
      positions := r.positions.map fun p => if p.address = a then p.unheard r.config.nmiss else p
      deadRun := if silent then min 64 (r.deadRun + 1) else 0
      validRun := if r.mode = .lost then 0 else r.validRun } : LoopState)
    let heard := fun (y : LoopState) =>
      if x.presentAt a = true ∧ y.presentAt a = false then s.loopMoved l y [.readerEvent l a .absent 0 now] else s
    exec (.responseWindowExpired l) s = .next ((heard (settled true x)).exchangeEnded l ((settled true x).afterExchange .silent)) ∧
    ∀ line : List Bool,
      let r := Receiver.receive x.config.answer line
      let y := settled false { x with miss1 := x.miss1 || r.miss1, miss2 := x.miss2 || r.miss2 }
      let e := y.afterExchange .corrupted
      (r.result = .aborted → exec (.loopFrameAborted l line) s = .next
        ((heard y).exchangeEnded l ({ e.1 with exchange := .quiet }, e.2))) ∧
      (r.result = .huntBound → exec (.huntBoundExpired l line) s = .next
        ((heard y).exchangeEnded l ({ e.1 with exchange := .quiet }, e.2))) ∧
      (∀ bytes, r.result = .complete bytes → classify x.config.check a bytes = .corrupted →
        exec (.loopAnswerReceived l line) s = .next ((heard y).exchangeEnded l e))

/-- R55 to R59: what the line of a frame carries, the receiver recovers: a frame built with either coding and either check, with a
preamble of at least two bytes that the hunt bound admits, completes with the bytes from its address to its check, no latch set.
-/
def Obligations.LoopLineRoundTrip : Prop :=
  ∀ (c : LoopConfig) (n address kind sequence : Nat) (payload : List Byte) (quiet : Nat),
    2 ≤ n → n < c.npre + 3 → payload.length ≤ 16 → quiet < c.window * 16 →
    let bytes := covered address kind sequence payload
    let r := Receiver.receive c.answer (List.replicate quiet false ++ lineOf c.coding (frameBytes n c.check bytes))
    r.result = .complete (bytes ++ loopCheck c.check bytes) ∧ r.miss1 = false ∧ r.miss2 = false

/-- R60, Table 4.4: a reader's own frames are classed by their kind, under either check; a complete frame that fails its check, or has
another address, another kind or not its kind's payload length, is corrupted. A valid answer in TRAINING, UP and LOST (R60,
R62, R65 to R68, R70, R71): the position becomes PRESENT, with its READER_EVENT but in TRAINING, the dead-poll run 0, and in LOST the
valid-answer run rises; an IDLE or a FAULT, the latter with its READER_EVENT, and in LOST a PUNCH too, completes the exchange, which
at Clos takes a LOST loop to TRAINING with a LOOP_EVENT of cause REGAINED; a PUNCH of the recorded sequence is answered from the
duplicate record, and any other is offered with the time of its receipt. Each change, of the position's presence and then of the loop's
state, is taken by every gate bound to the loop (R69, R109, R110), and its own report comes before the CLEARED reports of those gates (model's
choice, log 15). -/
def Obligations.ValidAnswersAreActedOnByTheirKind : Prop :=
  (∀ (check : CheckKind) (address sequence badge code : Nat), 1 ≤ address → address ≤ 8 → sequence ≤ 255 → badge ≤ 16777215 → code ≤ 255 →
    let framed := fun (bytes : List Byte) => bytes ++ loopCheck check bytes
    classify check address (framed (covered address 0x11 sequence [])) = .idle ∧
    classify check address (framed (covered address 0x12 sequence (Layout.num 3 badge))) = .punch sequence badge ∧
    classify check address (framed (covered address 0x13 sequence (Layout.num 1 code))) = .fault code ∧
    ∀ other, other ≤ 255 → other ≠ address →
      classify check other (framed (covered address 0x12 sequence (Layout.num 3 badge))) = .corrupted) ∧
  (∀ (check : CheckKind) (polled : Nat) (address kind sequence length : Byte) (payload tail : List Byte),
    tail.length = check.bytes →
    let bytes := address :: kind :: sequence :: length :: payload
    classify check polled (bytes ++ tail) =
      if tail ≠ loopCheck check bytes ∨ address.toNat ≠ polled then .corrupted
      else if kind = 0x11 ∧ payload.length = 0 then .idle
      else if kind = 0x12 ∧ payload.length = 3 then .punch sequence.toNat (payload.foldl (fun v b => v * 256 + b.toNat) 0)
      else if kind = 0x13 ∧ payload.length = 1 then .fault (payload.foldl (fun v b => v * 256 + b.toNat) 0)
      else .corrupted) ∧
  (∀ (s : State) (l : Fin 4) (line : List Bool), s.Works →
    let x := s.loopAt l
    let r := Receiver.receive x.config.answer line
    ∀ a, x.exchange = .awaiting a → x.mode ≠ .off → x.mode ≠ .testing → ∀ bytes, r.result = .complete bytes →
      (classify x.config.check a bytes).valid = true →
      let now := s.time.day * 86400 + s.time.second
      let answer := classify x.config.check a bytes
      let settled : LoopState := { x with
        miss1 := x.miss1 || r.miss1, miss2 := x.miss2 || r.miss2, deadRun := 0
        validRun := if x.mode = .lost then min 32 (x.validRun + 1) else x.validRun
        positions := x.positions.map fun p => if p.address = a then p.heard else p }
      let e : LoopState × Option LoopCause := match answer with
        | .punch sequence badge =>
          if x.mode = .lost then settled.afterExchange answer
          else
            let new := { settled with exchange := .offering ⟨l, a, sequence, badge, now⟩ }
            (match (x.positions.find? fun p => p.address == a).bind (·.duplicate) with
              | some d => if d.sequence = sequence then { settled with exchange := .sendingVerdict a sequence d.verdict } else new
              | none => new, none)
        | _ => settled.afterExchange answer
      let heard :=
        if x.presentAt a = false ∧ settled.presentAt a = true then
          s.loopMoved l settled (if x.mode = .training then [] else [.readerEvent l a .present 0 now])
        else s
      let told : State := match answer with
        | .fault code => { heard with link := heard.link.queue (.readerEvent l a .fault code now) }
        | _ => heard
      exec (.loopAnswerReceived l line) s = .next (told.exchangeEnded l e))

/-- R75: each TEST frame is settled by what the receiver makes of the line it listens to from the frame's first cell: good where the bytes
sent come back, check-failed where a complete frame differs, aborted otherwise; its count rises, its latches are set, and the next frame
follows, or, after the last, LOOP_TEST_DONE is queued and the loop is OFF with a LOOP_EVENT of cause TEST_END. R74, R56, R58: a frame of
other bytes whose length byte stands is complete; one cut short after its start byte aborts with both latches set; a length above 16
aborts with none; and where no start byte has been found by the end of the last sent cell, nothing that follows completes. A line given
shorter than the frame is quiet for the rest (model's choice, log 11). Every gate bound to the loop takes its standing at the end of the
test (R69, R109), and the loop's reports come before its gates' (model's choice, log 15). -/
def Obligations.TestFramesAreSettledByWhatReturns : Prop :=
  (∀ (s : State) (l : Fin 4) (line : List Bool), s.Works →
    let x := s.loopAt l
    ∀ k n, x.exchange = .testing k n →
    let r := receiveTest x.config.loopback x.loopbackLine.length line
    let sent := testCovered n ++ loopCheck x.config.check (testCovered n)
    let good : Bool := r.result == .complete sent
    let failed : Bool := !good && match r.result with
      | .complete _ => true
      | _ => false
    let y : LoopState := { x with
      miss1 := x.miss1 || r.miss1, miss2 := x.miss2 || r.miss2
      good := x.good + if good then 1 else 0
      checkFailed := x.checkFailed + if failed then 1 else 0
      aborted := x.aborted + if good || failed then 0 else 1 }
    (n < k → exec (.testFrameSettled l line) s = .next
      { s with loops := s.loops.setIfInBounds l { y with exchange := .testing k (n + 1) } }) ∧
    (k ≤ n → exec (.testFrameSettled l line) s = .next (s.loopMoved l { y with mode := .off, tracker := .search, exchange := .idle }
      [.loopTestDone l k y.good y.checkFailed y.aborted,
        .loopEvent l x.mode .off .testEnd (s.time.day * 86400 + s.time.second) ((x.positions.filter (·.present)).map (·.address))]))) ∧
  ∀ (c : LoopConfig) (n : Nat), 2 ≤ c.npre → 1 ≤ n → n ≤ 255 →
    let number := BitVec.ofNat 8 n
    let bytes : List Byte := [0xFF, 0x04, number, 0x08, number, 0x00, 0xFF, 0x55, 0xAA, 0xE7, 0x18, 0xC3]
    let preamble : List Byte := List.replicate c.npre 0x55
    let frame := preamble ++ 0xE7 :: (bytes ++ loopCheck c.check bytes)
    let sent := lineOf c.coding frame
    let receive := receiveTest c.loopback sent.length
    testCovered n = bytes ∧ testFrame c n = frame ∧
    (∀ got : List Byte, got.length = 12 + c.check.bytes → got[3]? = some 0x08 →
      let r := receive (lineOf c.coding (preamble ++ 0xE7 :: got))
      r.result = .complete got ∧ r.miss1 = false ∧ r.miss2 = false) ∧
    (∀ m, c.npre < m → m < frame.length →
      let r := receive (lineOf c.coding (frame.take m))
      r.result = .aborted ∧ r.miss1 = true ∧ r.miss2 = true) ∧
    (∀ (address kind sequence length : Byte) (rest : List Byte), 16 < length.toNat →
      let r := receive (lineOf c.coding (preamble ++ 0xE7 :: address :: kind :: sequence :: length :: rest))
      r.result = .aborted ∧ r.miss1 = false ∧ r.miss2 = false) ∧
    (∀ cells rest : List Bool, cells.length = sent.length → (Receiver.receive c.loopback cells).inFrame = false →
      ∀ got, (receive (cells ++ rest)).result ≠ .complete got) ∧
    ∀ (quiet : Nat) (rest : List Bool), sent.length ≤ quiet →
      let r := receive (List.replicate quiet false ++ rest)
      r.result = .aborted ∧ r.miss1 = false ∧ r.miss2 = false

/-! ## Section 5: Punch Processing -/

/-- R79, R80, R66: with no punch in hand, the offer of the first loop after the last one served is taken, decided at once, and its
verdict recorded for its position and begun on its loop. With no offer nothing happens (model's choice, log 3). -/
def Obligations.TakenPunchIsDecidedAndReturned : Prop :=
  ∀ s : State, s.Works → s.punch.hand = none →
    let order := fun (j : Nat) => (s.punch.lastLoop + 1 + j) % 4
    let offers := fun (j : Nat) => match (s.loopAt (order j)).exchange with
      | .offering _ => true
      | _ => false
    ((∀ j : Fin 4, offers j = false) → exec .punchTaken s = .next s) ∧
    ∀ j : Fin 4, (∀ i : Fin 4, i.val < j.val → offers i = false) →
      let l := order j
      ∀ o, (s.loopAt l).exchange = .offering o →
      ∀ b, (s.loopAt l).positions.find? (fun p => p.address == o.address) = some b →
      let d := decidePunch b.gate ⟨o.badge, b.direction, o.second, l, o.address⟩ { s with punch := ⟨some o, l⟩ }
      d.state.loops = s.loops ∧
      exec .punchTaken s = .next { d.state with
        punch := ⟨none, l⟩
        loops := s.loops.setIfInBounds l { s.loopAt l with
          exchange := .sendingVerdict o.address o.sequence d.verdict
          positions := (s.loopAt l).positions.map fun p =>
            if p.address = o.address then { p with duplicate := some ⟨o.sequence, d.verdict⟩ } else p } }

/-- R82 to R88, Table 5.1: the verdict and display code that the checks give in their order; a WAIT changes nothing; and a verdict
that makes no commit shows SEE_OFFICE by the pending set as it stands (R81). R89: a refusal changes nothing but the journal, which
takes its entry directly while held plus reserved is below 1,984, and the report queue, where that write reaches the entry limit
(R122). -/
def Obligations.ChecksGiveTheVerdictInOrder : Prop :=
  (∀ (s : State) (g : Fin 16) (p : Passage),
    let d := decidePunch g p s
    let x := s.gateAt g
    let m := p.second / 60
    let sum := s.journal.entries.length + s.journal.reserved
    (s.workers.find? (fun w => w.badge == p.badge) = none → d.verdict = ⟨.denied .unknownBadge, 16, false⟩) ∧
    ∀ w, s.workers.find? (fun w => w.badge == p.badge) = some w →
      let see := decide (w.pendingSet ≠ AnomalySet.empty)
      let servesHost : Bool := match x.config.kind with
        | .turnstile => x.arming.any fun a => a.cause == .host
        | .hinged => x.hinged == .released .host
      let busy := x.passage.isSome || servesHost || s.heldByPartner g || w.pendingGate.isSome
      let window : Bool :=
        (match w.attendance with
          | some a => match a.kind with
            | .scheduled _ stop => m < stop
            | .unscheduled => true
          | none => false) || (s.calendar.matchEntry w.crew m).isSome
      (s.time.validity = .unset → p.direction = .inward → d.verdict = ⟨.denied .clockUnset, 17, see⟩) ∧
      (s.time.validity = .unset → p.direction = .outward → d.verdict = ⟨.releaseUntimed, 6, see⟩) ∧
      (s.time.validity = .set → s.fire = true → p.direction = .inward → d.verdict = ⟨.denied .evacuation, 18, see⟩) ∧
      (s.time.validity = .set → s.fire = true → p.direction = .outward →
        d.verdict.code = .accept ∧ d.verdict.display = if sum < 2048 then 4 else 5) ∧
      (s.time.validity = .set → s.fire = false → busy = true → d = ⟨s, ⟨.wait, 7, see⟩⟩) ∧
      (s.time.validity = .set → s.fire = false → busy = false → p.direction = .outward →
        d.verdict.code = .accept ∧ d.verdict.display = if sum < 2048 then 3 else 5) ∧
      (s.time.validity = .set → s.fire = false → busy = false → p.direction = .inward →
        if x.mode = .lockdown then d.verdict = ⟨.denied .gateLockdown, 19, see⟩
        else if w.status = .suspended then d.verdict = ⟨.denied .suspended, 20, see⟩
        else if ∃ last ∈ w.validUntil, last < p.second / 86400 then d.verdict = ⟨.denied .expired, 21, see⟩
        else if w.gateMask.getLsbD g = false then d.verdict = ⟨.denied .gateDenied, 22, see⟩
        else if window = false ∧ w.anytime = false ∧ w.unschedAuth = false then
          d.verdict = ⟨.denied .outOfWindow, 23, see⟩
        else if w.presence = .inside ∧ x.config.passback = .hard then d.verdict = ⟨.denied .passback, 24, see⟩
        else if 1984 ≤ sum then d.verdict = ⟨.denied .journalFull, 25, see⟩
        else d.verdict.code = .accept ∧ d.verdict.display = if window then 1 else 2)) ∧
  (∀ (s : State) (g : Fin 16) (p : Passage), ∀ reason, (decidePunch g p s).verdict.code = .denied reason →
    let t := (decidePunch g p s).state
    let sum := s.journal.entries.length + s.journal.reserved
    (1984 ≤ sum → t = s) ∧
    (sum < 1984 → t = { s with
      journal := { s.journal with
        entries := s.journal.entries ++
          [⟨s.journal.nextNumber, p.second, p.badge, p.loop, p.address, g, p.direction, .refused reason, AnomalySet.empty, false⟩]
        nextNumber := (s.journal.nextNumber + 1) % 65536 }
      link := if sum = 1983 then
          s.link.queue (.journalLimit .entryLimit (s.journal.entries.length + 1) s.journal.reserved
            (s.time.day * 86400 + s.time.second))
        else s.link }))

/-- R88, first case: an accepted punch at a turnstile whose standing lacks its direction reserves one journal slot, arms the gate,
is held there as its pending passage, and names the gate in its worker's record; no entry is written yet. R122: the claim that
brings the sum of the counts to a limit queues its JOURNAL_LIMIT. R88, R107: at a
turnstile whose standing holds its direction, and at a hinged gate, it is committed at once with its entry, and a hinged gate takes a
release of cause PUNCH. R87, R104: an exit that finds no room in the ring is committed with no entry, and an untracked release is asked
of its gate. R83: an exit under fire is committed at once, with an entry FIRE_EXIT where the ring has room. R82: RELEASE_UNTIMED sets
presence OUT with the changed mark, and an untracked release is asked of the gate. R81: SEE_OFFICE of a commit is read after what the
commit raises. What a commit does is CommitWritesItsEntry's. -/
def Obligations.AcceptedPunchesActAtTheGate : Prop :=
  (∀ (s : State) (g : Fin 16) (p : Passage), s.WorkersOrdered → (decidePunch g p s).verdict.code = .accept →
    s.time.validity = .set → s.fire = false → (s.gateAt g).config.kind = .turnstile →
    (s.standing g).holds p.direction = false → s.journal.entries.length + s.journal.reserved < 2048 →
    let sum := s.journal.entries.length + s.journal.reserved
    let now := s.time.day * 86400 + s.time.second
    (decidePunch g p s).state = { s with
      journal := { s.journal with reserved := s.journal.reserved + 1 }
      workers := s.workers.map fun w => if w.badge = p.badge then { w with pendingGate := some g.val } else w
      gates := s.gates.set g { s.gates[g] with
        arming := some ⟨p.direction, .punch⟩, releaseTimer := some s.gates[g].config.release, passage := some p }
      link :=
        if sum = 1983 then s.link.queue (.journalLimit .entryLimit s.journal.entries.length (s.journal.reserved + 1) now)
        else if sum = 2047 then s.link.queue (.journalLimit .full s.journal.entries.length (s.journal.reserved + 1) now)
        else s.link }) ∧
  ∀ (s : State) (g : Fin 16) (p : Passage), ∀ w, s.workers.find? (fun w => w.badge == p.badge) = some w →
    let d := decidePunch g p s
    let sum := s.journal.entries.length + s.journal.reserved
    let now := s.time.day * 86400 + s.time.second
    let claimed : State := { s with
      journal := { s.journal with reserved := s.journal.reserved + 1 }
      link :=
        if sum = 1983 then s.link.queue (.journalLimit .entryLimit s.journal.entries.length (s.journal.reserved + 1) now)
        else if sum = 2047 then s.link.queue (.journalLimit .full s.journal.entries.length (s.journal.reserved + 1) now)
        else s.link }
    let released := fun (cause : ReleaseCause) (x : Gate) => match x.hinged with
      | .locked | .released _ => { x with hinged := .released cause, releaseTimer := some x.config.release }
      | .opened => { x with heldTimer := some x.config.heldOpen }
      | .held | .forced | .free => x
    let untracked := fun (t : State) => { t with gates := t.gates.set g (
      let x := t.gates[g]
      match x.config.kind with
      | .hinged => released .untracked x
      | .turnstile =>
        if (t.standing g).holds .outward = true ∨
            (∃ a ∈ x.arming, a.cause = .punch ∨ (a.direction = .outward ∧ a.cause = .host)) then x
        else { x with arming := some ⟨.outward, .untracked⟩, releaseTimer := some x.config.release }) }
    let sees := fun (unrecorded : Bool) => decide ((commitWork g p unrecorded ⟨s, w⟩).worker.pendingSet ≠ AnomalySet.empty)
    (s.time.validity = .set → s.fire = false → d.verdict.code = .accept → sum < 2048 →
      let t := commitPunch g p (some .passed) false w claimed
      ((s.gateAt g).config.kind = .turnstile → (s.standing g).holds p.direction = true →
        d.state = t ∧ d.verdict.seeOffice = sees false) ∧
      ((s.gateAt g).config.kind = .turnstile → (s.standing g).holds p.direction = false →
        d.verdict.seeOffice = decide (w.pendingSet ≠ AnomalySet.empty)) ∧
      ((s.gateAt g).config.kind = .hinged →
        d.state = { t with gates := t.gates.set g (released .punch s.gates[g]) } ∧ d.verdict.seeOffice = sees false)) ∧
    (s.time.validity = .set → s.fire = false → d.verdict.code = .accept → 2048 ≤ sum →
      d.state = untracked (commitPunch g p none false w s) ∧ d.verdict.seeOffice = sees true) ∧
    (s.time.validity = .set → s.fire = true → p.direction = .outward →
      d.state = (if sum < 2048 then commitPunch g p (some .fireExit) false w claimed else commitPunch g p none false w s) ∧
      d.verdict.seeOffice = sees (decide (2048 ≤ sum))) ∧
    (s.time.validity = .unset → p.direction = .outward →
      d.state = untracked { s with workers := s.workers.map fun x =>
        if x.badge = w.badge then { w with presence := .outside, changed := true } else x })

/-- R90: what the commit of an entry at minute m does to the record and the part, case by case; presence becomes IN. Case 3 closes an open
last segment at E, or at its in minute where that lies past E, with MISSED_OUT, finalizes the attendance with that segment, and goes on as
for a record with none. SOFT_PASSBACK is raised where presence was IN at a gate of mode SOFT, on the attendance that the commit leaves
open. -/
def Obligations.EntryCommitActsByCase : Prop :=
  ∀ (s : State) (w : WorkerRecord) (m : Nat) (soft : Bool),
    let y := commitEntry m soft ⟨s, w⟩
    let noted := fun (owner : Option BankTag) (x : WorkerRecord) =>
      if soft = true ∧ w.presence = .inside then x.raised owner fun a => { a with softPassback := true } else x
    y.worker.presence = .inside ∧ y.worker.badge = w.badge ∧ y.worker.pendingGate = w.pendingGate ∧
    (w.attendance = none → ∀ win, s.calendar.matchEntry w.crew m = some win →
      y = ⟨{ s with calendar := { s.calendar with
            openRefs := s.calendar.openRefs.setIfInBounds (win.code - 1) (s.calendar.openRefs.getD (win.code - 1) 0 + 1) } },
          noted (some .current) { w with
            presence := .inside
            attendance := some ⟨.scheduled win.code win.stop, win.start, .current, w.crew, [⟨m, none⟩]⟩ }⟩) ∧
    (w.attendance = none → s.calendar.matchEntry w.crew m = none →
      y = ⟨s, if w.unschedAuth then noted (some .current) { w with
            presence := .inside, attendance := some ⟨.unscheduled, m, .current, w.crew, [⟨m, none⟩]⟩ }
        else noted none (({ w with presence := .inside } : WorkerRecord).raised none fun a => { a with unscheduled := true })⟩) ∧
    (∀ a, w.attendance = some a → ∀ code stop, a.kind = .scheduled code stop → m < stop → w.presence = .outside →
      (a.segments.length < 4 →
        y = ⟨s, { w with presence := .inside, attendance := some { a with segments := a.segments ++ [⟨m, none⟩] } }⟩) ∧
      (4 ≤ a.segments.length → ∀ g, a.segments.getLast? = some g →
        y = ⟨s, ({ w with
          presence := .inside
          attendance := some { a with segments := a.segments.dropLast ++ [{ g with outMinute := none }] } } : WorkerRecord).raised
            (some a.tag) fun x => { x with segmentLimit := true }⟩)) ∧
    (∀ a, w.attendance = some a → w.presence = .inside →
      (match a.kind with
        | .scheduled _ stop => decide (m < stop)
        | .unscheduled => true) = true → y = ⟨s, noted (some a.tag) w⟩) ∧
    (∀ a, w.attendance = some a → ∀ code stop, a.kind = .scheduled code stop → stop ≤ m → ∀ g, a.segments.getLast? = some g →
      y = commitEntry m soft ⟨s.finalized a,
        if g.outMinute = none then (w.raised (some a.tag) fun x => { x with missedOut := true }).finalized s.calendar
          (a.closed g (a.unseenOut g.inMinute))
        else w.finalized s.calendar a⟩)

/-- R91: what the commit of an exit at minute m does to the record and the part, case by case; presence becomes OUT. An open last segment
is closed at m; at or after E less the leave grace of the attendance's code, and for an UNSCHEDULED attendance, the attendance with that
segment is finalized, its tally credited to the bank its tag names (R39, R126). UNRECORDED_EXIT of an unrecorded exit (R87) belongs to the
attendance whose segment the commit closed, and to none where it closed none. -/
def Obligations.ExitCommitActsByCase : Prop :=
  ∀ (s : State) (w : WorkerRecord) (m : Nat) (unrecorded : Bool),
    let y := commitExit m unrecorded ⟨s, w⟩
    let noted := fun (owner : Option BankTag) (x : WorkerRecord) =>
      if unrecorded then x.raised owner fun a => { a with unrecordedExit := true } else x
    let orphaned := ({ w with presence := .outside } : WorkerRecord).raised none fun a => { a with orphanOut := true }
    y.worker.presence = .outside ∧ y.worker.badge = w.badge ∧ y.worker.pendingGate = w.pendingGate ∧
    (w.attendance = none →
      y = ⟨s, noted none (if w.presence = .outside then orphaned else { w with presence := .outside })⟩) ∧
    (∀ a, w.attendance = some a → ∀ g, a.segments.getLast? = some g →
      let left := noted (some a.tag) { w with presence := .outside }
      (g.outMinute.isSome = true → y = ⟨s, noted none orphaned⟩) ∧
      (g.outMinute = none →
        (∀ code stop, a.kind = .scheduled code stop → ∀ d ∈ s.calendar.shiftOf code,
          (m + d.leaveGrace < stop → y = ⟨s, { left with attendance := some (a.closed g m) }⟩) ∧
          (stop ≤ m + d.leaveGrace → y = ⟨s.finalized a, left.finalized s.calendar (a.closed g m)⟩)) ∧
        (a.kind = .unscheduled → y = ⟨s.finalized a, left.finalized s.calendar (a.closed g m)⟩)))

/-- R80, R90, R91: a commit in direction IN does what the commit of an entry does, under the passback mode of its gate, and one in direction
OUT what the commit of an exit does, each at the minute of the punch's second. R92: the end of a commit: the last punch, the journal entry in
the reserved slot with the pending set delivered whole, the set emptied, the pending gate cleared for a pending passage, the changed mark;
the gates, loops, bells, clock and link are untouched. R87, R91: the commit of an unrecorded exit does the same and leaves the journal as it
is. -/
def Obligations.CommitWritesItsEntry : Prop :=
  (∀ (s : State) (g : Fin 16) (p : Passage) (unrecorded : Bool) (w : WorkerRecord),
    commitWork g p unrecorded ⟨s, w⟩ = match p.direction with
      | .inward => commitEntry (p.second / 60) (s.gates[g].config.passback == .soft) ⟨s, w⟩
      | .outward => commitExit (p.second / 60) unrecorded ⟨s, w⟩) ∧
  (∀ (s : State) (g : Fin 16) (p : Passage) (outcome : JournalOutcome) (ofPassage : Bool) (w : WorkerRecord),
    let y := commitWork g p false ⟨s, w⟩
    commitPunch g p (some outcome) ofPassage w s = { s with
      journal := {
        entries := s.journal.entries ++ [⟨s.journal.nextNumber, p.second, p.badge, p.loop, p.address, g, p.direction, outcome,
          y.worker.pendingSet, false⟩]
        reserved := s.journal.reserved - 1
        nextNumber := (s.journal.nextNumber + 1) % 65536 }
      workers := s.workers.map fun x => if x.badge = w.badge then { y.worker with
        lastPunch := some ⟨p.second, g⟩, pendingSet := AnomalySet.empty, changed := true
        pendingGate := if ofPassage then none else w.pendingGate } else x
      calendar := { s.calendar with openRefs := y.state.calendar.openRefs }
      period := { s.period with counter := y.state.period.counter } }) ∧
  ∀ (s : State) (g : Fin 16) (p : Passage) (ofPassage : Bool) (w : WorkerRecord),
    let y := commitWork g p true ⟨s, w⟩
    commitPunch g p none ofPassage w s = { s with
      workers := s.workers.map fun x => if x.badge = w.badge then { y.worker with
        lastPunch := some ⟨p.second, g⟩, pendingSet := AnomalySet.empty, changed := true
        pendingGate := if ofPassage then none else w.pendingGate } else x
      calendar := { s.calendar with openRefs := y.state.calendar.openRefs }
      period := { s.period with counter := y.state.period.counter } }

/-! ## Section 6: Gates, Release and Evacuation -/

/-- GATE_CONFIG (R96): its checks in their order; otherwise every field replaced and the partnerships kept symmetric; the control mode and
every other gate's state stay. With its kind unchanged the gate keeps its arming, timers, state and inputs, but for what its standing
then asks (R98, R109). A change of kind ends the arming and stops the timers, takes the inputs at their levels (R97), enters IDLE or a
hinged gate at rest by its contact, and then applies the standing. A hinged gate that so leaves HELD or FORCED queues its CLEARED report
(R110). -/
def Obligations.GateConfigKeepsPartnershipsSymmetric : Prop :=
  ∀ (s : State) (tag gate : Nat) (f : GateFields) (in0 in1 : Bool), s.Ready →
    (15 < gate ∨ 1 < f.kind ∨ f.release < 1 ∨ 30 < f.release ∨ f.heldOpen < 5 ∨ 300 < f.heldOpen ∨ 2 < f.passback ∨
        2 < f.policy ∨ (∃ p ∈ f.partner, 15 < p ∨ p = gate) →
      exec (.gateConfig tag gate f in0 in1) s = .next (s.answered 0x40 tag .badValue .nothing)) ∧
    (gate ≤ 15 → f.kind ≤ 1 → 1 ≤ f.release → f.release ≤ 30 → 5 ≤ f.heldOpen → f.heldOpen ≤ 300 → f.passback ≤ 2 →
      f.policy ≤ 2 → (∀ p ∈ f.partner, p ≤ 15 ∧ p ≠ gate) →
      ((s.gateAt gate).passage.isSome = true →
        exec (.gateConfig tag gate f in0 in1) s = .next (s.answered 0x40 tag .inUse .nothing)) ∧
      ((s.gateAt gate).passage = none → ∃ t, exec (.gateConfig tag gate f in0 in1) s = .next t ∧
        let x := s.gateAt gate
        let y := t.gateAt gate
        let taken : Gate := { x with
          config := y.config, arming := none, passage := none, releaseTimer := none, heldTimer := none, contactOpen := in0
          pulse0 := in0, pulse1 := in1, hinged := .locked }
        let entered : Gate :=
          if y.config.kind = x.config.kind then { x with config := y.config }
          else if y.config.kind = .hinged ∧ in0 = true then { taken with hinged := .opened, heldTimer := some f.heldOpen }
          else taken
        t = State.answered { s with
          gates := t.gates, link := s.link.alarmEnded gate x y (s.time.day * 86400 + s.time.second) } 0x40 tag .ok .nothing ∧
        y = entered.under (t.standing gate) ∧
        Layout.gateKind y.config.kind = f.kind ∧ y.config.release = f.release ∧ y.config.heldOpen = f.heldOpen ∧
        Layout.passbackMode y.config.passback = f.passback ∧ Layout.cutOffPolicy y.config.policy = f.policy ∧
        y.config.partner = f.partner ∧
        ∀ i : Fin 16, i.val ≠ gate → t.gates[i] = { s.gates[i] with config := { s.gates[i].config with
          partner :=
            if f.partner = some i.val then some gate
            else if s.gates[i].config.partner = some gate ∨ (f.partner.isSome = true ∧ s.gates[i].config.partner = f.partner) then none
            else s.gates[i].config.partner } }))

/-- GATE_COMMAND NORMAL, FREE and LOCKDOWN (R100): refused out of range; an order for the mode held changes nothing; otherwise the mode is
set and the standing recomputed and applied at that gate (R109): a hinged gate enters FREE with its timers stopped, or leaves it to OPEN or
LOCKED by its contact, and else stays as it is, and one that leaves HELD or FORCED queues its CLEARED report (R110); nothing else changes.
LOCKDOWN leaves a pending exit and voids a pending entry of a turnstile: the gate is disarmed, the entry is written VOIDED, and the record
names no pending gate (R93, R94). GATE_COMMAND RELEASE (R101): its checks in their order; otherwise a turnstile is armed with cause HOST in
the direction, and a hinged gate is released with cause HOST, each with its release timer started, and nothing else changes. What holds a
gate back for its partner is StandingIsTheFirstThatApplies's (log 20). -/
def Obligations.GateOrdersFollowTheirChecks : Prop :=
  (∀ (s : State) (tag gate : Nat), s.Ready →
    let x := s.gateAt gate
    let now := s.time.day * 86400 + s.time.second
    let order := fun (c : Instr) (m : ControlMode) =>
      (15 < gate → exec c s = .next (s.answered 0x41 tag .badValue .nothing)) ∧
      (gate ≤ 15 → x.mode = m → exec c s = .next (s.answered 0x41 tag .ok .nothing)) ∧
      (gate ≤ 15 → x.mode ≠ m → m ≠ .lockdown ∨ (∀ p ∈ x.passage, p.direction = .outward) →
        let set : State := { s with gates := s.gates.setIfInBounds gate { x with mode := m } }
        let y := ({ x with mode := m } : Gate).under (set.standing gate)
        exec c s = .next (State.answered { s with
          gates := s.gates.setIfInBounds gate y, link := s.link.alarmEnded gate x y now } 0x41 tag .ok .nothing))
    order (.gateCommandNormal tag gate) .normal ∧ order (.gateCommandFree tag gate) .free ∧
    order (.gateCommandLockdown tag gate) .lockdown ∧
    (gate ≤ 15 → x.mode ≠ .lockdown → x.config.kind = .turnstile → ∀ p, x.passage = some p → p.direction = .inward →
      s.WorkersOrdered → exec (.gateCommandLockdown tag gate) s = .next (State.answered { s with
        gates := s.gates.setIfInBounds gate { x with mode := .lockdown, arming := none, releaseTimer := none, passage := none }
        journal := {
          entries := s.journal.entries ++ [⟨s.journal.nextNumber, p.second, p.badge, p.loop, p.address, gate, p.direction, .voided,
            AnomalySet.empty, false⟩]
          reserved := s.journal.reserved - 1
          nextNumber := (s.journal.nextNumber + 1) % 65536 }
        workers := s.workers.map fun w => if w.badge = p.badge then { w with pendingGate := none } else w } 0x41 tag .ok .nothing))) ∧
  (∀ (s : State) (tag gate dir : Nat), s.Ready →
    let x := s.gateAt gate
    let d : Direction := if dir = 0 then .inward else .outward
    exec (.gateCommandRelease tag gate dir) s = .next (
      if 15 < gate ∨ 1 < dir then s.answered 0x41 tag .badValue .nothing
      else if s.fire = true ∨ (x.config.kind = .turnstile ∧ (s.standing gate).holds d = true) ∨
          (x.config.kind = .hinged ∧ s.standing gate ≠ .nothing) then s.answered 0x41 tag .state .nothing
      else if s.gateBusy gate = true ∨ s.heldByPartner gate = true then s.answered 0x41 tag .busy .nothing
      else
        let y : Gate := match x.config.kind with
          | .turnstile => { x with arming := some ⟨d, .host⟩, releaseTimer := some x.config.release }
          | .hinged =>
            if x.hinged = .free then x
            else { x with hinged := .released .host, releaseTimer := some x.config.release }
        State.answered { s with gates := s.gates.setIfInBounds gate y } 0x41 tag .ok .nothing))

/-- R98, R99: the standing of a gate is the first that applies of fire, the control mode and the cut-off policy; and a gate is
busy for its partner in ARMED, RELEASED, OPEN, HELD and FORCED. R84, R99, R101: a gate is held back while its partner is busy, but in
mode FREE or under a standing that is not empty (log 20 for the turnstile cut off under EXIT_FREE, which ignores its partner). R97: the
outputs of its port: a turnstile's release of each direction it is armed in or stands in, a hinged gate's strike in RELEASED and FREE,
and nothing unless the part works. -/
def Obligations.StandingIsTheFirstThatApplies : Prop :=
  ∀ (s : State) (g : Fin 16),
    let x := s.gates[g]
    let bound : Bool := s.loops.toList.any fun l => l.positions.any fun p => p.gate == g.val
    let reached : Bool := s.loops.toList.any fun l => l.mode == .up && l.positions.any fun p => p.gate == g.val && p.present
    s.standing g =
      (if s.fire = true ∨ x.mode = .free then .both
      else if x.mode = .normal ∧ bound = true ∧ reached = false ∧ x.config.policy = .free then .both
      else if x.mode = .normal ∧ bound = true ∧ reached = false ∧ x.config.policy = .exitFree ∧ x.config.kind = .turnstile then .outOnly
      else .nothing) ∧
    (s.gateBusy g = true ↔
      (x.config.kind = .turnstile ∧ x.arming ≠ none) ∨
      (x.config.kind = .hinged ∧ x.hinged ≠ .locked ∧ x.hinged ≠ .free)) ∧
    (s.heldByPartner g = true ↔
      (∃ p ∈ x.config.partner, s.gateBusy p = true) ∧ x.mode ≠ .free ∧ s.standing g = .nothing) ∧
    (¬ s.Works → s.gateOutputs g = ⟨false, false⟩) ∧
    (s.Works → x.config.kind = .turnstile →
      ((s.gateOutputs g).o0 = true ↔ (∃ a ∈ x.arming, a.direction = .inward) ∨ s.standing g = .both) ∧
      ((s.gateOutputs g).o1 = true ↔ (∃ a ∈ x.arming, a.direction = .outward) ∨ s.standing g ≠ .nothing)) ∧
    (s.Works → x.config.kind = .hinged →
      ((s.gateOutputs g).o0 = true ↔ x.hinged = .free ∨ x.hinged = .released .punch ∨ x.hinged = .released .host ∨
        x.hinged = .released .untracked) ∧ (s.gateOutputs g).o1 = false)

/-- Passage pulses (R105) and expiries (R106) at a turnstile: a pulse in the armed direction ends the arming and commits a pending
passage; one outside it and outside the standing raises FORCED and leaves the gate; an expiry ends the arming and voids a pending
passage. R97: an input that has not been inactive since its last pulse, or since it was taken active at its level, delivers none (log 5
for the operand that says so), and a hinged gate's inputs give none. R93: the commit of a passage is that of a punch, CommitWritesItsEntry's,
on the record of its badge. -/
def Obligations.PulsesAndExpiriesEndAnArming : Prop :=
  (∀ (s : State) (g : Fin 16) (i : ActiveInput),
    (s.gateAt g).config.kind = .hinged ∨ ¬ s.inputDelivers g i → exec (.passagePulse g i) s = .next s) ∧
  (∀ (s : State) (g : Fin 16) (p : Passage) (outcome : JournalOutcome),
    ∀ w, s.workers.find? (fun w => w.badge == p.badge) = some w →
      commitPassage g p outcome s = commitPunch g p (some outcome) true w s) ∧
  ∀ (s : State) (g : Fin 16) (i : ActiveInput), s.Works → (s.gateAt g).config.kind = .turnstile →
    let x := s.gates[g]
    let dir := i.direction
    let seen : Gate := match dir with
      | .inward => { x with pulse0 := true }
      | .outward => { x with pulse1 := true }
    (∀ a, x.arming = some a → a.direction = dir → s.inputDelivers g i →
      let ended : State := { s with gates := s.gates.set g { seen with arming := none, releaseTimer := none, passage := none } }
      (x.passage = none → exec (.passagePulse g i) s = .next ended) ∧
      (∀ p, x.passage = some p → exec (.passagePulse g i) s = .next (commitPassage g p .passed ended))) ∧
    ((∀ a ∈ x.arming, a.direction ≠ dir) → s.inputDelivers g i → exec (.passagePulse g i) s = .next (
      if (s.standing g).holds dir then { s with gates := s.gates.set g seen }
      else queueReport (.gateAlarm g .forced .raised (some dir) (s.time.day * 86400 + s.time.second))
        { s with gates := s.gates.set g seen })) ∧
    (x.arming.isSome = true → x.releaseTimer = some 0 →
      let ended : State := { s with gates := s.gates.set g { x with arming := none, releaseTimer := none, passage := none } }
      (x.passage = none → exec (.turnstileReleaseExpired g) s = .next ended) ∧
      (∀ p, x.passage = some p → s.WorkersOrdered → exec (.turnstileReleaseExpired g) s = .next { ended with
        journal := {
          entries := s.journal.entries ++ [⟨s.journal.nextNumber, p.second, p.badge, p.loop, p.address, g, p.direction, .voided,
            AnomalySet.empty, false⟩]
          reserved := s.journal.reserved - 1
          nextNumber := (s.journal.nextNumber + 1) % 65536 }
        workers := s.workers.map fun w => if w.badge = p.badge then { w with pendingGate := none } else w }))

/-- R108, R110: how a hinged gate moves as its contact opens and closes and as its timers expire, with the GATE_ALARM of each
move. -/
def Obligations.HingedGateMovesByContactAndTimers : Prop :=
  ∀ (s : State) (g : Fin 16), s.Works → (s.gateAt g).config.kind = .hinged →
    let x := s.gates[g]
    let moved := fun (y : Gate) => ({ s with gates := s.gates.set g y } : State)
    let alarm := fun (a : Alarm) (ph : AlarmPhase) (t : State) =>
      queueReport (.gateAlarm g a ph none (s.time.day * 86400 + s.time.second)) t
    (x.contactOpen = false → exec (.contactOpens g) s = .next (match x.hinged with
      | .locked => alarm .forced .raised (moved { x with contactOpen := true, hinged := .forced })
      | .released _ => moved { x with
          contactOpen := true, hinged := .opened, releaseTimer := none, heldTimer := some x.config.heldOpen }
      | _ => moved { x with contactOpen := true })) ∧
    (x.contactOpen = true → exec (.contactCloses g) s = .next (match x.hinged with
      | .opened => moved { x with contactOpen := false, hinged := .locked, heldTimer := none }
      | .held => alarm .held .cleared (moved { x with contactOpen := false, hinged := .locked })
      | .forced => alarm .forced .cleared (moved { x with contactOpen := false, hinged := .locked })
      | _ => moved { x with contactOpen := false })) ∧
    (∀ c, x.hinged = .released c → x.releaseTimer = some 0 →
      exec (.hingedReleaseExpired g) s = .next (moved { x with hinged := .locked, releaseTimer := none })) ∧
    (x.hinged = .opened → x.heldTimer = some 0 →
      exec (.heldOpenExpired g) s = .next (alarm .held .raised (moved { x with hinged := .held, heldTimer := none })))

/-- R111, R112, R159: fire TAKEN queues its FIRE_EVENT, frees every gate, stopping the timers of a hinged one and ending its alarm with a
CLEARED report (R110), resolves every pending passage, and submits evacuation in every zone of the fire mask; nothing else changes. R93: a
pending exit is committed with an entry FIRE_EXIT, as PulsesAndExpiriesEndAnArming and CommitWritesItsEntry state a commit, and a pending
entry is voided, with its entry and its record's pending gate cleared and nothing else; in ascending gate order (log 15). Fire CLEAR queues
its FIRE_EVENT, leaves each gate to its own standing (R109) and silences every zone that sounds evacuation; nothing else changes. -/
def Obligations.FireFreesTheGates : Prop :=
  ∀ s : State, s.Works →
    let now := s.time.day * 86400 + s.time.second
    let resolved : State := (List.finRange 16).foldl (fun u g =>
      match s.gates[g].config.kind, s.gates[g].passage with
      | .turnstile, some p =>
        if p.direction = .outward then commitPassage g p .fireExit u
        else { u with
          journal := {
            entries := u.journal.entries ++ [⟨u.journal.nextNumber, p.second, p.badge, p.loop, p.address, g, p.direction, .voided,
              AnomalySet.empty, false⟩]
            reserved := u.journal.reserved - 1
            nextNumber := (u.journal.nextNumber + 1) % 65536 }
          workers := u.workers.map fun w => if w.badge = p.badge then { w with pendingGate := none } else w }
      | _, _ => u) s
    (s.fire = false → s.WorkersOrdered →
      let freed : State := { resolved with
        fire := true, link := s.link.queue (.fireEvent true now), bells := s.bells.evacuate s.bells.fireMask
        gates := Vector.ofFn fun g => match s.gates[g].config.kind with
          | .turnstile => { s.gates[g] with arming := none, releaseTimer := none, passage := none }
          | .hinged => s.gates[g] }
      exec .fireTaken s = .next (freed.standingsTaken fun _ => true) ∧
      ∀ g : Fin 16, s.gates[g].config.kind = .hinged → s.gates[g].hinged ≠ .free → (freed.standingsTaken fun _ => true).gates[g] =
        { s.gates[g] with hinged := .free, releaseTimer := none, heldTimer := none }) ∧
    (s.fire = false → s.GatesStand → ∃ t, exec .fireTaken s = .next t ∧ t.passages = 0 ∧
      t.journal.entries.length = s.journal.entries.length + s.passages ∧
      t.journal.entries.take s.journal.entries.length = s.journal.entries ∧
      (t.journal.entries.drop s.journal.entries.length).map
          (fun e => (e.gate, e.badge, e.direction, e.second, e.outcome, e.restartVoid)) =
        ((List.range 16).filterMap fun g => (s.gateAt g).passage.map fun p => (g, p.badge, p.direction, p.second,
          match p.direction with
          | .inward => JournalOutcome.voided
          | .outward => JournalOutcome.fireExit, false))) ∧
    (s.fire = true →
      let cleared : State := { s with
        fire := false, link := s.link.queue (.fireEvent false now), bells := { s.bells with
          zones := Vector.ofFn fun z => if s.bells.zones[z].evacuating then ⟨none, []⟩ else s.bells.zones[z] } }
      exec .fireCleared s = .next (cleared.standingsTaken fun _ => true))

/-! ## Section 7: Punch Journal -/

/-- JOURNAL_RELEASE (R124): its checks in their order; otherwise the n oldest entries leave the list. Every reply carries the
counts and the oldest number as they then stand (log 8). -/
def Obligations.JournalReleaseDropsTheOldest : Prop :=
  ∀ (s : State) (tag n expected : Nat), s.Ready →
    let counts := fun (l : List JournalEntry) => Content.journalCounts l.length s.journal.reserved (l.head?.map (·.number))
    exec (.journalRelease tag n expected) s = .next (
      if n < 1 ∨ 2048 < n ∨ 65535 < expected ∨ s.journal.entries.length < n then
        s.answered 0x49 tag .badValue (counts s.journal.entries)
      else if ∀ e ∈ s.journal.entries.head?, e.number ≠ expected then
        s.answered 0x49 tag .notFound (counts s.journal.entries)
      else State.answered { s with journal := { s.journal with entries := s.journal.entries.drop n } } 0x49 tag .ok
        (counts (s.journal.entries.drop n)))

/-! ## Section 8: Shift Tally Arithmetic -/

/-- R128 to R133, R135: the tally of a SCHEDULED attendance whose segments are all closed, minute by minute: the regular minutes
of [Ps, Pr) outside every gap and every break, the night minutes among them, the overtime after E, the pay in hundredths, and
whether a reversed span was found. R134, R135: the tally of an UNSCHEDULED one, by its time inside. -/
def Obligations.TallyFollowsItsFormulas : Prop :=
  ∀ (c : Calendar) (grade : Fin 16) (a : Attendance), ∀ first, a.segments.head? = some first →
    ∀ last, a.segments.getLast? = some last → (∀ g ∈ a.segments, g.outMinute.isSome = true) →
    let rate := c.rates[grade]
    let out := fun (g : Segment) => g.outMinute.getD 0
    let gapPairs := a.segments.zip a.segments.tail
    let turned : Bool := a.segments.any fun g => out g < g.inMinute
    (∀ code E, a.kind = .scheduled code E → ∀ d, c.shiftOf code = some d → E = a.start + d.length →
      let S := a.start
      let o := out last
      let inGap := fun (p : Nat) => gapPairs.any fun x => out x.1 ≤ p && p < x.2.inMinute
      let inBreak := fun (p : Nat) => d.breaks.any fun b => S + b.offset ≤ p && p < S + b.offset + b.length
      let stayed : Bool := E ≤ o + d.leaveGrace
      let Ps := if first.inMinute ≤ S + d.lateGrace then S else min E (S + d.unit * ((first.inMinute - S + d.unit - 1) / d.unit))
      let Pr := if stayed then E else max Ps (E - d.unit * ((E - o + d.unit - 1) / d.unit))
      let paid := (Finset.Ico Ps Pr).filter fun p => !(inGap p || inBreak p)
      let x := ((Finset.Ico E o).filter fun p => !inGap p).card
      let night := fun (p : Nat) =>
        if c.tally.nightStart < c.tally.nightEnd then decide (c.tally.nightStart ≤ p % 1440) && decide (p % 1440 < c.tally.nightEnd)
        else if c.tally.nightEnd < c.tally.nightStart then
          decide (c.tally.nightStart ≤ p % 1440) || decide (p % 1440 < c.tally.nightEnd)
        else false
      let R := paid.card
      let N := (paid.filter fun p => night p).card
      let OT := if stayed = true ∧ E < o ∧ d.otThreshold ≤ x then min d.otCap (d.unit * (x / d.unit)) else 0
      tally c grade a = ⟨R, OT, N, (8 * R * rate + OT * rate * c.tally.otFactor + N * rate * c.tally.nightFactor + 240) / 480,
        turned || gapPairs.any fun x => x.2.inMinute < out x.1⟩) ∧
    (a.kind = .unscheduled →
      let T := (a.segments.map fun g => out g - g.inMinute).sum
      let OT := min c.tally.unschedCap (c.tally.unschedUnit * (T / c.tally.unschedUnit))
      tally c grade a = ⟨0, OT, 0, (OT * rate * c.tally.otFactor + 240) / 480, turned⟩)

/-- R136: whatever segments an open attendance comes to hold, its finalization credits at most 960 regular minutes, at most 480
overtime minutes, no more night minutes than regular minutes, and at most 3,669,960 hundredths of pay. R137, R138, R130: a credit
adds the tally to the bank the attendance's tag names, each sum held at its limit, with SATURATED where one was cut short and
TIME_STEPPED where a span was reversed; the other bank is untouched, and the changed mark is set. -/
def Obligations.CreditAddsOneBoundedTallyToOneBank : Prop :=
  (∀ s : State, s.CalendarInTable → s.RefsCounted → ∀ w ∈ s.workers, ∀ a, w.attendance = some a → ∀ segments : List Segment,
    let t := tally s.calendar w.grade { a with segments := segments }
    t.regular ≤ 960 ∧ t.overtime ≤ 480 ∧ t.night ≤ t.regular ∧ t.pay ≤ 3669960) ∧
  (∀ (c : Calendar) (a : Attendance) (w : WorkerRecord),
    let t := tally c w.grade a
    let b := w.bank a.tag
    let cut : Bool := decide (65535 < b.regular + t.regular ∨ 65535 < b.overtime + t.overtime ∨ 65535 < b.night + t.night ∨
      99999999 < b.pay + t.pay ∨ 255 < b.count + 1)
    let credited : Bank :=
      { regular := min 65535 (b.regular + t.regular), overtime := min 65535 (b.overtime + t.overtime)
        night := min 65535 (b.night + t.night), pay := min 99999999 (b.pay + t.pay), count := min 255 (b.count + 1)
        crew := if b.crew = none then a.crew else b.crew
        anomalies := { b.anomalies with
          timeStepped := b.anomalies.timeStepped || t.stepped, saturated := b.anomalies.saturated || cut } }
    creditAttendance c a w = { w with
      changed := true
      pendingSet := { w.pendingSet with
        timeStepped := w.pendingSet.timeStepped || t.stepped, saturated := w.pendingSet.saturated || cut }
      current := if a.tag = .current then credited else w.current
      closing := if a.tag = .closing then credited else w.closing })

/-! ## Section 9: Pay Periods and the Close Stream -/

/-- PERIOD_CLOSE (R141): its checks in their order; otherwise the banks swapped, the open attendances that began before B tagged
CLOSING and counted, and the READY event within the acceptance where the count is 0. READY_EVENT (R144): taken in PENDING at a
count of 0; where that does not hold it has no effect (model's choice, log 3). -/
def Obligations.PeriodCloseSwapsTheBanks : Prop :=
  ∀ s : State, (∀ tag number, s.Ready →
      let B := s.time.day * 1440 + s.time.second / 60
      let now := s.time.day * 86400 + s.time.second
      (number < 1 ∨ 65535 < number → exec (.periodClose tag number) s = .next (s.answered 0x50 tag .badValue .nothing)) ∧
      (1 ≤ number → number ≤ 65535 → s.period.state ≠ .free →
        exec (.periodClose tag number) s = .next (s.answered 0x50 tag .busy .nothing)) ∧
      (1 ≤ number → number ≤ 65535 → s.period.state = .free → s.time.validity = .unset →
        exec (.periodClose tag number) s = .next (s.answered 0x50 tag .state .nothing)) ∧
      (1 ≤ number → number ≤ 65535 → s.period.state = .free → s.time.validity = .set → s.ClosingCounted → ∃ t,
        exec (.periodClose tag number) s = .next t ∧
        let count := s.workers.countP fun w => w.attendance.any fun a => a.start < B
        t = { s with workers := t.workers, period := t.period, link := t.link } ∧
        t.workers = s.workers.map (fun w => { w with
          closing := w.current, current := Bank.empty
          attendance := w.attendance.map fun a => if a.start < B then { a with tag := .closing } else a }) ∧
        (count ≠ 0 →
          t.period = { s.period with state := .pending, boundary := B, number := number, counter := count } ∧
          t.link = { s.link with
            partialFrame := [], held := some ⟨0x50, tag, ⟨.ok, .periodClosed B number count .pending⟩⟩ }) ∧
        (count = 0 →
          t.period = ⟨.ready, B, s.period.previous, number, 0, t.period.crews, t.period.grand, t.closingRecords.length, 1, 0⟩ ∧
          t.SumsStand ∧ t.link.held = some ⟨0x50, tag, ⟨.ok, .periodClosed B number 0 .ready⟩⟩ ∧
          s.Reported t (.closeReady number B t.closingRecords.length (t.closingRecords.length + 11) now)))) ∧
    (s.Works →
      (s.period.state ≠ .pending ∨ s.period.counter ≠ 0 → exec .readyEvent s = .next s) ∧
      (s.period.state = .pending → s.period.counter = 0 → ∃ t, exec .readyEvent s = .next t ∧
        let n := s.closingRecords.length
        t = { s with period := t.period, link := t.link } ∧
        t.period = { s.period with
          state := .ready, crews := t.period.crews, grand := t.period.grand, workerCount := n, cursor := 1, cursorBadge := 0 } ∧
        t.SumsStand ∧ s.Reported t (.closeReady s.period.number s.period.boundary n (n + 11)
          (s.time.day * 86400 + s.time.second))))

/-- R146: in a stream that stands, for each of the seven quantities, the grand total of PERIOD_END equals both the sum of the nine
crew summaries and the sum over the worker records. -/
def Obligations.StreamTotalsAgree : Prop :=
  ∀ s : State, s.StreamStands → s.BanksBounded → s.period.state = .ready ∨ s.period.state = .drained →
    let grand := s.period.grand
    let agree := fun (total : Nat) (ofCrew : Summary → Nat) (ofBank : Bank → Nat) =>
      total = (s.closeStream.map fun r => match r with
        | .crewSummary _ row => ofCrew row
        | _ => 0).sum ∧
      total = (s.closeStream.map fun r => match r with
        | .worker _ bank => ofBank bank
        | _ => 0).sum
    s.closeStream.getLast? = some (.periodEnd grand s.closeStream.length) ∧
    agree grand.workers (·.workers) (fun _ => 1) ∧ agree grand.regular (·.regular) (·.regular) ∧
    agree grand.overtime (·.overtime) (·.overtime) ∧ agree grand.night (·.night) (·.night) ∧ agree grand.pay (·.pay) (·.pay) ∧
    agree grand.count (·.count) (·.count) ∧
    agree grand.anomalyWorkers (·.anomalyWorkers) (fun b => if b.anomalies = AnomalySet.empty then 0 else 1)

/-- CLOSE_READ (R147, R148): refused as it says; otherwise the next k records of the stream, from its start after a rewind, with
the number of the first, or the free value of log 9 where there is none; PERIOD_END drains the stream, and the stream itself does
not change. CLOSE_RELEASE (R149): in DRAINED the CLOSING banks are emptied and the unit is FREE, with B as the previous boundary.
-/
def Obligations.CloseReadWalksTheStream : Prop :=
  ∀ (s : State) (tag k : Nat) (rewind : Bool), s.Ready → s.WorkersOrdered → s.StreamStands →
    (k < 1 ∨ 8 < k → exec (.closeRead tag k rewind) s = .next (s.answered 0x51 tag .badValue .nothing)) ∧
    (1 ≤ k → k ≤ 8 → s.period.state = .free ∨ s.period.state = .pending →
      exec (.closeRead tag k rewind) s = .next (s.answered 0x51 tag .notReady .nothing)) ∧
    (1 ≤ k → k ≤ 8 → s.period.state = .ready ∨ s.period.state = .drained → ∃ t, exec (.closeRead tag k rewind) s = .next t ∧
      let start := if rewind then 1 else s.period.cursor
      let given := (s.closeStream.drop (start - 1)).take k
      let after := start + given.length
      let state : BankState := if after = s.closeStream.length + 1 then .drained else .ready
      t = { s with period := t.period, link := t.link } ∧
      t.period = { s.period with state := state, cursor := after, cursorBadge := t.period.cursorBadge } ∧
      t.closeStream = s.closeStream ∧ t.StreamStands ∧
      let number := if given = [] then (Config.firstOfNone s.closeStream.length).toNat else start
      t.link = { s.link with
        partialFrame := [], held := some ⟨0x51, tag, ⟨.ok, .stream number given s.closeStream.length state⟩⟩ }) ∧
    exec (.closeRelease tag) s = .next (
      if s.period.state = .drained then
        State.answered { s with
          workers := s.workers.map fun w => { w with closing := Bank.empty }
          period := ⟨.free, s.period.boundary, s.period.boundary, s.period.number, 0, Vector.replicate 9 ⟨0, 0, 0, 0, 0, 0, 0⟩,
            ⟨0, 0, 0, 0, 0, 0, 0⟩, 0, 1, 0⟩ } 0x52 tag .ok (.periodReleased s.period.number s.period.boundary)
      else s.answered 0x52 tag .notDrained .nothing)

/-! ## Section 10: Bell Signals -/

/-- CADENCE_DEFINE (R153), BELL_ENTRY (R155) and ZONE_CONFIG (R159): refused as they say, or stored whole; while fire is taken
each zone added to the mask sounds evacuation over what it sounded, its queue kept. -/
def Obligations.BellTablesAreReplacedWhole : Prop :=
  ∀ (s : State) (tag : Nat), s.Ready →
    (∀ cadence steps repeats, exec (.cadenceDefine tag cadence steps repeats) s = .next (
      if 1 ≤ cadence ∧ cadence ≤ 7 ∧ 1 ≤ steps.length ∧ steps.length ≤ 8 ∧ 1 ≤ repeats ∧ repeats ≤ 15 ∧
          ∀ x ∈ steps, x.level ≤ 1 ∧ 1 ≤ x.tenths ∧ x.tenths ≤ 255 then
        State.answered { s with bells := { s.bells with
          cadences := s.bells.cadences.setIfInBounds (cadence - 1)
            (some ⟨steps.map fun x => ⟨x.level == 0, x.tenths⟩, repeats⟩) } } 0x58 tag .ok .nothing
      else s.answered 0x58 tag .badValue .nothing)) ∧
    (∀ slot minute days zones cadence, exec (.bellEntryPut tag slot minute days zones cadence) s = .next (
      if slot ≤ 31 ∧ minute ≤ 1439 ∧ days ≤ 127 ∧ zones ≤ 15 ∧ 1 ≤ cadence ∧ cadence ≤ 7 then
        State.answered { s with bells := { s.bells with
          fixed := s.bells.fixed.setIfInBounds slot (some ⟨minute, days, zones, cadence⟩) } } 0x59 tag .ok .nothing
      else s.answered 0x59 tag .badValue .nothing)) ∧
    (∀ slot, exec (.bellEntryRemove tag slot) s = .next (
      if 31 < slot then s.answered 0x59 tag .badValue .nothing
      else if s.bells.fixed.getD slot none = none then s.answered 0x59 tag .notFound .nothing
      else State.answered { s with bells := { s.bells with fixed := s.bells.fixed.setIfInBounds slot none } } 0x59 tag .ok .nothing)) ∧
    ∀ mask, exec (.zoneConfig tag mask) s = .next (
      if 15 < mask then s.answered 0x5A tag .badValue .nothing
      else State.answered { s with bells := { s.bells with
        fireMask := mask
        zones := Vector.ofFn fun z =>
          if s.fire = true ∧ mask.testBit z = true ∧ s.bells.fireMask.testBit z = false ∧ s.bells.zones[z].evacuating = false then
            ⟨some ⟨0, .evacuation, [⟨true, 10⟩, ⟨false, 10⟩], none, 0, 1, 10⟩, s.bells.zones[z].queue⟩
          else s.bells.zones[z] } } 0x5A tag .ok .nothing)

/-- R154: a start of a cadence copies its steps and its repeat count, and stands at the first step and the first repeat with the first
step's duration; cadence 0 is fixed; an empty cadence completes at once, and its zone takes up the queue. R158: a zone decides a
submission by its sounding class and its queue: started, preempting, queued in its
class's place (over the last entry, if lower, of a full queue), or dropped. BELL_MANUAL and BELL_SILENCE (R160): each named zone
decides the submission on its own, and its outcome is in the reply; each named zone that does not sound evacuation is silenced
with its queue emptied, and the reply names those zones. -/
def Obligations.SubmissionsAreDecidedByClass : Prop :=
  (∀ (b : Bells) (cls : BellClass),
    b.startSounding 0 cls = some ⟨0, cls, [⟨true, 10⟩, ⟨false, 10⟩], none, 0, 1, 10⟩ ∧
    ∀ c : Fin 7, (b.cadences[c] = none → b.startSounding (c + 1) cls = none) ∧
      ∀ d, b.cadences[c] = some d → ∀ first, d.steps.head? = some first →
        b.startSounding (c + 1) cls = some ⟨c + 1, cls, d.steps, some d.repeats, 0, 1, first.tenths⟩) ∧
  (∀ (b : Bells) (z : Zone) (c : Nat) (cls : BellClass),
    z.queue.Pairwise (fun p q => q.cls.rank ≤ p.cls.rank) →
    let begun : Zone := match b.startSounding c cls with
      | some x => ⟨some x, z.queue⟩
      | none => match z.queue.dropWhile fun q => (b.startSounding q.cadence q.cls).isNone with
        | [] => ⟨none, []⟩
        | q :: rest => ⟨b.startSounding q.cadence q.cls, rest⟩
    let joined := fun (queue : List QueuedBell) =>
      queue.filter (fun q => cls.rank ≤ q.cls.rank) ++ [⟨c, cls⟩] ++ queue.filter (fun q => q.cls.rank < cls.rank)
    b.submitTo z c cls =
      match z.sounding with
      | none => (begun, .started)
      | some y =>
        if y.cls.rank < cls.rank then (begun, .preempted)
        else if z.queue.length < 4 then ({ z with queue := joined z.queue }, .queued)
        else if ∃ q ∈ z.queue.getLast?, q.cls.rank < cls.rank then ({ z with queue := joined z.queue.dropLast }, .queued)
        else (z, .dropped)) ∧
  (∀ (s : State) (tag mask cadence : Nat), s.Ready →
    let named := fun (f : Nat → Bool) => (List.range 4).filter fun z => mask.testBit z && f z
    exec (.bellManual tag mask cadence) s = .next (
      if cadence < 1 ∨ 7 < cadence ∨ 15 < mask then s.answered 0x5B tag .badValue .nothing
      else State.answered { s with bells := { s.bells with
        zones := Vector.ofFn fun z =>
          if mask.testBit z then (s.bells.submitTo s.bells.zones[z] cadence .manual).1 else s.bells.zones[z] } } 0x5B tag .ok
        (.outcomes ((named fun _ => true).map fun z => ⟨z, (s.bells.submitTo (s.bells.zoneAt z) cadence .manual).2⟩))) ∧
    exec (.bellSilence tag mask) s = .next (
      if 15 < mask then s.answered 0x5C tag .badValue .nothing
      else State.answered { s with bells := { s.bells with
        zones := Vector.ofFn fun z =>
          if mask.testBit z && !s.bells.zones[z].evacuating then ⟨none, []⟩ else s.bells.zones[z] } } 0x5C tag .ok
        (.silenced (named fun z => !(s.bells.zoneAt z).evacuating))))

/-- R154, R158: when a zone's downcounter has reached 0 its next step begins, or its next repeat, or, the cadence complete, the
first queued entry whose cadence is not empty; a tenth tick lowers each sounding zone's downcounter by one. While the downcounter
runs the event has no effect, and a downcounter at 0 stays there until its event comes (model's choice, log 3); a TENTH_TICK that is
sent begins the tick divider's next count (model's choice, log 1). R154, R162, R163: a zone's BELL output is on in an ON step of what it sounds,
while the part works, and off otherwise. -/
def Obligations.CadencesPlayStepByStep : Prop :=
  (∀ (s : State) (z : Fin 4), s.bell z = true ↔ s.Works ∧
    ∃ x ∈ s.bells.zones[z].sounding, ∃ step ∈ x.steps[x.index]?, step.on = true) ∧
  ∀ (s : State) (z : Fin 4), s.Works →
    let put := fun (x : Zone) => ({ s with bells := { s.bells with zones := s.bells.zones.set z x } } : State)
    let queue := s.bells.zones[z].queue
    (∀ x, s.bells.zones[z].sounding = some x → x.down ≠ 0 → exec (.cadenceStepEnded z) s = .next s) ∧
    (∀ x, s.bells.zones[z].sounding = some x → x.down = 0 → x.index < x.steps.length → ∀ first, x.steps.head? = some first →
      exec (.cadenceStepEnded z) s = .next (
        match x.steps[x.index + 1]? with
        | some y => put ⟨some { x with index := x.index + 1, down := y.tenths }, queue⟩
        | none =>
          if x.repeats = none then put ⟨some { x with index := 0, down := first.tenths }, queue⟩
          else if ∃ r ∈ x.repeats, x.repeatNo < r then
            put ⟨some { x with index := 0, repeatNo := x.repeatNo + 1, down := first.tenths }, queue⟩
          else match queue.dropWhile fun q => (s.bells.startSounding q.cadence q.cls).isNone with
            | [] => put ⟨none, []⟩
            | q :: rest => put ⟨s.bells.startSounding q.cadence q.cls, rest⟩)) ∧
    exec .tenthTick s = .next { s with bells := { s.bells with
      tickElapsed := 0, tickPlace := (s.bells.tickPlace + 1) % 10
      zones := Vector.ofFn fun i => { s.bells.zones[i] with
        sounding := s.bells.zones[i].sounding.map fun x => { x with down := x.down - 1 } } } }

/-- R156: the bells due in minute m for a zone: one submission per distinct cadence that a shift's bell minute or a fixed entry
gives it, SHIFT where a shift gives it, in descending order of class and then ascending order of cadence; none unless SET and
above the mark. The check moves the mark to m and submits the bells due to each zone in that order, each decided before the next
(R156, R158), and every minute event makes it. -/
def Obligations.DueCheckGathersEachCadenceOnce : Prop :=
  ∀ (b : Bells) (cal : Calendar) (m z : Nat), (∀ i : Fin 15, ∀ d ∈ cal.shiftOf (i.val + 1), ShiftInTable d) →
    (∀ e ∈ b.fixed.toList, ∀ x ∈ e, 1 ≤ x.cadence ∧ x.cadence ≤ 7) →
    let due := b.dueIn cal m z
    let D := m / 1440
    let minutes := fun (S : Nat) (d : ShiftDef) =>
      (if d.bellFlags.testBit 0 && decide (d.warnLead ≤ S) then [S - d.warnLead] else []) ++
      (if d.bellFlags.testBit 1 then [S] else []) ++
      (if d.bellFlags.testBit 2 then d.breaks.flatMap fun x => [S + x.offset, S + x.offset + x.length] else []) ++
      (if d.bellFlags.testBit 3 then [S + d.length] else [])
    let byShift := fun (c : Nat) => ∃ crew : Fin 8, ∃ back : Fin 2, back.val ≤ D ∧
      ∃ d ∈ cal.shiftOf ((cal.rotationOf (crew.val + 1)).codeOn (D - back.val)),
        m ∈ minutes ((D - back.val) * 1440 + d.start) d ∧ d.zoneMask.testBit z = true ∧ d.cadence = c
    let byEntry := fun (c : Nat) => ∃ e ∈ b.fixed.toList, ∃ x ∈ e,
      x.minute = m % 1440 ∧ x.days.testBit ((D + 6) % 7) = true ∧ x.zones.testBit z = true ∧ x.cadence = c
    due.Pairwise (fun p q => q.cls.rank < p.cls.rank ∨ (p.cls = q.cls ∧ p.cadence < q.cadence)) ∧
    (∀ c : Fin 8, (⟨c, .shift⟩ ∈ due ↔ byShift c) ∧ (⟨c, .fixed⟩ ∈ due ↔ byEntry c ∧ ¬ byShift c)) ∧
    (∀ q ∈ due, q.cadence ≤ 7 ∧ (q.cls = .shift ∨ q.cls = .fixed)) ∧
    (∀ v, v = .unset ∨ m ≤ b.highWater → b.dueCheck cal v m = b) ∧
    (b.highWater < m → b.dueCheck cal .set m = { b with
      highWater := m
      zones := Vector.ofFn fun y => (b.dueIn cal m y).foldl (fun zone q => (b.submitTo zone q.cadence q.cls).1) b.zones[y] }) ∧
    ∀ s : State, (minuteEvent s).bells = s.bells.dueCheck s.calendar s.time.validity (s.time.day * 1440 + s.time.second / 60)

/-! ## Section 11: Supply Loss and Restart -/

/-- R164, R165, R166: which start follows a restore of the main supply, a release of RESETn and an OK reply to RESTART or
FACTORY_CLEAR, and what a warm start and a cold start leave. A cold start's START report carries the plant second after the cold-start
values, 0 (model's choice, log 28). A warm start keeps the phase of the tick divider (model's choice, log 30), and a cold start keeps it too
(model's choice, log 2). R165, R168: RESTART and FACTORY_CLEAR are answered OK with no other
effect until their reply has been sent; the end of any other reply frees the link and does nothing else. R152: a warm start that finds
PENDING with a count of 0 takes the READY event. A restore while RESETn is low leaves the start owed, and a release in BACKUP gives none
(model's choice, log 14); a restore in RUN, a release of a pin already high and a REPLY_SENT with nothing held have no effect (model's
choice, log 3). -/
def Obligations.StartsKeepOrClearTheContents : Prop :=
  (∀ (s : State) (v : InputLevels), s.WorkersOrdered → s.JournalFits → s.PassagesNamed →
    (s.supply.state = .backup → s.supply.resetnHigh = true → s.supply.retention = .valid →
      ∃ t, exec (.mainRestored v) s = .next t ∧ s.WarmStarted t .supply s.supply.duration v) ∧
    (s.supply.state = .backup → s.supply.resetnHigh = true → s.supply.retention = .lost →
      ∃ t, exec (.mainRestored v) s = .next t ∧ s.ColdStarted t (if s.supply.firstPower then .firstPower else .supply) v) ∧
    (s.supply.state = .backup → s.supply.resetnHigh = false → exec (.mainRestored v) s = .next
      { s with supply := { s.supply with state := .run, startOwed := true } }) ∧
    (s.supply.state = .run → exec (.mainRestored v) s = .next s) ∧
    (s.supply.resetnHigh = true → exec (.resetnReleased v) s = .next s) ∧
    (s.supply.resetnHigh = false →
      let high : State := { s with supply := { s.supply with resetnHigh := true } }
      (s.supply.state = .backup → exec (.resetnReleased v) s = .next high) ∧
      (s.supply.state = .run → s.supply.startOwed = false →
        ∃ t, exec (.resetnReleased v) s = .next t ∧ high.WarmStarted t .resetn 0 v) ∧
      (s.supply.state = .run → s.supply.startOwed = true → s.supply.retention = .valid →
        ∃ t, exec (.resetnReleased v) s = .next t ∧ high.WarmStarted t .supply s.supply.duration v) ∧
      (s.supply.state = .run → s.supply.startOwed = true → s.supply.retention = .lost →
        ∃ t, exec (.resetnReleased v) s = .next t ∧
          high.ColdStarted t (if s.supply.firstPower then .firstPower else .supply) v)) ∧
    (s.Works → ∀ h, s.link.held = some h → h.reply.result = .ok →
      (h.kind = 0x68 → ∃ t, exec (.replySent v) s = .next t ∧ s.WarmStarted t .restart 0 v) ∧
      (h.kind = 0x69 → ∃ t, exec (.replySent v) s = .next t ∧ s.ColdStarted t .factoryClear v))) ∧
  (∀ (s : State) (tag : Nat) (levels : InputLevels), s.Works →
    (s.link.held = none → exec (.restart tag) s = .next (s.answered 0x68 tag .ok .nothing) ∧
      exec (.factoryClear tag) s = .next (s.answered 0x69 tag .ok .nothing) ∧ exec (.replySent levels) s = .next s) ∧
    (∀ h, s.link.held = some h → (h.kind ≠ 0x68 ∧ h.kind ≠ 0x69) ∨ h.reply.result ≠ .ok →
      exec (.replySent levels) s = .next { s with link := { s.link with held := none } }))

/-! ## Section 12: the bytes of the station link -/

/-- R167: the frame built for a kind, a tag and a body of at most 248 bytes is A7H, the length, the kind, the tag, the body and the CRC, and
the receiver, after any bytes that are not the start byte, passes exactly that frame. Each byte stands on the line as one start bit, eight
data bits least significant first, and one stop bit, as the receiver takes it, their levels by log 29 (model's choice); TXD carries the
reply's frame so, at the rate of the straps (Table 12.1). R168, R173: a reply's body is its result code and its content, each field in the
form of R173; Table 12.5: the fifteen bytes of a journal entry; Table 12.6: the bytes of each close-stream record; the bytes of each report
and of each reply's content, in the order of the owning rule, named lists numbered in the manual's order. What R173 leaves open there is the
model's choice or reading (logs 17, 19 and 27). -/
def Obligations.StationBytesFollowTheirLayouts : Prop :=
  (∀ (kind tag : Nat) (body : List Byte) (noise : List LineByte), body.length ≤ 248 → (∀ b ∈ noise, cellsData b ≠ 0xA7) →
    let counted : List Byte := [BitVec.ofNat 8 (body.length + 2), BitVec.ofNat 8 kind, BitVec.ofNat 8 tag] ++ body
    let bytes : List Byte := 0xA7 :: counted ++ crcBytes counted
    Layout.stationFrame kind tag body = some bytes ∧ takeLine [] (noise ++ bytes.map wholeByte) = .passed bytes) ∧
  (∀ b : Byte, byteCells b = false :: (List.range 9).map fun i => (wholeByte b).cells.getLsbD i) ∧
  (∀ b : Byte, byteCells b = [false, b.getLsbD 0, b.getLsbD 1, b.getLsbD 2, b.getLsbD 3, b.getLsbD 4, b.getLsbD 5, b.getLsbD 6,
    b.getLsbD 7, true]) ∧
  (∀ s : State, s.Works → ∀ h, s.link.held = some h → ∀ bytes,
    Layout.stationFrame (h.kind ||| 0x80) h.tag (Layout.replyBody h.reply) = some bytes →
    s.txdLine = some ⟨match s.link.baud1, s.link.baud0 with
      | false, false => 9600
      | false, true => 19200
      | true, false => 57600
      | true, true => 115200, bytes.flatMap byteCells⟩) ∧
  -- R173: the forms of a field
  (∀ k v, Layout.num k v = (List.range k).map fun i => BitVec.ofNat 8 (v / 256 ^ (k - 1 - i))) ∧
  (∀ v : Int, -128 ≤ v → v ≤ 127 → Layout.signed v = [BitVec.ofNat 8 (if v < 0 then (256 + v).toNat else v.toNat)]) ∧
  (∀ b, Layout.flag b = [if b then 1 else 0]) ∧
  (∀ members : List Bool, members.length ≤ 8 → ∃ b, Layout.subset members = [b] ∧
    ∀ i : Fin 8, b.getLsbD i = members.getD i false) ∧
  (∀ (α : Type) (f : α → List Byte), Layout.opt f none = [0] ∧ (∀ v, Layout.opt f (some v) = 1 :: f v) ∧
    ∀ l, Layout.list f l = BitVec.ofNat 8 l.length :: l.flatMap f) ∧
  -- R173: the named lists, and the codes of Tables 12.2 and 5.1
  ([.unset, .set].map Layout.validity = [0, 1] ∧
    [.off, .search, .locked, .holdover].map Layout.followerState = [0, 1, 2, 3] ∧
    [none, some .mia, some .mib].map Layout.lastLine = [0, 1, 2] ∧
    [.none, .hold, .holding, .omit].map Layout.mark = [0, 1, 2, 3] ∧
    [.resting, .undefinedCode, .working].map Layout.dayMark = [0, 1, 2] ∧
    [.active, .suspended].map Layout.workerStatus = [0, 1] ∧
    [.inside, .outside, .unknown].map Layout.presence = [0, 1, 2] ∧
    [.inward, .outward].map Layout.direction = [0, 1] ∧
    [.current, .closing].map Layout.bankTag = [0, 1] ∧
    [.b9600, .b19200, .b38400].map Layout.bitRate = [0, 1, 2] ∧
    [.biphaseMark, .biphaseSpace].map Layout.coding = [0, 1] ∧
    [.sum8, .crc16].map Layout.checkKind = [0, 1] ∧
    [.off, .testing, .training, .up, .lost].map Layout.loopMode = [0, 1, 2, 3, 4] ∧
    [.turnstile, .hinged].map Layout.gateKind = [0, 1] ∧
    [.hard, .soft, .off].map Layout.passbackMode = [0, 1, 2] ∧
    [.locked, .exitFree, .free].map Layout.cutOffPolicy = [0, 1, 2] ∧
    [.normal, .free, .lockdown].map Layout.controlMode = [0, 1, 2] ∧
    [.punch, .host, .untracked].map Layout.releaseCause = [0, 1, 2] ∧
    [.idle, .armed, .free, .locked, .released, .opened, .held, .forced].map Layout.gateState = [0, 1, 2, 3, 4, 5, 6, 7] ∧
    [.free, .pending, .ready, .drained].map Layout.bankState = [0, 1, 2, 3] ∧
    [.evacuation, .manual, .shift, .fixed].map Layout.bellClass = [0, 1, 2, 3] ∧
    [.started, .preempted, .queued, .dropped].map Layout.bellOutcome = [0, 1, 2, 3] ∧
    [.warm, .cold].map Layout.startKind = [0, 1] ∧
    [.supply, .resetn, .restart, .factoryClear, .firstPower].map Layout.startCause = [0, 1, 2, 3, 4] ∧
    [.enable, .disable, .align, .wide, .miss, .clockSet].map Layout.clockCause = [0, 1, 2, 3, 4, 5] ∧
    [.start, .test, .trained, .loss, .regained, .testEnd, .stop].map Layout.loopCause = [0, 1, 2, 3, 4, 5, 6] ∧
    [.fault, .present, .absent].map Layout.readerCause = [0, 1, 2] ∧
    [.forced, .held].map Layout.alarm = [0, 1] ∧ [.raised, .cleared].map Layout.alarmPhase = [0, 1] ∧
    [.entryLimit, .full].map Layout.limitLevel = [0, 1] ∧ [true, false].map Layout.fireState = [0, 1] ∧
    [.ok, .unknownKind, .badValue, .state, .busy, .notFound, .tableFull, .inUse, .totalsPending, .notReady,
      .notDrained].map Layout.result = List.range 11 ∧
    [.accept, .releaseUntimed, .wait].map Layout.verdictCode = [1, 2, 3] ∧
    [.unknownBadge, .clockUnset, .evacuation, .gateLockdown, .suspended, .expired, .gateDenied, .outOfWindow, .passback,
      .journalFull].map (fun x => Layout.verdictCode (.denied x)) = (List.range 10).map (0x10 + ·)) ∧
  let num := Layout.num
  let flag := Layout.flag
  -- Tables 12.5 and 12.6
  (∀ x : AnomalySet, Layout.anomalySet x = num 1 ((if x.missedOut then 1 else 0) + (if x.orphanOut then 2 else 0) +
    (if x.unscheduled then 4 else 0) + (if x.segmentLimit then 8 else 0) + (if x.timeStepped then 16 else 0) +
    (if x.unrecordedExit then 32 else 0) + (if x.saturated then 64 else 0) + if x.softPassback then 128 else 0)) ∧
  (∀ e : JournalEntry, Layout.journalEntry e =
    num 2 e.number ++ num 5 e.second ++ num 3 e.badge ++ num 1 (e.loop * 16 + e.address) ++
    num 1 (e.gate + if e.direction = .outward then 128 else 0) ++
    num 1 ((match e.outcome with
      | .passed => 1
      | .voided => 2
      | .fireExit => 3
      | .refused _ => 4) + if e.restartVoid then 128 else 0) ++
    num 1 (match e.outcome with
      | .refused x => Layout.verdictCode (.denied x)
      | _ => 0) ++ Layout.anomalySet e.anomalies) ∧
  (let totals := fun (x : Summary) => num 2 x.workers ++ num 4 x.regular ++ num 4 x.overtime ++ num 4 x.night ++ num 6 x.pay ++
      num 3 x.count ++ num 2 x.anomalyWorkers
    ∀ record, Layout.streamRecord record = match record with
      | .periodStart number previous boundary n => num 1 1 ++ num 2 number ++ num 4 previous ++ num 4 boundary ++ num 2 n
      | .crewSummary crew row => num 1 2 ++ num 1 crew ++ totals row
      | .worker badge b => num 1 3 ++ num 3 badge ++ num 1 (b.crew.getD 0) ++ num 2 b.regular ++ num 2 b.overtime ++ num 2 b.night ++
        num 4 b.pay ++ num 1 b.count ++ Layout.anomalySet b.anomalies
      | .periodEnd grand count => num 1 4 ++ totals grand ++ num 2 count) ∧
  -- the reports of R169
  (∀ report, Layout.report report = match report with
    | .clockEvent left entered cause second phase => num 1 0 ++ num 1 (Layout.followerState left) ++
      num 1 (Layout.followerState entered) ++ num 1 (Layout.clockCause cause) ++ num 5 second ++ Layout.signed phase
    | .loopEvent l left entered cause second present => num 1 1 ++ num 1 l ++ num 1 (Layout.loopMode left) ++
      num 1 (Layout.loopMode entered) ++ num 1 (Layout.loopCause cause) ++ num 5 second ++
      Layout.subset ([1, 2, 3, 4, 5, 6, 7, 8].map present.contains)
    | .readerEvent l address cause code second => num 1 2 ++ num 1 l ++ num 1 address ++ num 1 (Layout.readerCause cause) ++
      num 1 code ++ num 5 second
    | .loopTestDone l k good failed aborted => num 1 3 ++ num 1 l ++ num 1 k ++ num 1 good ++ num 1 failed ++ num 1 aborted
    | .gateAlarm g alarm phase direction second => num 1 4 ++ num 1 g ++ num 1 (Layout.alarm alarm) ++
      num 1 (Layout.alarmPhase phase) ++ Layout.opt (fun x => num 1 (Layout.direction x)) direction ++ num 5 second
    | .fireEvent taken second => num 1 5 ++ num 1 (Layout.fireState taken) ++ num 5 second
    | .journalLimit level held reserved second => num 1 6 ++ num 1 (Layout.limitLevel level) ++ num 2 held ++ num 1 reserved ++
      num 5 second
    | .closeReady number boundary n count second => num 1 7 ++ num 2 number ++ num 4 boundary ++ num 2 n ++ num 2 count ++ num 5 second
    | .start kind cause duration second => num 1 8 ++ num 1 (Layout.startKind kind) ++ num 1 (Layout.startCause cause) ++
      num 4 duration ++ num 5 second) ∧
  -- the replies
  (∀ reply : Reply, Layout.replyBody reply = num 1 (Layout.result reply.result) ++ Layout.content reply.content) ∧
  (∀ x : Bank, Layout.bank x = num 2 x.regular ++ num 2 x.overtime ++ num 2 x.night ++ num 4 x.pay ++ num 1 x.count ++
    Layout.opt (num 1) x.crew ++ Layout.anomalySet x.anomalies) ∧
  (∀ x : Attendance, Layout.attendance x =
    (match x.kind with
      | .scheduled code stop => num 1 0 ++ (num 1 1 ++ num 1 code) ++ num 4 x.start ++ (num 1 1 ++ num 4 stop)
      | .unscheduled => num 1 1 ++ num 1 0 ++ num 4 x.start ++ num 1 0) ++
    num 1 (Layout.bankTag x.tag) ++ Layout.opt (num 1) x.crew ++
    Layout.list (fun (g : Segment) => num 4 g.inMinute ++ Layout.opt (num 4) g.outMinute) x.segments) ∧
  (∀ w : WorkerRecord, Layout.workerRecord w = num 3 w.badge ++ num 1 (Layout.workerStatus w.status) ++
    Layout.opt (num 2) w.validUntil ++ Layout.opt (num 1) w.crew ++ num 1 w.grade ++ num 2 w.gateMask.toNat ++ flag w.anytime ++
    flag w.unschedAuth ++ num 1 (Layout.presence w.presence) ++
    Layout.opt (fun (x : LastPunch) => num 5 x.second ++ num 1 x.gate) w.lastPunch ++ Layout.opt (num 1) w.pendingGate ++
    Layout.opt Layout.attendance w.attendance ++ Layout.anomalySet w.pendingSet ++ Layout.bank w.current ++ Layout.bank w.closing ++
    flag w.changed) ∧
  ∀ content, Layout.content content = match content with
    | .nothing => []
    | .clock x => num 2 x.day ++ num 3 x.second ++ num 1 (Layout.validity x.validity) ++ Layout.signed x.trim ++ flag x.enable ++
      num 1 x.window ++ num 1 (Layout.followerState x.state) ++ num 1 (Layout.lastLine x.lastLine) ++ num 1 (Layout.mark x.mark) ++
      Layout.subset [x.miss1, x.miss2, x.wide1, x.wide2] ++ Layout.signed x.phase
    | .shift x open_ => num 2 x.start ++ num 2 x.length ++ num 1 x.entryWindow ++ num 1 x.lateGrace ++ num 1 x.leaveGrace ++
      num 1 x.unit ++ num 1 x.otThreshold ++ num 2 x.otCap ++ num 2 x.closeDelay ++
      Layout.list (fun (b : Break) => num 2 b.offset ++ num 1 b.length) x.breaks ++ num 1 x.bellFlags ++ num 1 x.warnLead ++
      num 1 x.zoneMask ++ num 1 x.cadence ++ num 2 open_
    | .crew x => num 1 x.pattern.length ++ num 2 x.anchor ++ Layout.list (num 1) x.pattern
    | .day index code mark window => num 1 index ++ num 1 code ++ num 1 (Layout.dayMark mark) ++
      Layout.opt (fun (x : Nat × Nat) => num 4 x.1 ++ num 4 x.2) window
    | .tally x => num 2 x.nightStart ++ num 2 x.nightEnd ++ num 1 x.otFactor ++ num 1 x.nightFactor ++ num 1 x.unschedUnit ++
      num 2 x.unschedCap ++ num 2 x.unschedLimit
    | .rates l => l.flatMap (num 2)
    | .recordCount n => num 2 n
    | .worker w n => Layout.workerRecord w ++ num 2 n
    | .workers l more => Layout.list Layout.workerRecord l ++ flag more
    | .loop x => num 1 (Layout.bitRate x.config.rate) ++ num 1 (Layout.coding x.config.coding) ++
      num 1 (Layout.checkKind x.config.check) ++ num 1 x.config.npre ++ num 2 x.config.nsync ++ num 1 x.config.window ++
      num 1 x.config.nmiss ++ num 1 x.config.dlos ++ num 1 x.config.clos ++
      Layout.list (fun (q : Position) => num 1 q.address ++ num 1 q.gate ++ num 1 (Layout.direction q.direction)) x.positions ++
      num 1 (Layout.loopMode x.mode) ++ flag x.intent ++ Layout.subset [x.miss1, x.miss2] ++ num 1 x.deadRun ++ num 1 x.validRun ++
      Layout.list (fun (q : Position) => num 1 q.address ++ num 1 q.gate ++ num 1 (Layout.direction q.direction) ++ flag q.present ++
        num 1 q.silence ++ Layout.opt (fun (y : DuplicateRecord) => num 1 y.sequence ++ num 1 (Layout.verdictCode y.verdict.code) ++
          num 1 y.verdict.display ++ flag y.verdict.seeOffice) q.duplicate) x.positions
    | .gate x => num 1 (Layout.gateKind x.config.kind) ++ num 1 x.config.release ++ num 2 x.config.heldOpen ++
      num 1 (Layout.passbackMode x.config.passback) ++ num 1 (Layout.cutOffPolicy x.config.policy) ++
      Layout.opt (num 1) x.config.partner ++ num 1 (Layout.controlMode x.mode) ++ num 1 (Layout.gateState x.state) ++
      Layout.subset [x.standing.holds .inward, x.standing.holds .outward] ++ flag x.cutOff ++
      Layout.opt (fun (a : Arming) => num 1 (Layout.direction a.direction) ++ num 1 (Layout.releaseCause a.cause)) x.arming ++
      Layout.opt (num 1) x.releaseTimer ++ Layout.opt (fun o => num 1 (if o then 0 else 1)) x.contactOpen ++
      Layout.opt (num 2) x.heldTimer ++
      Layout.opt (fun (q : Passage) => num 3 q.badge ++ num 1 (Layout.direction q.direction) ++ num 5 q.second ++ num 1 q.loop ++
        num 1 q.address) x.passage ++ num 1 (Layout.fireState x.fire)
    | .muster l more => Layout.list (fun (x : MusterEntry) => num 3 x.badge ++ num 1 (Layout.presence x.presence) ++
        Layout.opt (num 1) x.gate ++ Layout.opt (num 5) x.second) l ++ flag more
    | .journal held reserved next l => num 2 held ++ num 1 reserved ++ num 2 next ++ Layout.list Layout.journalEntry l
    | .journalCounts held reserved oldest => num 2 held ++ num 1 reserved ++ Layout.opt (num 2) oldest
    | .periodClosed boundary number counter state => num 4 boundary ++ num 2 number ++ num 2 counter ++ num 1 (Layout.bankState state)
    | .stream first l count state => num 2 first ++ num 2 count ++ num 1 (Layout.bankState state) ++ l.flatMap Layout.streamRecord
    | .periodReleased number previous => num 2 number ++ num 4 previous
    | .period x => num 1 (Layout.bankState x.state) ++ num 2 x.number ++ num 4 x.boundary ++ num 4 x.previous ++ num 2 x.counter ++
      num 2 x.workerCount ++ num 2 x.cursor ++
      Layout.opt (fun (y : Summary) => num 4 y.workers ++ num 4 y.regular ++ num 4 y.overtime ++ num 4 y.night ++ num 6 y.pay ++
        num 4 y.count ++ num 4 y.anomalyWorkers) x.grand
    | .outcomes l => Layout.list (fun (x : ZoneOutcome) => num 1 x.zone ++ num 1 (Layout.bellOutcome x.outcome)) l
    | .silenced l => Layout.subset ([0, 1, 2, 3].map l.contains)
    | .bells x => x.cadences.flatMap (Layout.opt fun (c : Cadence) =>
        Layout.list (fun (y : CadenceStep) => num 1 (if y.on then 0 else 1) ++ num 1 y.tenths) c.steps ++ num 1 c.repeats) ++
      x.fixed.flatMap (Layout.opt fun (e : FixedBell) => num 2 e.minute ++ num 1 e.days ++ num 1 e.zones ++ num 1 e.cadence) ++
      num 1 x.fireMask ++ num 4 x.highWater ++ x.zones.flatMap fun (z : Zone) =>
        (match z.sounding with
          | none => num 1 0
          | some y => num 1 1 ++ num 1 y.cadence ++ num 1 (Layout.bellClass y.cls) ++ num 1 y.index ++ num 1 y.repeatNo ++
            num 1 y.down) ++ Layout.list (fun (q : QueuedBell) => num 1 q.cadence ++ num 1 (Layout.bellClass q.cls)) z.queue
    | .status x => num 1 (Layout.validity x.validity) ++ num 1 (Layout.followerState x.follower) ++
      x.loops.flatMap (fun m => num 1 (Layout.loopMode m)) ++
      x.gates.flatMap (fun (g : GateStatus) => num 1 (Layout.gateState g.state) ++ num 1 (Layout.controlMode g.mode)) ++
      num 1 (Layout.fireState x.fire) ++ num 2 x.held ++ num 1 x.reserved ++ num 1 (Layout.bankState x.bank) ++ num 2 x.counter ++
      num 1 x.reports ++ flag x.overrun ++ flag x.dropped
    | .reports l left => Layout.list Layout.report l ++ num 1 left

/-- R167, R168, R173, Table 12.3: the bytes of every well-formed request spell that request and no other, every field at every
value its bytes admit; GATE_CONFIG's with the levels of its gate's inputs (log 5). LOOP_CONFIG's bit rate is a list number (log 27). -/
def Obligations.RequestsRoundTrip : Prop :=
  ∀ (c : Instr) (in0 in1 : Bool), WellFormed c = true → ∀ r, encodeRequest c = some r →
    decodeRequest in0 in1 r = some (match c with
      | .gateConfig tag gate fields _ _ => .gateConfig tag gate fields in0 in1
      | c => c)

/-! ## The laws every step keeps -/

/-- R121, R88, R120 and R119: every step keeps the sum of the held and reserved counts within the ring, the reserved count the
number of pending passages, and the held entries' numbers consecutive. -/
def Obligations.EveryStepKeepsTheJournal : Prop :=
  (∀ s : State, s.JournalFits → ∀ t, step s = .next t → t.JournalFits) ∧
  ∀ s : State, s.JournalNumbered → ∀ t, step s = .next t → t.JournalNumbered

/-- R33, R138: every step keeps the worker table in badge order within its size, and every bank within its limits. -/
def Obligations.EveryStepKeepsTheWorkerTable : Prop :=
  (∀ s : State, s.WorkersOrdered → ∀ t, step s = .next t → t.WorkersOrdered) ∧
  ∀ s : State, s.BanksBounded → ∀ t, step s = .next t → t.BanksBounded

/-- R35, R44, R82: every step keeps presence IN in agreement with the open attendance; and while the time is UNSET there is no
open attendance and no pending passage. -/
def Obligations.EveryStepKeepsPresence : Prop :=
  ∀ s : State, s.WorkersOrdered → s.PresenceAgrees → ∀ t, step s = .next t → t.PresenceAgrees

/-- R21: every step keeps each open reference count equal to the number of open SCHEDULED attendances under its code. -/
def Obligations.EveryStepKeepsTheReferences : Prop :=
  ∀ s : State, s.WorkersOrdered → s.RefsCounted → ∀ t, step s = .next t → t.RefsCounted

/-- R143: every step keeps the open-closing counter equal to the number of open attendances tagged CLOSING in PENDING, and no
attendance tagged CLOSING in any other bank state. R145: a step that stays in READY and DRAINED changes no CLOSING bank and
removes no record with one that is not empty. And every step keeps the totals and the cursor of a stream that stands. -/
def Obligations.EveryStepKeepsTheCloseStream : Prop :=
  ∀ s : State, s.WorkersOrdered → s.ClosingCounted → ∀ t, step s = .next t →
    t.ClosingCounted ∧
    (s.period.state = .ready ∨ s.period.state = .drained → t.period.state = .ready ∨ t.period.state = .drained →
      t.closingRecords.map (fun w => (w.badge, w.closing)) = s.closingRecords.map fun w => (w.badge, w.closing)) ∧
    (s.StreamStands → t.StreamStands)

/-- R36, R93, R96, R104, R109: every step keeps each record's pending gate the gate that holds its passage, partnership symmetric,
arming cause PUNCH with its passage, and a hinged gate FREE exactly under a standing. -/
def Obligations.EveryStepKeepsTheGates : Prop :=
  (∀ s : State, s.WorkersOrdered → s.PassagesNamed → ∀ t, step s = .next t → t.PassagesNamed) ∧
  (∀ s : State, s.PartnersSymmetric → ∀ t, step s = .next t → t.PartnersSymmetric) ∧
  ∀ s : State, s.LoopsInOrder → s.GatesStand → ∀ t, step s = .next t → t.GatesStand

/-- Tables 1.1, 1.2, 2.1 to 2.3 and 4.2, R54, R158, R169: every step keeps the time, the follower, the calendar, the loops, the
zones and the report queue within their ranges. -/
def Obligations.EveryStepKeepsTheRanges : Prop :=
  (∀ s : State, s.TimeInRange → ∀ t, step s = .next t → t.TimeInRange) ∧
  (∀ s : State, s.FollowerInRange → ∀ t, step s = .next t → t.FollowerInRange) ∧
  (∀ s : State, s.CalendarInTable → ∀ t, step s = .next t → t.CalendarInTable) ∧
  (∀ s : State, s.LoopsInOrder → ∀ t, step s = .next t → t.LoopsInOrder) ∧
  (∀ s : State, s.ZonesInOrder → ∀ t, step s = .next t → t.ZonesInOrder) ∧
  ∀ s : State, s.ReportsFit → ∀ t, step s = .next t → t.ReportsFit

/-- Every law that a step keeps holds of the part at reset. -/
def Obligations.EveryLawHoldsAtReset : Prop :=
  let s := State.reset
  s.JournalFits ∧ s.JournalNumbered ∧ s.WorkersOrdered ∧ s.BanksBounded ∧ s.PresenceAgrees ∧ s.RefsCounted ∧ s.ClosingCounted ∧
    s.StreamStands ∧ s.PassagesNamed ∧ s.PartnersSymmetric ∧ s.GatesStand ∧ s.TimeInRange ∧ s.FollowerInRange ∧
    s.CalendarInTable ∧ s.LoopsInOrder ∧ s.ZonesInOrder ∧ s.ReportsFit
end

