-- ==== Sys2Proof/Laws/State.lean ====
section
/-! SUPPORT. One lemma for each field under each named update of the state, and what is read back from a bank of like units after an
update of one of them. -/

namespace Sys2Proof.Machine

/-! ## A gate replaced -/

@[simp] theorem State.setGate_time (s : State) (g : Nat) (x : Gate) : (s.setGate g x).time = s.time := rfl

@[simp] theorem State.setGate_follower (s : State) (g : Nat) (x : Gate) : (s.setGate g x).follower = s.follower := rfl

@[simp] theorem State.setGate_calendar (s : State) (g : Nat) (x : Gate) : (s.setGate g x).calendar = s.calendar := rfl

@[simp] theorem State.setGate_workers (s : State) (g : Nat) (x : Gate) : (s.setGate g x).workers = s.workers := rfl

@[simp] theorem State.setGate_loops (s : State) (g : Nat) (x : Gate) : (s.setGate g x).loops = s.loops := rfl

@[simp] theorem State.setGate_punch (s : State) (g : Nat) (x : Gate) : (s.setGate g x).punch = s.punch := rfl

@[simp] theorem State.setGate_gates (s : State) (g : Nat) (x : Gate) :
    (s.setGate g x).gates = s.gates.setIfInBounds g x := rfl

@[simp] theorem State.setGate_fire (s : State) (g : Nat) (x : Gate) : (s.setGate g x).fire = s.fire := rfl

@[simp] theorem State.setGate_journal (s : State) (g : Nat) (x : Gate) : (s.setGate g x).journal = s.journal := rfl

@[simp] theorem State.setGate_period (s : State) (g : Nat) (x : Gate) : (s.setGate g x).period = s.period := rfl

@[simp] theorem State.setGate_bells (s : State) (g : Nat) (x : Gate) : (s.setGate g x).bells = s.bells := rfl

@[simp] theorem State.setGate_supply (s : State) (g : Nat) (x : Gate) : (s.setGate g x).supply = s.supply := rfl

@[simp] theorem State.setGate_link (s : State) (g : Nat) (x : Gate) : (s.setGate g x).link = s.link := rfl

@[simp] theorem State.setGate_pending (s : State) (g : Nat) (x : Gate) : (s.setGate g x).pending = s.pending := rfl

/-! ## A loop replaced -/

@[simp] theorem State.setLoop_time (s : State) (l : Nat) (x : LoopState) : (s.setLoop l x).time = s.time := rfl

@[simp] theorem State.setLoop_follower (s : State) (l : Nat) (x : LoopState) : (s.setLoop l x).follower = s.follower := rfl

@[simp] theorem State.setLoop_calendar (s : State) (l : Nat) (x : LoopState) : (s.setLoop l x).calendar = s.calendar := rfl

@[simp] theorem State.setLoop_workers (s : State) (l : Nat) (x : LoopState) : (s.setLoop l x).workers = s.workers := rfl

@[simp] theorem State.setLoop_loops (s : State) (l : Nat) (x : LoopState) :
    (s.setLoop l x).loops = s.loops.setIfInBounds l x := rfl

@[simp] theorem State.setLoop_punch (s : State) (l : Nat) (x : LoopState) : (s.setLoop l x).punch = s.punch := rfl

@[simp] theorem State.setLoop_gates (s : State) (l : Nat) (x : LoopState) : (s.setLoop l x).gates = s.gates := rfl

@[simp] theorem State.setLoop_fire (s : State) (l : Nat) (x : LoopState) : (s.setLoop l x).fire = s.fire := rfl

@[simp] theorem State.setLoop_journal (s : State) (l : Nat) (x : LoopState) : (s.setLoop l x).journal = s.journal := rfl

@[simp] theorem State.setLoop_period (s : State) (l : Nat) (x : LoopState) : (s.setLoop l x).period = s.period := rfl

@[simp] theorem State.setLoop_bells (s : State) (l : Nat) (x : LoopState) : (s.setLoop l x).bells = s.bells := rfl

@[simp] theorem State.setLoop_supply (s : State) (l : Nat) (x : LoopState) : (s.setLoop l x).supply = s.supply := rfl

@[simp] theorem State.setLoop_link (s : State) (l : Nat) (x : LoopState) : (s.setLoop l x).link = s.link := rfl

@[simp] theorem State.setLoop_pending (s : State) (l : Nat) (x : LoopState) : (s.setLoop l x).pending = s.pending := rfl

/-! ## A worker record replaced -/

@[simp] theorem setWorker_time (s : State) (w : WorkerRecord) : (setWorker w s).time = s.time := rfl

@[simp] theorem setWorker_follower (s : State) (w : WorkerRecord) : (setWorker w s).follower = s.follower := rfl

@[simp] theorem setWorker_calendar (s : State) (w : WorkerRecord) : (setWorker w s).calendar = s.calendar := rfl

@[simp] theorem setWorker_workers (s : State) (w : WorkerRecord) :
    (setWorker w s).workers = replaceWorker w s.workers := rfl

@[simp] theorem setWorker_loops (s : State) (w : WorkerRecord) : (setWorker w s).loops = s.loops := rfl

@[simp] theorem setWorker_punch (s : State) (w : WorkerRecord) : (setWorker w s).punch = s.punch := rfl

@[simp] theorem setWorker_gates (s : State) (w : WorkerRecord) : (setWorker w s).gates = s.gates := rfl

@[simp] theorem setWorker_fire (s : State) (w : WorkerRecord) : (setWorker w s).fire = s.fire := rfl

@[simp] theorem setWorker_journal (s : State) (w : WorkerRecord) : (setWorker w s).journal = s.journal := rfl

@[simp] theorem setWorker_period (s : State) (w : WorkerRecord) : (setWorker w s).period = s.period := rfl

@[simp] theorem setWorker_bells (s : State) (w : WorkerRecord) : (setWorker w s).bells = s.bells := rfl

@[simp] theorem setWorker_supply (s : State) (w : WorkerRecord) : (setWorker w s).supply = s.supply := rfl

@[simp] theorem setWorker_link (s : State) (w : WorkerRecord) : (setWorker w s).link = s.link := rfl

@[simp] theorem setWorker_pending (s : State) (w : WorkerRecord) : (setWorker w s).pending = s.pending := rfl

/-! ## A report queued -/

@[simp] theorem queueReport_time (s : State) (r : Report) : (queueReport r s).time = s.time := rfl

@[simp] theorem queueReport_follower (s : State) (r : Report) : (queueReport r s).follower = s.follower := rfl

@[simp] theorem queueReport_calendar (s : State) (r : Report) : (queueReport r s).calendar = s.calendar := rfl

@[simp] theorem queueReport_workers (s : State) (r : Report) : (queueReport r s).workers = s.workers := rfl

@[simp] theorem queueReport_loops (s : State) (r : Report) : (queueReport r s).loops = s.loops := rfl

@[simp] theorem queueReport_punch (s : State) (r : Report) : (queueReport r s).punch = s.punch := rfl

@[simp] theorem queueReport_gates (s : State) (r : Report) : (queueReport r s).gates = s.gates := rfl

@[simp] theorem queueReport_fire (s : State) (r : Report) : (queueReport r s).fire = s.fire := rfl

@[simp] theorem queueReport_journal (s : State) (r : Report) : (queueReport r s).journal = s.journal := rfl

@[simp] theorem queueReport_period (s : State) (r : Report) : (queueReport r s).period = s.period := rfl

@[simp] theorem queueReport_bells (s : State) (r : Report) : (queueReport r s).bells = s.bells := rfl

@[simp] theorem queueReport_supply (s : State) (r : Report) : (queueReport r s).supply = s.supply := rfl

@[simp] theorem queueReport_link (s : State) (r : Report) :
    (queueReport r s).link = s.link.queue r := rfl

@[simp] theorem queueReport_pending (s : State) (r : Report) : (queueReport r s).pending = s.pending := rfl

/-! ## A request held with its reply -/

@[simp] theorem hold_time (s : State) (k tag : Nat) (r : Reply) : (hold k tag r s).time = s.time := rfl

@[simp] theorem hold_follower (s : State) (k tag : Nat) (r : Reply) : (hold k tag r s).follower = s.follower := rfl

@[simp] theorem hold_calendar (s : State) (k tag : Nat) (r : Reply) : (hold k tag r s).calendar = s.calendar := rfl

@[simp] theorem hold_workers (s : State) (k tag : Nat) (r : Reply) : (hold k tag r s).workers = s.workers := rfl

@[simp] theorem hold_loops (s : State) (k tag : Nat) (r : Reply) : (hold k tag r s).loops = s.loops := rfl

@[simp] theorem hold_punch (s : State) (k tag : Nat) (r : Reply) : (hold k tag r s).punch = s.punch := rfl

@[simp] theorem hold_gates (s : State) (k tag : Nat) (r : Reply) : (hold k tag r s).gates = s.gates := rfl

@[simp] theorem hold_fire (s : State) (k tag : Nat) (r : Reply) : (hold k tag r s).fire = s.fire := rfl

@[simp] theorem hold_journal (s : State) (k tag : Nat) (r : Reply) : (hold k tag r s).journal = s.journal := rfl

@[simp] theorem hold_period (s : State) (k tag : Nat) (r : Reply) : (hold k tag r s).period = s.period := rfl

@[simp] theorem hold_bells (s : State) (k tag : Nat) (r : Reply) : (hold k tag r s).bells = s.bells := rfl

@[simp] theorem hold_supply (s : State) (k tag : Nat) (r : Reply) : (hold k tag r s).supply = s.supply := rfl

@[simp] theorem hold_link (s : State) (k tag : Nat) (r : Reply) :
    (hold k tag r s).link = { s.link with held := some ⟨k, tag, r⟩, partialFrame := [] } := rfl

@[simp] theorem hold_pending (s : State) (k tag : Nat) (r : Reply) : (hold k tag r s).pending = s.pending := rfl

/-! ## A request answered -/

@[simp] theorem State.answered_time (s : State) (k tag : Nat) (r : Result) (c : Content) : (s.answered k tag r c).time = s.time := rfl

@[simp] theorem State.answered_follower (s : State) (k tag : Nat) (r : Result) (c : Content) : (s.answered k tag r c).follower = s.follower := rfl

@[simp] theorem State.answered_calendar (s : State) (k tag : Nat) (r : Result) (c : Content) : (s.answered k tag r c).calendar = s.calendar := rfl

@[simp] theorem State.answered_workers (s : State) (k tag : Nat) (r : Result) (c : Content) : (s.answered k tag r c).workers = s.workers := rfl

@[simp] theorem State.answered_loops (s : State) (k tag : Nat) (r : Result) (c : Content) : (s.answered k tag r c).loops = s.loops := rfl

@[simp] theorem State.answered_punch (s : State) (k tag : Nat) (r : Result) (c : Content) : (s.answered k tag r c).punch = s.punch := rfl

@[simp] theorem State.answered_gates (s : State) (k tag : Nat) (r : Result) (c : Content) : (s.answered k tag r c).gates = s.gates := rfl

@[simp] theorem State.answered_fire (s : State) (k tag : Nat) (r : Result) (c : Content) : (s.answered k tag r c).fire = s.fire := rfl

@[simp] theorem State.answered_journal (s : State) (k tag : Nat) (r : Result) (c : Content) : (s.answered k tag r c).journal = s.journal := rfl

@[simp] theorem State.answered_period (s : State) (k tag : Nat) (r : Result) (c : Content) : (s.answered k tag r c).period = s.period := rfl

@[simp] theorem State.answered_bells (s : State) (k tag : Nat) (r : Result) (c : Content) : (s.answered k tag r c).bells = s.bells := rfl

@[simp] theorem State.answered_supply (s : State) (k tag : Nat) (r : Result) (c : Content) : (s.answered k tag r c).supply = s.supply := rfl

@[simp] theorem State.answered_link (s : State) (k tag : Nat) (r : Result) (c : Content) :
    (s.answered k tag r c).link = { s.link with held := some ⟨k, tag, ⟨r, c⟩⟩, partialFrame := [] } := rfl

@[simp] theorem State.answered_pending (s : State) (k tag : Nat) (r : Result) (c : Content) : (s.answered k tag r c).pending = s.pending := rfl

/-! ## A request overrun -/

@[simp] theorem overrun_time (s : State) : (overrun s).time = s.time := rfl

@[simp] theorem overrun_follower (s : State) : (overrun s).follower = s.follower := rfl

@[simp] theorem overrun_calendar (s : State) : (overrun s).calendar = s.calendar := rfl

@[simp] theorem overrun_workers (s : State) : (overrun s).workers = s.workers := rfl

@[simp] theorem overrun_loops (s : State) : (overrun s).loops = s.loops := rfl

@[simp] theorem overrun_punch (s : State) : (overrun s).punch = s.punch := rfl

@[simp] theorem overrun_gates (s : State) : (overrun s).gates = s.gates := rfl

@[simp] theorem overrun_fire (s : State) : (overrun s).fire = s.fire := rfl

@[simp] theorem overrun_journal (s : State) : (overrun s).journal = s.journal := rfl

@[simp] theorem overrun_period (s : State) : (overrun s).period = s.period := rfl

@[simp] theorem overrun_bells (s : State) : (overrun s).bells = s.bells := rfl

@[simp] theorem overrun_supply (s : State) : (overrun s).supply = s.supply := rfl

@[simp] theorem overrun_link (s : State) :
    (overrun s).link = { s.link with overrun := true, partialFrame := [] } := rfl

@[simp] theorem overrun_pending (s : State) : (overrun s).pending = s.pending := rfl

/-! ## The waiting commands replaced -/

@[simp] theorem State.withPending_time (s : State) (q : List Instr) : (s.withPending q).time = s.time := rfl

@[simp] theorem State.withPending_follower (s : State) (q : List Instr) : (s.withPending q).follower = s.follower := rfl

@[simp] theorem State.withPending_calendar (s : State) (q : List Instr) : (s.withPending q).calendar = s.calendar := rfl

@[simp] theorem State.withPending_workers (s : State) (q : List Instr) : (s.withPending q).workers = s.workers := rfl

@[simp] theorem State.withPending_loops (s : State) (q : List Instr) : (s.withPending q).loops = s.loops := rfl

@[simp] theorem State.withPending_punch (s : State) (q : List Instr) : (s.withPending q).punch = s.punch := rfl

@[simp] theorem State.withPending_gates (s : State) (q : List Instr) : (s.withPending q).gates = s.gates := rfl

@[simp] theorem State.withPending_fire (s : State) (q : List Instr) : (s.withPending q).fire = s.fire := rfl

@[simp] theorem State.withPending_journal (s : State) (q : List Instr) : (s.withPending q).journal = s.journal := rfl

@[simp] theorem State.withPending_period (s : State) (q : List Instr) : (s.withPending q).period = s.period := rfl

@[simp] theorem State.withPending_bells (s : State) (q : List Instr) : (s.withPending q).bells = s.bells := rfl

@[simp] theorem State.withPending_supply (s : State) (q : List Instr) : (s.withPending q).supply = s.supply := rfl

@[simp] theorem State.withPending_link (s : State) (q : List Instr) : (s.withPending q).link = s.link := rfl

@[simp] theorem State.withPending_pending (s : State) (q : List Instr) :
    (s.withPending q).pending = q := rfl

/-! ## Banks of like units -/

theorem vector_getD_setIfInBounds {α : Type} {n : Nat} (v : Vector α n) (i j : Nat) (x d : α) :
    (v.setIfInBounds i x).getD j d = if j = i ∧ i < n then x else v.getD j d := by
  by_cases hj : j < n
  · by_cases h : j = i
    · subst h; simp [Vector.getD, hj]
    · simp [Vector.getD, hj, h, Ne.symm h]
  · have : ¬ (j = i ∧ i < n) := fun h => hj (h.1 ▸ h.2)
    simp [Vector.getD, hj, this]

theorem vector_getD_mapUnits {α : Type} {n : Nat} (f : Nat → α → α) (v : Vector α n) (i : Nat) (d : α) (h : i < n) :
    (mapUnits f v).getD i d = f i (v.getD i d) := by
  simp [mapUnits, Vector.getD, h]

/-- What gate `h` is after gate `g` has been replaced. -/
theorem State.gateAt_setGate (s : State) (g h : Nat) (x : Gate) :
    (s.setGate g x).gateAt h = if h = g ∧ g < 16 then x else s.gateAt h :=
  vector_getD_setIfInBounds ..

@[simp] theorem State.setGate_self (s : State) (g : Nat) : s.setGate g (s.gateAt g) = s := by
  unfold State.setGate State.gateAt
  have h : s.gates.setIfInBounds g (s.gates.getD g Gate.cold) = s.gates := by
    apply Vector.ext; intro i hi
    rw [Vector.getElem_setIfInBounds]
    split
    · subst_vars; simp [Vector.getD, hi]
    · rfl
  simp [h]

@[simp] theorem State.gateAt_setGate_self (s : State) (g : Fin 16) (x : Gate) : (s.setGate g x).gateAt g = x := by
  simp [State.gateAt_setGate]

@[simp] theorem State.loopAt_setGate (s : State) (g l : Nat) (x : Gate) : (s.setGate g x).loopAt l = s.loopAt l := rfl

/-- What loop `m` is after loop `l` has been replaced. -/
theorem State.loopAt_setLoop (s : State) (l m : Nat) (x : LoopState) :
    (s.setLoop l x).loopAt m = if m = l ∧ l < 4 then x else s.loopAt m :=
  vector_getD_setIfInBounds ..

@[simp] theorem State.loopAt_setLoop_self (s : State) (l : Fin 4) (x : LoopState) : (s.setLoop l x).loopAt l = x := by
  simp [State.loopAt_setLoop]

@[simp] theorem State.gateAt_setLoop (s : State) (g l : Nat) (x : LoopState) : (s.setLoop l x).gateAt g = s.gateAt g := rfl

/-- What zone `y` is after zone `z` has been replaced. -/
theorem Bells.zoneAt_setZone (b : Bells) (z y : Nat) (x : Zone) :
    (b.setZone z x).zoneAt y = if y = z ∧ z < 4 then x else b.zoneAt y :=
  vector_getD_setIfInBounds ..

/-- A gate by its number and as a member of the bank. -/
theorem State.gateAt_fin (s : State) (g : Fin 16) : s.gateAt g = s.gates[g] := by
  simp [State.gateAt, Vector.getD]

/-- A loop by its number and as a member of the bank. -/
theorem State.loopAt_fin (s : State) (l : Fin 4) : s.loopAt l = s.loops[l] := by
  simp [State.loopAt, Vector.getD]

/-- A zone by its number and as a member of the bank. -/
theorem Bells.zoneAt_fin (b : Bells) (z : Fin 4) : b.zoneAt z = b.zones[z] := by
  simp [Bells.zoneAt, Vector.getD]

end Sys2Proof.Machine
end

