-- ==== Sys2Proof/Laws/Ops.lean ====
section
/-! SUPPORT. What the operations shared by the blocks can do: taking a request, taking an event, queueing a report, writing the
journal, and changing a worker record. -/

namespace Sys2Proof.Machine

/-! ## Requests and events -/

theorem State.live_iff (s : State) : s.live = true ↔ s.Works := by
  simp [State.live, State.Works]

/-- Everything the taking of a request can do (R163, R165, R168). -/
theorem serve_cases (k tag : Nat) (f : State → State × Reply) (s : State) :
    (¬ s.Works ∧ serve k tag f s = .next s) ∨
    (s.Works ∧ s.link.held.isSome = true ∧ serve k tag f s = .next (overrun s)) ∨
    (s.Ready ∧ serve k tag f s = .next (hold k tag (f s).2 (f s).1)) := by
  by_cases hw : s.Works
  · have hl := s.live_iff.mpr hw
    cases hh : s.link.held with
    | none => exact .inr (.inr ⟨⟨hw, hh⟩, by simp [serve, hl, hh]⟩)
    | some h => exact .inr (.inl ⟨hw, rfl, by simp [serve, hl, hh]⟩)
  · have hl : s.live = false := by simpa using mt s.live_iff.mp hw
    exact .inl ⟨hw, by simp [serve, hl]⟩

theorem serve_ready {s : State} (h : s.Ready) (k tag : Nat) (f : State → State × Reply) :
    serve k tag f s = .next (hold k tag (f s).2 (f s).1) := by
  simp [serve, s.live_iff.mpr h.1, h.2]

theorem serve_not_working {s : State} (h : ¬ s.Works) (k tag : Nat) (f : State → State × Reply) :
    serve k tag f s = .next s := by
  have hl : s.live = false := by simpa using mt s.live_iff.mp h
  simp [serve, hl]

theorem whileLive_working {s : State} (h : s.Works) (f : State → State) : whileLive f s = .next (f s) := by
  simp [whileLive, s.live_iff.mpr h]

theorem whileLive_not_working {s : State} (h : ¬ s.Works) (f : State → State) : whileLive f s = .next s := by
  have hl : s.live = false := by simpa using mt s.live_iff.mp h
  simp [whileLive, hl]

/-- A request held with its reply, as the statements write it. -/
theorem hold_eq_answered (k tag : Nat) (r : Result) (c : Content) (s : State) : hold k tag ⟨r, c⟩ s = s.answered k tag r c := rfl

/-! ## Reports (R169) -/

@[simp] theorem StationLink.queue_held (l : StationLink) (r : Report) : (l.queue r).held = l.held := by
  unfold StationLink.queue; split <;> rfl

@[simp] theorem StationLink.queue_overrun (l : StationLink) (r : Report) : (l.queue r).overrun = l.overrun := by
  unfold StationLink.queue; split <;> rfl

@[simp] theorem StationLink.queue_partialFrame (l : StationLink) (r : Report) : (l.queue r).partialFrame = l.partialFrame := by
  unfold StationLink.queue; split <;> rfl

@[simp] theorem StationLink.queue_baud0 (l : StationLink) (r : Report) : (l.queue r).baud0 = l.baud0 := by
  unfold StationLink.queue; split <;> rfl

@[simp] theorem StationLink.queue_baud1 (l : StationLink) (r : Report) : (l.queue r).baud1 = l.baud1 := by
  unfold StationLink.queue; split <;> rfl

/-- The reports held stay, in their order, and the queue stays in its places. -/
theorem StationLink.queue_reports (l : StationLink) (r : Report) :
    l.reports <+: (l.queue r).reports ∧ (l.reports.length ≤ 32 → (l.queue r).reports.length ≤ 32) := by
  unfold StationLink.queue
  split
  · rename_i h
    exact ⟨List.prefix_append _ _, fun _ => by simp [Config.reportPlaces] at h ⊢; omega⟩
  · exact ⟨List.prefix_rfl, id⟩

/-- A byte laid on the line whole is taken as it was, with its stop bit (R167). -/
@[simp] theorem cellsData_wholeByte (b : Byte) : cellsData (wholeByte b) = b := by
  ext i h; simp [cellsData, wholeByte]

@[simp] theorem cellsStop_wholeByte (b : Byte) : cellsStop (wholeByte b) = true := by simp [cellsStop, wholeByte]

/-! ## The journal (R119 to R122) -/

/-- The limit detector touches the link alone. -/
theorem noteLimit_frame (s : State) : noteLimit s = { s with link := (noteLimit s).link } := by
  unfold noteLimit; split <;> [rfl; (split <;> rfl)]

/-- A claim touches the reserved count and the link alone. -/
theorem journalClaim_frame (s : State) :
    journalClaim s = { s with
      journal := { s.journal with reserved := s.journal.reserved + 1 }, link := (journalClaim s).link } :=
  noteLimit_frame { s with journal := { s.journal with reserved := s.journal.reserved + 1 } }

/-- A direct write touches the entries, the next number and the link alone. -/
theorem journalDirect_frame (e : JournalEntry) (s : State) :
    journalDirect e s = { s with journal := s.journal.write e, link := (journalDirect e s).link } :=
  noteLimit_frame { s with journal := s.journal.write e }

@[simp] theorem Journal.write_entries (j : Journal) (e : JournalEntry) :
    (j.write e).entries = j.entries ++ [{ e with number := j.nextNumber }] := rfl

@[simp] theorem Journal.write_reserved (j : Journal) (e : JournalEntry) : (j.write e).reserved = j.reserved := rfl

@[simp] theorem Journal.write_nextNumber (j : Journal) (e : JournalEntry) :
    (j.write e).nextNumber = (j.nextNumber + 1) % 65536 := rfl

/-! ## Worker records (R33, R41) -/

/-- The anomaly set with one anomaly in it and every other as it was. -/
theorem AnomalySet.has_add (s : AnomalySet) (a b : Anomaly) : (s.add a).has b = (s.has b || a == b) := by
  cases a <;> cases b <;> simp [AnomalySet.add, AnomalySet.has]

/-- Raising an anomaly changes the two sets and the changed mark alone. -/
theorem raise_frame (a : Anomaly) (owner : Option BankTag) (w : WorkerRecord) :
    raise a owner w = { w with
      pendingSet := w.pendingSet.add a
      changed := true
      current := if owner = some .current then w.current.addAnomaly a else w.current
      closing := if owner = some .closing then w.closing.addAnomaly a else w.closing } := by
  cases owner with
  | none => rfl
  | some t => cases t <;> rfl

/-- What a finalization does to a record: its banks, its pending set and its changed mark, and the attendance gone. -/
theorem finalizeRecord_frame (c : Calendar) (a : Attendance) (w : WorkerRecord) :
    finalizeRecord c a w = { w with
      attendance := none
      pendingSet := (finalizeRecord c a w).pendingSet
      changed := (finalizeRecord c a w).changed
      current := (finalizeRecord c a w).current
      closing := (finalizeRecord c a w).closing } := by
  unfold finalizeRecord creditAttendance raiseIf
  cases a.tag <;> dsimp only [WorkerRecord.onBank] <;> split <;> split <;> rfl

/-- What a finalization does outside the record: open references and the open-closing counter. -/
theorem releaseFinalized_frame (a : Attendance) (s : State) :
    releaseFinalized a s = { s with
      calendar := { s.calendar with openRefs := (releaseFinalized a s).calendar.openRefs }
      period := { s.period with counter := (releaseFinalized a s).period.counter } } := by
  unfold releaseFinalized Calendar.onRef
  cases a.kind <;> cases a.tag <;> rfl

theorem replaceWorker_badges (w : WorkerRecord) (ws : List WorkerRecord) :
    (replaceWorker w ws).map (·.badge) = ws.map (·.badge) := by
  unfold replaceWorker
  rw [List.map_map]
  refine List.map_congr_left fun x _ => ?_
  by_cases h : x.badge = w.badge <;> simp [h]

theorem installWorker_mem (w x : WorkerRecord) (ws : List WorkerRecord) : x ∈ installWorker w ws ↔ x = w ∨ x ∈ ws := by
  induction ws with
  | nil => simp [installWorker]
  | cons y rest ih =>
    unfold installWorker
    split
    · simp
    · simp [ih]; tauto

end Sys2Proof.Machine
end

