-- ==== Sys2Proof/Laws/Blocks.lean ====
section
/-! SUPPORT. What the larger shared operations leave alone: the standings applied at gates, a passage resolved, the stream delivered,
the bells submitted, and the minute event; and what the statements' own operations are. -/

namespace Sys2Proof.Machine

/-! ## Gates (R109, R93) -/

/-- Applying a standing touches gates and the link alone. -/
theorem applyStanding_frame (g : Nat) (s : State) :
    applyStanding g s = { s with gates := (applyStanding g s).gates, link := (applyStanding g s).link } := by
  unfold applyStanding clearAlarm gateAlarm
  dsimp only
  split
  · rfl
  · split
    · split <;> rfl
    · split
      · rfl
      · split <;> rfl

theorem applyStandings_frame (gs : List Nat) (s : State) :
    applyStandings gs s = { s with gates := (applyStandings gs s).gates, link := (applyStandings gs s).link } := by
  induction gs generalizing s with
  | nil => rfl
  | cons g rest ih =>
    have h : applyStandings (g :: rest) s = applyStandings rest (applyStanding g s) := rfl
    rw [h, ih, applyStanding_frame]

/-- A void touches the journal and the worker table alone. -/
theorem voidPassage_frame (g : Nat) (p : Passage) (restart : Bool) (s : State) :
    voidPassage g p restart s = { s with
      journal := (voidPassage g p restart s).journal, workers := (voidPassage g p restart s).workers } := by
  unfold voidPassage
  dsimp only
  split <;> rfl

/-! ## The close stream (R147) -/

/-- Delivery touches the Period Unit's cursor and state alone, and gives at most `k` records. -/
theorem deliver_frame (k : Nat) (s : State) :
    (deliver k s).1 = { s with period := { s.period with
      state := (deliver k s).1.period.state, cursor := (deliver k s).1.period.cursor
      cursorBadge := (deliver k s).1.period.cursorBadge } } ∧ (deliver k s).2.length ≤ k := by
  induction k generalizing s with
  | zero => exact ⟨rfl, Nat.le_refl 0⟩
  | succ k ih =>
    unfold deliver
    cases s.streamNext with
    | none => exact ⟨rfl, Nat.zero_le _⟩
    | some x =>
      obtain ⟨h1, h2⟩ := ih { s with period := { s.period with
        cursor := s.period.cursor + 1, cursorBadge := x.2
        state := if s.period.cursor == s.period.recordCount then .drained else s.period.state } }
      exact ⟨by rw [h1], by simpa using h2⟩

/-! ## Bells (R158) -/

/-- A submission touches its zone alone. -/
theorem Bells.submit_frame (b : Bells) (z c : Nat) (cls : BellClass) :
    b.submit z c cls = { b with zones := (b.submit z c cls).zones } ∧
      ∀ y, y ≠ z → (b.submit z c cls).zoneAt y = b.zoneAt y :=
  ⟨rfl, fun y h => by simp [Bells.submit, Bells.zoneAt_setZone, h]⟩

/-- Joining a queue adds one entry. -/
theorem joinQueue_length (q : QueuedBell) (l : List QueuedBell) : (joinQueue q l).length = l.length + 1 := by
  induction l with
  | nil => rfl
  | cons x rest ih => unfold joinQueue; split <;> simp [ih]

/-- Joining a queue keeps it in descending order of class. -/
theorem joinQueue_ordered (q : QueuedBell) (l : List QueuedBell) (h : l.Pairwise fun a b => b.cls.rank ≤ a.cls.rank) :
    (joinQueue q l).Pairwise fun a b => b.cls.rank ≤ a.cls.rank := by
  have mem : ∀ (l : List QueuedBell) x, x ∈ joinQueue q l ↔ x = q ∨ x ∈ l := by
    intro l
    induction l with
    | nil => simp [joinQueue]
    | cons y rest ih => intro x; unfold joinQueue; split <;> simp [ih]; tauto
  induction l with
  | nil => simp [joinQueue]
  | cons y rest ih =>
    obtain ⟨h1, h2⟩ := List.pairwise_cons.mp h
    unfold joinQueue
    split
    · refine List.pairwise_cons.mpr ⟨fun x hx => ?_, ih h2⟩
      obtain rfl | hx := (mem rest x).mp hx
      · assumption
      · exact h1 x hx
    · refine List.pairwise_cons.mpr ⟨fun x hx => ?_, h⟩
      obtain rfl | hx := List.mem_cons.mp hx
      · omega
      · have := h1 x hx; omega

/-! ## The minute event and the follower (R3, R16) -/

/-- Auto-close touches the worker table, the open references and the open-closing counter alone. -/
theorem autoClose_frame (now : Nat) (s : State) :
    autoClose now s = { s with
      workers := (autoClose now s).workers
      calendar := { s.calendar with openRefs := (autoClose now s).calendar.openRefs }
      period := { s.period with counter := (autoClose now s).period.counter } } := by
  have one : ∀ (s : State) (w : WorkerRecord), autoCloseOne now s w = { s with
      workers := (autoCloseOne now s w).workers
      calendar := { s.calendar with openRefs := (autoCloseOne now s w).calendar.openRefs }
      period := { s.period with counter := (autoCloseOne now s w).period.counter } } := by
    intro s w
    unfold autoCloseOne
    split
    · rfl
    · split
      · unfold setWorker
        rw [releaseFinalized_frame]
      · rfl
  have all : ∀ (l : List WorkerRecord) (s : State), l.foldl (autoCloseOne now) s = { s with
      workers := (l.foldl (autoCloseOne now) s).workers
      calendar := { s.calendar with openRefs := (l.foldl (autoCloseOne now) s).calendar.openRefs }
      period := { s.period with counter := (l.foldl (autoCloseOne now) s).period.counter } } := by
    intro l
    induction l with
    | nil => intro s; rfl
    | cons w rest ih =>
      intro s
      rw [List.foldl_cons, ih, one]
  exact all s.workers s

/-- A change of the follower's state touches the follower and the link alone (R16). -/
theorem followerEvent_frame (cause : ClockCause) (f : Follower) (s : State) :
    followerEvent cause f s = { s with follower := f, link := (followerEvent cause f s).link } := rfl

/-- What a line's qualifier does at a line active for its span: nothing while it is held, and otherwise one impulse with the line held
from then on (R8). -/
theorem qualifyImpulse_cases (l : ActiveLine) (s : State) :
    (s.follower.held l.line = true ∧ l.rearmed = false ∧ qualifyImpulse l s = s) ∨
      ((s.follower.held l.line = false ∨ l.rearmed = true) ∧
        qualifyImpulse l s = takeImpulse l.line { s with follower := s.follower.hold l.line }) := by
  unfold qualifyImpulse
  cases s.follower.held l.line <;> cases l.rearmed <;> simp

@[simp] theorem Follower.held_hold (f : Follower) (l m : MasterLine) : (f.hold l).held m = (f.held m || m == l) := by
  cases l <;> cases m <;> simp [Follower.hold, Follower.held]

@[simp] theorem Gate.pulseHeld_holdPulse (x : Gate) (d e : Direction) :
    (x.holdPulse d).pulseHeld e = (x.pulseHeld e || e == d) := by
  cases d <;> cases e <;> simp [Gate.holdPulse, Gate.pulseHeld]

/-- A second event of a part that does not work counts one second and touches no correction but the mark, which is NONE (R17, R163). -/
theorem Timebase.secondEvent_coast (t : Timebase) :
    t.secondEvent false = { t.advance 1 with divider := t.reload, mark := .none } := rfl

/-- The minute event touches the worker table, the open reference counts, the open-closing counter and the bells alone (R3). -/
theorem minuteEvent_frame (s : State) :
    minuteEvent s = { s with
      workers := (minuteEvent s).workers
      calendar := { s.calendar with openRefs := (minuteEvent s).calendar.openRefs }
      period := { s.period with counter := (minuteEvent s).period.counter }
      bells := (minuteEvent s).bells } := by
  unfold minuteEvent
  dsimp only
  split
  · rw [autoClose_frame]
  · rfl

/-! ## Commits (R90 to R93) -/

/-- A finalization inside a commit touches the open reference counts and the open-closing counter alone (R39, R139). -/
theorem finalizeWork_frame (a : Attendance) (x : CommitWork) :
    (finalizeWork a x).state = { x.state with
      calendar := { x.state.calendar with openRefs := (finalizeWork a x).state.calendar.openRefs }
      period := { x.state.period with counter := (finalizeWork a x).state.period.counter } } :=
  releaseFinalized_frame a x.state

theorem openEntry_frame (tm : Nat) (soft : Bool) (x : CommitWork) :
    (openEntry tm soft x).state = { x.state with
      calendar := { x.state.calendar with openRefs := (openEntry tm soft x).state.calendar.openRefs } } := by
  unfold openEntry Calendar.onRef
  split
  · rfl
  · split <;> rfl

theorem finalizeLate_frame (a : Attendance) (x : CommitWork) :
    (finalizeLate a x).state = { x.state with
      calendar := { x.state.calendar with openRefs := (finalizeLate a x).state.calendar.openRefs }
      period := { x.state.period with counter := (finalizeLate a x).state.period.counter } } := by
  unfold finalizeLate
  split <;> exact releaseFinalized_frame _ _

/-- A commit's work touches the open reference counts, the open-closing counter and the record in hand alone (R90, R91). -/
theorem commitWork_frame (g : Nat) (p : Passage) (unrecorded : Bool) (x : CommitWork) :
    (commitWork g p unrecorded x).state = { x.state with
      calendar := { x.state.calendar with openRefs := (commitWork g p unrecorded x).state.calendar.openRefs }
      period := { x.state.period with counter := (commitWork g p unrecorded x).state.period.counter } } := by
  unfold commitWork
  cases p.direction with
  | inward =>
    unfold commitEntry
    cases x.worker.attendance with
    | none => dsimp only; rw [openEntry_frame]
    | some a =>
      dsimp only
      split
      · rw [openEntry_frame, finalizeLate_frame]
      · split <;> rfl
  | outward =>
    unfold commitExit
    cases x.worker.attendance with
    | none => rfl
    | some a =>
      dsimp only
      split
      · split
        · rw [finalizeWork_frame]
        · rfl
      · rfl

/-- A commit touches the journal, the worker table, the open reference counts and the open-closing counter alone (R92). -/
theorem commitPunch_frame (g : Nat) (p : Passage) (entry : Option JournalOutcome) (ofPassage : Bool) (w : WorkerRecord) (s : State) :
    commitPunch g p entry ofPassage w s = { s with
      journal := (commitPunch g p entry ofPassage w s).journal
      workers := (commitPunch g p entry ofPassage w s).workers
      calendar := { s.calendar with openRefs := (commitPunch g p entry ofPassage w s).calendar.openRefs }
      period := { s.period with counter := (commitPunch g p entry ofPassage w s).period.counter } } := by
  unfold commitPunch completeCommit
  have h := commitWork_frame g p entry.isNone ⟨s, w⟩
  revert h
  generalize commitWork g p entry.isNone ⟨s, w⟩ = y
  intro h
  obtain ⟨t, v⟩ := y
  dsimp only at h ⊢
  rw [h]
  cases entry <;> rfl

/-- A passage resolved, by commit or by void, touches what a commit touches (R93). -/
theorem resolvePassage_frame (g : Nat) (p : Passage) (cause : Resolution) (s : State) :
    resolvePassage g p cause s = { s with
      journal := (resolvePassage g p cause s).journal
      workers := (resolvePassage g p cause s).workers
      calendar := { s.calendar with openRefs := (resolvePassage g p cause s).calendar.openRefs }
      period := { s.period with counter := (resolvePassage g p cause s).period.counter } } := by
  have void : ∀ restart, voidPassage g p restart s = { s with
      journal := (voidPassage g p restart s).journal
      workers := (voidPassage g p restart s).workers
      calendar := { s.calendar with openRefs := (voidPassage g p restart s).calendar.openRefs }
      period := { s.period with counter := (voidPassage g p restart s).period.counter } } := by
    intro restart; rw [voidPassage_frame]
  have commit : ∀ outcome, commitPassage g p outcome s = { s with
      journal := (commitPassage g p outcome s).journal
      workers := (commitPassage g p outcome s).workers
      calendar := { s.calendar with openRefs := (commitPassage g p outcome s).calendar.openRefs }
      period := { s.period with counter := (commitPassage g p outcome s).period.counter } } := by
    intro outcome
    unfold commitPassage
    cases s.worker p.badge with
    | none => rfl
    | some w => exact commitPunch_frame _ _ _ _ _ _
  unfold resolvePassage
  cases cause <;> cases p.direction <;> first | exact commit _ | exact void _

/-! ## What the statements' helpers leave alone -/

@[simp] theorem sentCells_length (sent : Nat) (line : List Bool) : (sentCells sent line).length = sent := by
  simp [sentCells]

/-- A line that gives the whole TEST frame is listened to as it stands, whatever follows the last sent cell (R75). -/
theorem sentCells_append (cells rest : List Bool) : sentCells cells.length (cells ++ rest) = cells := by
  simp [sentCells]

/-- The receiver after a whole TEST frame that is not in a frame there: what its cells gave, or aborted (R75). -/
theorem receiveTest_outside {k : Listening} {cells : List Bool} (rest : List Bool) (h : (Receiver.receive k cells).inFrame = false) :
    receiveTest k cells.length (cells ++ rest) =
      if (Receiver.receive k cells).result = .pending then (Receiver.receive k cells).settle .aborted else Receiver.receive k cells := by
  unfold receiveTest
  simp only [sentCells_append, h]
  simp

@[simp] theorem Gate.under_config (x : Gate) (d : Standing) : (x.under d).config = x.config := by
  unfold Gate.under; repeat' split
  all_goals rfl

@[simp] theorem Gate.under_contactOpen (x : Gate) (d : Standing) : (x.under d).contactOpen = x.contactOpen := by
  unfold Gate.under; repeat' split
  all_goals rfl

/-- A standing leaves a turnstile's gate as it is (R109). -/
theorem Gate.under_turnstile {x : Gate} (h : x.config.kind = .turnstile) (d : Standing) : x.under d = x := by
  simp [Gate.under, h]

@[simp] theorem StationLink.alarmEnded_held (l : StationLink) (g : Nat) (x y : Gate) (now : Nat) :
    (l.alarmEnded g x y now).held = l.held := by
  unfold StationLink.alarmEnded; repeat' split
  all_goals simp

/-- The meaning's raise of an anomaly is the statements' (R40). -/
theorem raise_eq_raised (a : Anomaly) (owner : Option BankTag) (w : WorkerRecord) :
    raise a owner w = w.raised owner fun x => x.add a := by
  rcases owner with _ | (_ | _) <;> rfl

/-! ## Standings (R69, R109, R110): the meaning's fold is the statements' -/

/-- One gate's standing applied is its `Gate.under`, with the CLEARED report of the alarm that ends (R109, R110). -/
theorem applyStanding_eq (g : Nat) (s : State) :
    applyStanding g s = { s.setGate g ((s.gateAt g).under (s.standing g)) with
      link := s.link.alarmEnded g (s.gateAt g) ((s.gateAt g).under (s.standing g)) (s.time.day * 86400 + s.time.second) } := by
  have same := State.setGate_self s g
  unfold applyStanding Gate.under StationLink.alarmEnded clearAlarm gateAlarm queueReport Gate.rest Gate.setFree
  dsimp only
  cases hk : (s.gateAt g).config.kind <;> cases hh : (s.gateAt g).hinged <;> by_cases hs : s.standing g = .nothing <;>
    simp [hk, hh, hs, same]
  all_goals rfl

/-- A standing is read from the loops, the fire state, and the gate's mode and configuration alone (R98). -/
theorem standing_congr {s t : State} (g : Nat) (hl : t.loops = s.loops) (hf : t.fire = s.fire)
    (hm : (t.gateAt g).mode = (s.gateAt g).mode) (hc : (t.gateAt g).config = (s.gateAt g).config) : t.standing g = s.standing g := by
  simp [State.standing, State.cutOff, hl, hf, hm, hc]

/-- The standings applied at different gates, each from the part as it stood (R109, R110). -/
theorem applyStandings_eq (gs : List Nat) (hn : gs.Nodup) (s : State) :
    applyStandings gs s = { s with
      gates := gs.foldl (fun v g => v.setIfInBounds g ((s.gateAt g).under (s.standing g))) s.gates
      link := gs.foldl (fun k g => k.alarmEnded g (s.gateAt g) ((s.gateAt g).under (s.standing g))
        (s.time.day * 86400 + s.time.second)) s.link } := by
  induction gs generalizing s with
  | nil => rfl
  | cons g rest ih =>
    obtain ⟨hg, hr⟩ := List.nodup_cons.mp hn
    have e : applyStandings (g :: rest) s = applyStandings rest (applyStanding g s) := rfl
    rw [e, ih hr, applyStanding_eq]
    have far : ∀ h ∈ rest, ∀ k : StationLink,
        ({ s.setGate g ((s.gateAt g).under (s.standing g)) with link := k } : State).gateAt h = s.gateAt h := by
      intro h hh k
      have : h ≠ g := fun c => hg (c ▸ hh)
      exact (State.gateAt_setGate s g h _).trans (by simp [this])
    have still : ∀ h ∈ rest, ∀ k : StationLink,
        ({ s.setGate g ((s.gateAt g).under (s.standing g)) with link := k } : State).standing h = s.standing h := by
      intro h hh k
      exact standing_congr h rfl rfl (by rw [far h hh]) (by rw [far h hh])
    congr 1
    · exact List.foldl_ext _ _ _ fun v h hh => by rw [far h hh, still h hh]
    · exact List.foldl_ext _ _ _ fun v h hh => by rw [far h hh, still h hh]; rfl

/-- Units set at several places, each to a value of its own. -/
theorem getElem_foldl_setIfInBounds {α : Type} {n : Nat} (f : Nat → α) (gs : List Nat) (v : Vector α n) (i : Nat) (hi : i < n) :
    (gs.foldl (fun v g => v.setIfInBounds g (f g)) v)[i] = if i ∈ gs then f i else v[i] := by
  induction gs generalizing v with
  | nil => simp
  | cons g rest ih =>
    rw [List.foldl_cons, ih, Vector.getElem_setIfInBounds]
    by_cases h : i ∈ rest
    · simp [h]
    · by_cases e : g = i
      · subst e; simp [h]
      · have e' : ¬ i = g := fun c => e c.symm
        simp [h, e, e']

/-- No alarm ends at a gate that stays as it is (R110). -/
@[simp] theorem StationLink.alarmEnded_self (l : StationLink) (g : Nat) (x : Gate) (now : Nat) : l.alarmEnded g x x now = l := by
  unfold StationLink.alarmEnded
  split
  · rename_i h; obtain ⟨h1, h2 | h2⟩ := h
    · exact absurd h1 h2
    · exact absurd rfl h2
  · rfl

/-- The standings applied at the gates of a test are those of the statements (R69, R109, R110). -/
theorem applyStandings_filter (learns : Nat → Bool) (s : State) :
    applyStandings (allGates.filter learns) s = s.standingsTaken fun g => learns g := by
  have distinct : (allGates.filter learns).Nodup := List.Nodup.filter _ (List.nodup_range (n := 16))
  rw [applyStandings_eq _ distinct]
  unfold State.standingsTaken
  congr 1
  · apply Vector.ext
    intro i hi
    rw [getElem_foldl_setIfInBounds (fun g => (s.gateAt g).under (s.standing g))]
    have at_i : s.gateAt i = s.gates[i] := State.gateAt_fin s ⟨i, hi⟩
    simp [allGates, hi, at_i]
  · have names : allGates = (List.finRange 16).map fun g => g.val := by decide
    rw [List.foldl_filter, names, List.foldl_map]
    refine List.foldl_ext _ _ _ fun k g _ => ?_
    rw [State.gateAt_fin]
    by_cases h : learns g = true <;> simp [h]

@[simp] theorem State.standingsTaken_fire (s : State) (learns : Fin 16 → Bool) : (s.standingsTaken learns).fire = s.fire := rfl

@[simp] theorem State.standingsTaken_loops (s : State) (learns : Fin 16 → Bool) : (s.standingsTaken learns).loops = s.loops := rfl

@[simp] theorem State.standingsTaken_gate (s : State) (learns : Fin 16 → Bool) (g : Fin 16) :
    (s.standingsTaken learns).gates[g] = if learns g then s.gates[g].under (s.standing g) else s.gates[g] := by
  simp [State.standingsTaken]

/-- A change delivered to the gates of a loop whose bindings stand is the statements' (R64, R69). -/
theorem deliverToGates_eq (l : Fin 4) (y : LoopState) (reports : List Report) (s : State)
    (h : ∀ g, (s.loopAt l).binds g = y.binds g) :
    deliverToGates l { s.setLoop l y with link := reports.foldl StationLink.queue s.link } = s.loopMoved l y reports := by
  unfold deliverToGates LoopState.boundGates
  have at_l : ({ s.setLoop l y with link := reports.foldl StationLink.queue s.link } : State).loopAt l = y := State.loopAt_setLoop_self s l y
  rw [at_l, applyStandings_filter]
  unfold State.loopMoved
  congr 1
  funext g
  simp [h]

end Sys2Proof.Machine
end

