-- ==== Sys2Proof/Tests/Slice0.lean ====
section
/-! SUPPORT. Tests: commands no frame can carry are refused by WellFormed, the manual's worked cases and formulas give the manual's
figures, and each statement's hypotheses are met by a concrete part (the theorems named witness). -/

namespace Sys2Proof.Tests

open Sys2Proof Sys2Proof.Machine

/-! ## Ill-formed commands (R167, R173) -/

theorem test_ill_tag : WellFormed (.restart 256) = false := by decide
theorem test_ill_clock_second : WellFormed (.clockSet 1 9000 16777216) = false := by decide
theorem test_ill_trim : WellFormed (.clockConfig 1 true 5 128) = false := by decide
theorem test_ill_badge : WellFormed (.workerGet 1 16777216) = false := by decide
theorem test_ill_pattern : WellFormed (.crewDefine 1 3 1 0 [256]) = false := by decide
theorem test_ill_count : WellFormed (.rateSet 1 (List.replicate 256 ⟨0, 0⟩)) = false := by decide +kernel
theorem test_ill_gate : WellFormed (.gateConfig 1 256 ⟨0, 5, 30, 0, 0, none⟩ false false) = false := by decide
theorem test_ill_partner : WellFormed (.gateConfig 1 0 ⟨0, 5, 30, 0, 0, some 256⟩ false false) = false := by decide
theorem test_ill_step : WellFormed (.cadenceDefine 1 1 [⟨0, 256⟩] 1) = false := by decide
theorem test_ill_day : WellFormed (.calendarReadDay 1 1 65536) = false := by decide
theorem test_well_formed : WellFormed (.clockSet 255 65535 16777215) = true := by decide

/-! ## A plant: the calendar of the worked cases 2.8, 2.9 and 8.7 -/

/-- Code 3, the night shift (2.8, 8.7). -/
def night : ShiftDef := ⟨1320, 480, 60, 5, 5, 15, 20, 240, 300, [⟨240, 30⟩], 10, 5, 3, 2⟩

/-- Code 1, the early shift (2.9). -/
def early : ShiftDef := ⟨360, 480, 30, 5, 5, 15, 20, 240, 300, [], 10, 5, 3, 2⟩

/-- The calendar of crews 3 and 5 (2.8, 2.9), with the tally parameters and the rate of 8.7. -/
def calendar : Calendar :=
  { Calendar.cold with
    shifts := (Calendar.cold.shifts.setIfInBounds 0 (some early)).setIfInBounds 2 (some night)
    rotations := (Calendar.cold.rotations.setIfInBounds 2 ⟨8996, [1, 1, 1, 3, 3, 3, 0]⟩).setIfInBounds 4 ⟨9000, [3, 1]⟩
    tally := ⟨1320, 360, 12, 2, 15, 240, 720⟩
    rates := Calendar.cold.rates.setIfInBounds 6 2460 }

/-- The attendance of Table 8.2, open in its second segment. -/
def inShift : Attendance :=
  ⟨.scheduled 3 12961800, 12961320, .current, some 3, [⟨12961327, some 12961510⟩, ⟨12961524, none⟩]⟩

/-- The attendance of Table 8.2 at its finalization. -/
def worked : Attendance := { inShift with segments := [⟨12961327, some 12961510⟩, ⟨12961524, some 12961841⟩] }

/-- A worker outside, with no attendance. -/
def outside (badge : Nat) : WorkerRecord :=
  ⟨badge, .active, none, some 3, 6, 0xFFFF#16, false, true, .outside, none, none, none, AnomalySet.empty, Bank.empty, Bank.empty, false⟩

/-- Worker 52,308 (8.7), inside. -/
def inside : WorkerRecord :=
  { outside 52308 with
    presence := .inside, attendance := some inShift, changed := true
    current := ⟨1684, 45, 1684, 93420, 4, some 3, AnomalySet.empty⟩ }

/-- A loop in UP whose answer from address 2 is awaited. -/
def busLoop : LoopState :=
  { LoopState.cold with
    config := ⟨.b19200, .biphaseMark, .crc16, 2, 16, 16, 3, 16, 4⟩, mode := .up, intent := true
    positions := [⟨2, 0, .inward, true, 0, none⟩, ⟨5, 1, .outward, true, 0, some ⟨16, ⟨.accept, 3, false⟩⟩⟩]
    cursor := 2, exchange := .awaiting 2 }

/-- Gate 0 of the plant: a turnstile. -/
def turnstile : Gate := { Gate.cold with config := { Gate.cold.config with kind := .turnstile } }

/-- The plant at 05:40:58 of day 9,001, its time SET: two workers, one loop, a turnstile as gate 0, no request held. -/
def plant : State :=
  { State.reset with
    time := ⟨9001, 20458, 0, 32768, .none, .set⟩
    calendar := { calendar with openRefs := calendar.openRefs.setIfInBounds 2 1 }
    workers := [outside 7, inside]
    loops := State.reset.loops.setIfInBounds 0 busLoop
    gates := State.reset.gates.setIfInBounds 0 turnstile
    link := { State.reset.link with reports := [] } }

/-- The plant with its first loop's exchange changed. -/
def exchanging (e : Exchange) : State := plant.setLoop 0 { busLoop with exchange := e }

/-- A passage asked at gate `g` at the plant's second. -/
def asking (badge : Nat) (d : Direction) : Passage := ⟨badge, d, 9001 * 86400 + 20458, 0, 2⟩

/-- The plant with a passage pending at its turnstile. -/
def passing : State :=
  { plant.setGate 0 { turnstile with
      arming := some ⟨.inward, .punch⟩, releaseTimer := some 5, passage := some (asking 7 .inward) } with
    workers := [{ outside 7 with pendingGate := some 0 }, inside]
    journal := ⟨[], 1, 0⟩ }

/-- The plant with a request held. -/
def serving : State := plant.answered 0x70 9 .ok .nothing

/-- The plant in BACKUP. -/
def absent : State := { plant with supply := { plant.supply with state := .backup } }

/-- The plant closed for its period, every attendance finalized: READY, with one closing bank. -/
def closed : State :=
  readyEvent { plant with
    workers := [{ outside 7 with closing := ⟨421, 30, 421, 23421, 1, some 3, AnomalySet.empty⟩ }]
    calendar := calendar
    period := { PeriodUnit.cold with state := .pending, boundary := 12961800, number := 12 } }

/-! ## Worked cases -/

/-- R24's example: crew 3 works code 3 on day 9,000 and code 1 on day 8,990. -/
theorem test_rotation_example :
    (calendar.rotationOf 3).codeOn 9000 = 3 ∧ (calendar.rotationOf 3).codeOn 8990 = 1 := by decide

/-- 2.8: entries at 21:40 and at 00:30 find the night of day 9,000, and one at 20:15 none. -/
theorem test_matching_night :
    calendar.matchEntry (some 3) 12961300 = some ⟨9000, 3, 12961320, 12961800⟩ ∧
      calendar.matchEntry (some 3) 12961470 = some ⟨9000, 3, 12961320, 12961800⟩ ∧
      calendar.matchEntry (some 3) 12961215 = none := by decide

/-- Table 2.8: the entry at 05:20 falls to the night, the one at 05:45 to the early shift. -/
theorem test_matching_double :
    (calendar.matchEntry (some 5) 12961760).map (·.code) = some 3 ∧
      (calendar.matchEntry (some 5) 12961785).map (·.code) = some 1 := by decide

/-- Table 8.3. -/
theorem test_tally_night : tally calendar 6 worked = ⟨421, 30, 421, 23421, false⟩ := by decide +kernel

/-- 8.7: leaving at 06:15 pays 21,576; leaving at 05:40 pays 391 minutes and no overtime. -/
theorem test_tally_night_early :
    (tally calendar 6 (inShift.closeAt 12961815)).pay = 21576 ∧
      (tally calendar 6 (inShift.closeAt 12961780)).regular = 391 := by decide +kernel

/-- R134's example: 137 minutes unscheduled give 135 of overtime. -/
theorem test_tally_unscheduled :
    (tallyUnscheduled calendar.tally 0 [⟨842, some 979⟩]).overtime = 135 := by decide

/-- Table 8.4. -/
theorem test_credit_night :
    (creditAttendance calendar worked inside).current = ⟨2105, 75, 2105, 116841, 5, some 3, AnomalySet.empty⟩ := by decide +kernel

/-- Table 8.5: the regular total is cut short at 65,535. -/
theorem test_credit_limit :
    (creditAttendance calendar worked
        { inside with current := ⟨65300, 3210, 41950, 2742600, 140, some 3, AnomalySet.empty⟩ }).current =
      ⟨65535, 3240, 42371, 2766021, 141, some 3, { AnomalySet.empty with saturated := true }⟩ := by decide +kernel

/-- Table 1.4, step 1: an impulse at second 1 in LOCKED orders HOLD. -/
theorem test_impulse_hold :
    ((takeImpulse .mia { plant with
      time := { plant.time with second := 21601 }
      follower := { Follower.cold with enable := true, state := .locked, lastLine := some .mib } }).time).mark = .hold := by decide

/-- Table 1.4, step 9: an impulse at 06:07:57 in HOLDOVER steps the time to 06:08:00. -/
theorem test_impulse_align :
    ((Timebase.align ⟨9000, 22077, 0, 100, .none, .set⟩)) = ⟨9000, 22080, 0, 32768, .none, .set⟩ := by decide

/-- Table 1.4, steps 3 and 4: second 59 is held for one second event. -/
theorem test_held_second :
    (Timebase.count ⟨9000, 21658, 0, 1, .hold, .set⟩).mark = .holding ∧
      (Timebase.count ⟨9000, 21659, 0, 1, .holding, .set⟩).second = 21659 := by decide

/-- Table 10.2: a MANUAL submission to a full queue takes the last place of a FIXED one, behind the MANUAL one that waits. -/
theorem test_bell_pressure :
    (queueBell ⟨some ⟨5, .manual, [⟨true, 30⟩], some 3, 0, 1, 30⟩, [⟨4, .manual⟩, ⟨2, .shift⟩, ⟨3, .shift⟩, ⟨6, .fixed⟩]⟩
      ⟨7, .manual⟩).1.queue = [⟨4, .manual⟩, ⟨7, .manual⟩, ⟨2, .shift⟩, ⟨3, .shift⟩] := by decide

/-- R59's CRC16 of the nine bytes 31H to 39H is 29B1H, the known check value of that definition. -/
theorem test_crc16 : crc16 [0x31, 0x32, 0x33, 0x34, 0x35, 0x36, 0x37, 0x38, 0x39] = 0x29B1#16 := by decide +kernel

/-- R59: covered bytes and their SUM8 add up to 0. -/
theorem test_sum8 : byteSum ([0x02, 0x11, 0x00, 0x00] ++ [sum8 [0x02, 0x11, 0x00, 0x00]]) = 0 := by decide

/-- R173: CLOCK_SET of day 9,000 and second 21,600 is the body 23H 28H 00H 54H 60H under kind 01H. -/
theorem test_clock_set_bytes :
    encodeRequest (.clockSet 9 9000 21600) = some ⟨0x01, 9, [0x23, 0x28, 0x00, 0x54, 0x60]⟩ := by decide

/-- R173: an absent optional field is one byte 00H, a present one 01H and its value. -/
theorem test_gate_config_bytes :
    encodeRequest (.gateConfig 1 3 ⟨0, 5, 30, 0, 2, some 4⟩ false false) =
      some ⟨0x40, 1, [0x03, 0x00, 0x05, 0x00, 0x1E, 0x00, 0x02, 0x01, 0x04]⟩ := by decide

/-- No row of the table gives bits. -/
theorem test_no_table_word : decodeTableWord 16 0 = none := by decide

/-! ## Witnesses: steps, requests and the station link -/

theorem witness_idle_step :
    State.reset.pending = [] ∧ State.reset.supply.retention = .valid ∧ 1 < State.reset.time.divider ∧
      State.reset.bells.tickElapsed + 1 < 3276 := by decide

theorem witness_stopped_crystal :
    let s : State := { absent with supply := { absent.supply with retention := .lost } }
    s.pending = [] ∧ s.supply.retention = .lost ∧ s.supply.state = .backup := by decide

/-- The period in which the seconds divider ends, and a part that does not work. -/
theorem witness_period_ends :
    let s : State := { plant with time := { plant.time with divider := 1 } }
    s.pending = [] ∧ s.supply.retention = .valid ∧ s.time.divider ≤ 1 ∧ ¬ absent.Works := by decide

/-- A tick of 3,276 or 3,277 periods has ended at its 3,277th. -/
theorem test_tick_ends (place : Nat) : Config.tickPeriods place ≤ 3276 + 1 := by
  unfold Config.tickPeriods; split <;> decide

theorem witness_not_seen : needsLive .punchTaken = true ∧ absent.supply.state = .backup := by decide

theorem witness_ready : plant.Ready ∧ plant.Works := by decide

theorem witness_overrun :
    serving.Works ∧ serving.link.held.isSome = true ∧ (encodeRequest (.status 7)).isSome = true := by decide

theorem witness_unreadable :
    plant.Ready ∧ Layout.requestParts 0x7F = none ∧
      (Layout.requestParts 0x01).map (fun parts => Layout.bodyFits parts [0x23]) = some false := by decide

theorem witness_discarded_bytes :
    takeLine plant.link.partialFrame ([0x55, 0xA7].map wholeByte) = .collecting [0xA7] := by decide

theorem witness_refused :
    plant.Ready ∧ (encodeRequest (.loopStart 1 9)).isSome = true ∧
      exec (.loopStart 1 9) plant = .next (plant.answered 0x31 1 .badValue .nothing) := ⟨by decide, by decide, rfl⟩

/-! ## Witnesses: Section 1 -/

theorem witness_large_step : inside.attendance = some inShift ∧ (outside 7).attendance = none := by decide

/-- Seconds 57, 58 under HOLD and 59 under HOLDING of a minute. -/
theorem witness_second_within :
    plant.supply.retention = .valid ∧ plant.Works ∧ plant.time.second < 86400 ∧ plant.time.second % 60 = 58 ∧
      plant.time.mark ≠ .omit ∧ 20459 % 60 = 59 := by decide

/-- The last second of the last day. -/
theorem witness_second_carries :
    let s : State := { plant with time := { plant.time with day := 65535, second := 86399 } }
    s.supply.retention = .valid ∧ s.time.second < 86400 ∧ s.time.second % 60 = 59 ∧ s.time.mark = .none ∧ s.Works ∧
      s.follower.state ≠ .locked := by decide

/-- Second 58 under OMIT in LOCKED, and a second 58 under HOLD in BACKUP. -/
theorem witness_second_omitted :
    let s : State := { plant with
      time := { plant.time with mark := .omit }, follower := { plant.follower with enable := true, state := .locked } }
    s.supply.retention = .valid ∧ s.Works ∧ s.time.second < 86400 ∧ s.time.second % 60 = 58 ∧ s.time.mark = .omit ∧
      s.follower.state = .locked ∧ absent.supply.state = .backup ∧ absent.supply.retention = .valid := by decide

/-- R163, R17: a second 58 under OMIT in BACKUP is followed by second 59. -/
theorem test_backup_second :
    (secondEvent { absent with time := { absent.time with mark := .omit } }).time.second = 20459 := by decide +kernel

theorem witness_minute_event :
    let s : State := { plant with time := { plant.time with second := 20459 } }
    s.WorkersOrdered ∧ s.supply.retention = .valid ∧ s.Works ∧ s.time.validity = .set ∧ s.time.second < 86400 ∧
      s.time.second % 60 = 59 ∧ s.time.mark = .none := by decide

theorem witness_auto_close :
    inside.attendance = some inShift ∧ inShift.segments.getLast? = some ⟨12961524, none⟩ ∧
      worked.segments.getLast? = some ⟨12961524, some 12961841⟩ := by decide

/-- The last second that aligns backward and the first that aligns forward. -/
theorem witness_alignment :
    let at' := fun second => ({ plant with
      time := { plant.time with second := second }, follower := { plant.follower with enable := true, state := .search } } : State)
    (at' 20429).Works ∧ (at' 20429).time.second % 60 = 29 ∧ (at' 20430).time.second % 60 = 30 ∧
      (at' 20430).follower.state = .search ∧ (at' 20430).time.second < 86400 := by decide

/-- An impulse in LOCKED, and one in OFF. -/
theorem witness_discipline :
    let s : State := { plant with follower := { plant.follower with enable := true, state := .locked } }
    s.Works ∧ s.lineDelivers ⟨.mia, false⟩ ∧ s.follower.state = .locked ∧ plant.follower.state = .off := by decide

/-- Line A held since its last impulse: it delivers none until it has been inactive, and line B delivers. -/
theorem witness_held_line :
    let s : State := { plant with follower := { plant.follower with miaHeld := true } }
    ¬ s.lineDelivers ⟨.mia, false⟩ ∧ s.lineDelivers ⟨.mia, true⟩ ∧ s.lineDelivers ⟨.mib, false⟩ := by decide

/-- R8: an impulse delivered in SEARCH holds its line, and the line delivers no second one while it stays active. -/
theorem test_impulse_held :
    let s : State := { plant with follower := { plant.follower with enable := true, state := .search } }
    let t := qualifyImpulse ⟨.mia, false⟩ s
    t.follower.state = .locked ∧ t.follower.held .mia = true ∧ qualifyImpulse ⟨.mia, false⟩ t = t := by
  intro s t
  have held : t.follower.held .mia = true := by decide +kernel
  exact ⟨by decide +kernel, held, by simp [qualifyImpulse, held]⟩

/-! ## Witnesses: Sections 2 and 3 -/

theorem witness_shift_in_table : ShiftInTable night ∧ ¬ ShiftInTable { night with length := 59 } := by decide

theorem witness_qualifies :
    calendar.matchEntry (some 3) 12961300 = some ⟨9000, 3, 12961320, 12961800⟩ ∧
      calendar.Qualifies 3 12961300 ⟨9000, 3, 12961320, 12961800⟩ := by decide

theorem witness_workers : plant.Ready ∧ plant.WorkersOrdered := by decide

theorem witness_marked :
    plant.WorkersOrdered ∧ (∀ w ∈ plant.workers, w.agrees = true) ∧
      (plant.workers.filter fun w => 7 < w.badge ∧ w.changed = true) ≠ [] := by decide

theorem test_record_length : (Layout.workerRecord inside).length = 75 := by decide +kernel

/-- Of four records of 75 bytes, three fit whole in 245. -/
theorem test_room_for_three : (takeFitting 245 [inside, inside, inside, inside]).length = 3 := by
  simp [takeFitting, test_record_length]

/-! ## Witnesses: Section 4 -/

/-- LOOP_CONFIG's fields in the table, and outside it. -/
def loopFields : LoopFields := ⟨1, 0, 1, 2, 16, 16, 3, 16, 4, [⟨5, 1, 1⟩, ⟨2, 0, 0⟩]⟩

theorem witness_loop_config :
    (plant.loopAt 1).mode = .off ∧ (plant.loopAt 0).mode ≠ .off ∧ LoopFieldsInTable loopFields ∧
      ¬ LoopFieldsInTable { loopFields with npre := 1 } := by decide

theorem witness_loop_orders :
    let s := plant.setLoop 3 { busLoop with mode := .off, exchange := .idle }
    s.Ready ∧ (s.loopAt 3).mode = .off ∧ (s.loopAt 3).positions ≠ [] ∧ (s.loopAt 2).positions = [] ∧
      (s.loopAt 0).mode ≠ .off := by decide

theorem witness_sent_frames :
    (exchanging (.sendingPoll 2)).Works ∧ ((exchanging (.sendingPoll 2)).loopAt 0).exchange = .sendingPoll 2 ∧
      ((exchanging .sendingWake).loopAt 0).positions.head? = some ⟨2, 0, .inward, true, 0, none⟩ ∧
      ((exchanging .quiet).loopAt 0).exchange = .quiet ∧ ((exchanging .quiet).loopAt 0).mode = .up := by decide

/-- LnDE of a loop that sends its WAKE, and of one that awaits an answer (R55, Table 4.6). -/
theorem test_driver : (exchanging .sendingWake).driver 0 = true ∧ plant.driver 0 = false := by decide

/-- The roll call at its last address, and before it. -/
theorem witness_roll_call :
    let x : LoopState := { busLoop with
      mode := .training, cursor := 5, exchange := .sendingVerdict 5 17 ⟨.accept, 3, false⟩ }
    x.mode = .training ∧ (x.positions.getLast?.map (·.address)) = some x.cursor ∧
      (busLoop.positions.getLast?.map (·.address)) ≠ some busLoop.cursor := by decide

theorem witness_silent_answer :
    plant.Works ∧ (plant.loopAt 0).exchange = .awaiting 2 ∧ (plant.loopAt 0).mode = .up ∧
      (plant.loopAt 0).exchange = .awaiting (plant.loopAt 0).cursor := by decide

/-- Answers awaited in TRAINING at the roll call's last address, in UP one short of Dlos, and in LOST one short of Clos. -/
theorem witness_answers_awaited :
    let training : LoopState := { busLoop with mode := .training, cursor := 5, exchange := .awaiting 5 }
    let up : LoopState := { busLoop with deadRun := 15 }
    let lost : LoopState := { busLoop with mode := .lost, validRun := 3 }
    (training.afterExchange .silent).2 = some .trained ∧ (({ up with deadRun := 16 } : LoopState).afterExchange .silent).2 = some .loss ∧
      (({ lost with validRun := 4 } : LoopState).afterExchange .idle).2 = some .regained ∧ lost.exchange = .awaiting 2 := by decide

/-- The longest preamble and the longest quiet the bus loop's bounds admit, and one period more of each. -/
theorem witness_line_bounds :
    4 < busLoop.config.npre + 3 ∧ ¬ 5 < busLoop.config.npre + 3 ∧ 255 < busLoop.config.window * 16 ∧
      ¬ 256 < busLoop.config.window * 16 := by decide

/-- Boundaries at steps 0 and 2 of a cell (R57; log 31 for the cell that is of 17 steps), and one at step 14, for the cell after. -/
theorem test_boundaries :
    let r : Receiver := { Receiver.start with tracker := .locked }
    (r.examine true).length = 16 ∧ (({ r with step := 2 } : Receiver).examine true).length = 17 ∧
      (({ r with step := 14 } : Receiver).examine true).beginCell.length = 15 := by decide

/-- A frame cut short after its start byte, and a line with no start byte in the hunt bound. -/
theorem witness_aborted_answer :
    (Receiver.receive busLoop.config.answer ((lineOf .biphaseMark [0x55, 0x55, 0xE7]) ++ List.replicate 80 false)).result = .aborted ∧
      (Receiver.receive busLoop.config.answer (lineOf .biphaseMark (List.replicate 6 0x55))).result = .huntBound := by
  decide +kernel

/-- A receiver inside a frame, at the end of its byte `n`, with these bytes of the frame taken. -/
def between (n : Nat) (bytes : List Byte) : Receiver :=
  { Receiver.start with tracker := .locked, inFrame := true, first := some 0, bytes := bytes, elapsed := n * 128 }

theorem test_frame_begins :
    (lineOf .biphaseMark [0x55, 0x55, 0xE7]).foldl (Receiver.next busLoop.config.answer) Receiver.start = between 3 [] := by
  decide +kernel

theorem test_frame_middle :
    (lineOf .biphaseMark [0x02, 0x11, 0x00]).foldl (Receiver.next busLoop.config.answer) (between 3 []) =
      between 6 [0x02, 0x11, 0x00] := by decide +kernel

theorem test_frame_ends :
    ((lineOf .biphaseMark (0x00 :: crcBytes (covered 2 0x11 0 []))).foldl (Receiver.next busLoop.config.answer)
      (between 6 [0x02, 0x11, 0x00])).result = .complete (covered 2 0x11 0 [] ++ crcBytes (covered 2 0x11 0 [])) := by decide +kernel

theorem line_append (c : Coding) (a b : List Byte) : lineOf c (a ++ b) = lineOf c a ++ lineOf c b := by simp [lineOf]

/-- An IDLE from reader 2, received whole. -/
theorem witness_valid_answer :
    (Receiver.receive busLoop.config.answer (lineOf .biphaseMark (frameBytes 2 .crc16 (covered 2 0x11 0 [])))).result =
      .complete (covered 2 0x11 0 [] ++ crcBytes (covered 2 0x11 0 [])) := by
  have parts : frameBytes 2 .crc16 (covered 2 0x11 0 []) =
      [0x55, 0x55, 0xE7] ++ ([0x02, 0x11, 0x00] ++ (0x00 :: crcBytes (covered 2 0x11 0 []))) := by decide +kernel
  have bounded : ∀ (k : Listening) (r : Receiver) bytes, r.first = some 0 → r.inFrame = true → r.result = .complete bytes →
      (r.bounds k).result = .complete bytes := by
    intro k r bytes h1 h2 h3; simp [Receiver.bounds, h1, h2, h3]
  rw [Receiver.receive, parts, line_append, line_append, List.foldl_append, List.foldl_append, test_frame_begins,
    test_frame_middle]
  exact bounded _ _ _ (by decide +kernel) (by decide +kernel) test_frame_ends

/-- The classes of an IDLE and of a PUNCH of sequence 17 from reader 2. -/
theorem witness_classes :
    (let idle := covered 2 0x11 0 []; classify .crc16 2 (idle ++ crcBytes idle) = .idle) ∧
      (let punch := covered 2 0x12 17 [0x00, 0x9C, 0xB5]; classify .crc16 2 (punch ++ crcBytes punch) = .punch 17 40117) ∧
      (let idle := covered 2 0x11 0 []; classify .crc16 5 (idle ++ crcBytes idle) = .corrupted) := by
  decide +kernel

/-- Frames that complete and are corrupted: a check that fails, a kind no reader sends, a PUNCH with a payload too short (R60). -/
theorem witness_corrupted_frames :
    (let idle := covered 2 0x11 0 []; classify .crc16 2 (idle ++ [0x00, 0x00]) = .corrupted) ∧
      (let other := covered 2 0x14 0 []; classify .sum8 2 (other ++ loopCheck .sum8 other) = .corrupted) ∧
      (let short := covered 2 0x12 17 [0x9C]; classify .sum8 2 (short ++ loopCheck .sum8 short) = .corrupted) := by decide +kernel

theorem witness_clean_test :
    let x : LoopState := { busLoop with mode := .testing, exchange := .testing 2 2 }
    2 ≤ x.config.npre ∧ x.exchange = .testing 2 2 ∧ x.mode = .testing := by decide

/-- The listening of a TEST frame of two preamble bytes. -/
def listening : Listening := busLoop.config.loopback

/-- A byte string that differs from the TEST frame sent and whose length byte stands, and a length byte above 16. -/
theorem witness_failed_test :
    let got : List Byte := [0xFE, 0x04, 1, 0x08, 1, 0x00, 0xFF, 0x55, 0xAA, 0xE7, 0x18, 0xC3, 0x00, 0x00]
    got.length = 12 + CheckKind.crc16.bytes ∧ got[3]? = some 0x08 ∧ got ≠ testCovered 1 ++ loopCheck .crc16 (testCovered 1) ∧
      16 < (0x11 : Byte).toNat := by decide +kernel

/-- A start byte that comes after the last sent cell, here the first cell, is not received, and neither is one that never comes (R75). -/
theorem test_late_start_byte :
    (receiveTest listening 16 (List.replicate 16 false ++ lineOf .biphaseMark [0x55, 0x55, 0xE7])).result = .aborted ∧
      (receiveTest listening 16 []).result = .aborted := by decide +kernel

/-- A frame begun by its last sent cell runs on into quiet and aborts with both latches set (R58). -/
theorem test_cut_test_frame :
    let r := receiveTest listening 384 (lineOf .biphaseMark [0x55, 0x55, 0xE7])
    r.result = .aborted ∧ r.miss1 = true ∧ r.miss2 = true := by decide +kernel

/-! ## Witnesses: Section 5 -/

/-- An offer of loop 0 that is next in turn, and its binding. -/
theorem witness_offer :
    let s := exchanging (.offering ⟨0, 2, 17, 7, 9001 * 86400 + 20458⟩)
    s.Works ∧ s.punch.hand = none ∧ s.nextOffer = some (0, ⟨0, 2, 17, 7, 9001 * 86400 + 20458⟩) ∧
      (s.loopAt 0).positions.find? (fun p => p.address == 2) = some ⟨2, 0, .inward, true, 0, none⟩ := by decide

/-- Each way a punch meets the checks: an unknown badge, UNSET, fire, a busy gate, and a free one. -/
theorem witness_checks :
    plant.workers.find? (fun w => w.badge == 8) = none ∧ plant.workers.find? (fun w => w.badge == 7) = some (outside 7) ∧
      plant.time.validity = .set ∧ plant.fire = false ∧ State.reset.time.validity = .unset ∧
      (passing.gateAt 0).passage.isSome = true ∧ (decidePunch 0 (asking 8 .inward) plant).verdict.code = .denied .unknownBadge := by
  decide +kernel

/-- Gates that serve a host release: a turnstile armed and a hinged gate released, each with cause HOST (R84, R101). -/
theorem witness_host_release :
    ({ turnstile with arming := some ⟨.inward, .host⟩ } : Gate).servesHost = true ∧
      ({ Gate.cold with hinged := .released .host } : Gate).servesHost = true ∧ (passing.gateAt 0).servesHost = false := by decide

theorem witness_accepted :
    plant.WorkersOrdered ∧ (decidePunch 0 (asking 7 .inward) plant).verdict.code = .accept ∧ plant.time.validity = .set ∧
      plant.fire = false ∧ (plant.gateAt 0).config.kind = .turnstile ∧ (plant.standing 0).holds .inward = false ∧
      plant.journal.entries.length + plant.journal.reserved < 2048 := by decide +kernel

/-- Acceptances at a hinged gate, at a turnstile that stands in both directions, with the ring full, and under fire; and an exit while
the time is UNSET. -/
theorem witness_accepted_elsewhere :
    let exit := asking 52308 .outward
    let free := plant.setGate 0 { turnstile with mode := .free }
    let ringFull : State := { plant with journal := ⟨[], 2048, 0⟩ }
    let fire : State := { plant with fire := true }
    let unset : State := { plant with time := { plant.time with validity := .unset } }
    plant.workers.find? (fun w => w.badge == 52308) = some inside ∧
      ((plant.gateAt 1).config.kind = .hinged ∧ (decidePunch 1 exit plant).verdict.code = .accept) ∧
      ((free.standing 0).holds .outward = true ∧ (decidePunch 0 exit free).verdict.code = .accept) ∧
      (ringFull.journal.entries.length + ringFull.journal.reserved = 2048 ∧ (decidePunch 0 exit ringFull).verdict.display = 5) ∧
      (decidePunch 0 exit fire).verdict.display = 4 ∧ (decidePunch 0 exit unset).verdict.code = .releaseUntimed := by decide +kernel

/-- The cases of an entry's commit: a window, none, an attendance before its E and at its E. -/
theorem witness_entry_cases :
    calendar.matchEntry (outside 7).crew 12961300 ≠ none ∧ calendar.matchEntry (outside 7).crew 12961215 = none ∧
      (outside 7).attendance = none ∧ inside.attendance = some inShift ∧ inShift.kind = .scheduled 3 12961800 ∧
      inShift.segments.length < 4 ∧ inside.presence = .inside := by decide

/-- The cases of an exit's commit: below E - Go at 12,961,794, at E - Go at 12,961,795. -/
theorem witness_exit_cases :
    inside.attendance = some inShift ∧ inShift.segments.getLast? = some ⟨12961524, none⟩ ∧
      plant.calendar.shiftOf 3 = some night ∧ 12961794 + night.leaveGrace < 12961800 ∧
      12961800 ≤ 12961795 + night.leaveGrace := by decide

/-- The other cases of an entry's commit: past E with the segment open, its in minute past E and not, and with four segments. -/
theorem witness_entry_limits :
    let overdue : Attendance := { inShift with segments := [⟨12961810, none⟩] }
    let full : Attendance := { inShift with segments := List.replicate 4 ⟨12961510, some 12961520⟩ }
    overdue.segments.getLast? = some ⟨12961810, none⟩ ∧ overdue.unseenOut 12961810 = 12961810 ∧
      inShift.unseenOut 12961524 = 12961800 ∧ full.segments.length = 4 ∧
      full.segments.getLast? = some ⟨12961510, some 12961520⟩ ∧ (outside 7).presence = .outside := by decide

/-- An exit at E less the grace finalizes the attendance with its segment closed at that minute, not at E (R91, R126). -/
theorem test_exit_finalizes :
    let y := (commitExit 12961795 false ⟨plant, inside⟩).worker
    let left := { inShift with segments := [⟨12961327, some 12961510⟩, ⟨12961524, some 12961795⟩] }
    y.attendance = none ∧ y.current = (creditAttendance plant.calendar left inside).current := by decide +kernel

/-! ## Witnesses: Section 6 -/

/-- Gate 0 is held back by its open partner, and in mode FREE it is not. -/
theorem witness_interlock :
    let pair := (plant.setGate 0 { turnstile with config := { turnstile.config with partner := some 1 } }).setGate 1
      { Gate.cold with hinged := .opened, contactOpen := true, config := { Gate.cold.config with partner := some 0 } }
    pair.gateBusy 1 = true ∧ pair.heldByPartner 0 = true ∧
      (pair.setGate 0 { pair.gateAt 0 with mode := .free }).heldByPartner 0 = false := by decide

theorem witness_gate_config :
    plant.Ready ∧ (plant.gateAt 0).passage = none ∧ (passing.gateAt 0).passage.isSome = true ∧
      (plant.gateAt 0).config.kind = .turnstile := by decide

/-- A hinged gate in FORCED enters FREE with its timers stopped and its alarm cleared, leaves FREE by its contact, and else stays as it
is (R109, R110). -/
theorem witness_hinged_standing :
    let forced : Gate := { Gate.cold with hinged := .forced, contactOpen := true, heldTimer := some 4 }
    let s := plant.setGate 1 forced
    s.Ready ∧ (s.gateAt 1).mode ≠ .free ∧ s.standing 1 = .nothing ∧ (s.gateAt 1).passage = none ∧
      (forced.under .both).hinged = .free ∧ (forced.under .both).heldTimer = none ∧
      (s.link.alarmEnded 1 forced (forced.under .both) 7).reports = [.gateAlarm 1 .forced .cleared none 7] ∧
      ((forced.under .both).under .nothing).hinged = .opened ∧ forced.under .nothing = forced := by decide +kernel

theorem witness_lockdown_voids :
    passing.Ready ∧ (passing.gateAt 0).mode ≠ .lockdown ∧ (passing.gateAt 0).config.kind = .turnstile ∧
      (passing.gateAt 0).passage = some (asking 7 .inward) ∧ (asking 7 .inward).direction = .inward := by decide

theorem witness_pulse :
    passing.Works ∧ passing.WorkersOrdered ∧ (passing.gateAt 0).config.kind = .turnstile ∧
      (passing.gateAt 0).arming = some ⟨.inward, .punch⟩ ∧ (passing.gateAt 0).passage = some (asking 7 .inward) ∧
      passing.inputDelivers 0 ⟨.inward, false⟩ ∧ plant.inputDelivers 0 ⟨.outward, false⟩ ∧ (plant.gateAt 0).arming = none := by decide

/-- Input 0 held since its last pulse: it delivers none until it has been inactive, and input 1 delivers. -/
theorem witness_held_input :
    let s := plant.setGate 0 { turnstile with pulse0 := true }
    ¬ s.inputDelivers 0 ⟨.inward, false⟩ ∧ s.inputDelivers 0 ⟨.inward, true⟩ ∧ s.inputDelivers 0 ⟨.outward, false⟩ := by decide

theorem witness_turnstile_expiry :
    let s := passing.setGate 0 { passing.gateAt 0 with releaseTimer := some 0 }
    s.Works ∧ s.WorkersOrdered ∧ (s.gateAt 0).arming.isSome = true ∧ (s.gateAt 0).releaseTimer = some 0 := by decide

theorem witness_hinged :
    let s := plant.setGate 1 { Gate.cold with hinged := .opened, contactOpen := true, heldTimer := some 0 }
    s.Works ∧ (s.gateAt 1).config.kind = .hinged ∧ (s.gateAt 1).hinged = .opened ∧ (s.gateAt 1).heldTimer = some 0 ∧
      (plant.gateAt 2).contactOpen = false := by decide

theorem witness_hinged_release :
    let s := plant.setGate 1 { Gate.cold with hinged := .released .host, releaseTimer := some 0 }
    s.Works ∧ (s.gateAt 1).hinged = .released .host ∧ (s.gateAt 1).releaseTimer = some 0 := by decide

theorem witness_fire :
    passing.Works ∧ passing.fire = false ∧ passing.GatesStand ∧ passing.WorkersOrdered ∧ ({ plant with fire := true } : State).fire = true := by decide

/-! ## Witnesses: Sections 8 to 11 -/

theorem witness_tally :
    worked.segments.head? = some ⟨12961327, some 12961510⟩ ∧ worked.segments.getLast? = some ⟨12961524, some 12961841⟩ ∧
      (∀ g ∈ worked.segments, g.outMinute.isSome = true) ∧ calendar.shiftOf 3 = some night ∧
      12961800 = worked.start + night.length := by decide

theorem witness_tally_bounds :
    TallyInTable plant.calendar.tally ∧ plant.RefsCounted ∧ inside ∈ plant.workers ∧ inside.attendance = some inShift := by decide

theorem witness_calendar_in_table :
    (∀ i : Fin 15, ∀ d ∈ plant.calendar.shiftOf (i.val + 1), ShiftInTable d) ∧
      (∀ i : Fin 8, (plant.calendar.rotationOf (i.val + 1)).inTable = true) ∧
      ∀ grade : Fin 16, plant.calendar.rates[grade] ≤ 65535 := by decide

theorem witness_period_close :
    plant.Ready ∧ plant.period.state = .free ∧ plant.time.validity = .set ∧ plant.ClosingCounted ∧
      (plant.workers.countP fun w => w.attendance.any fun a => a.start < 12962980) = 1 := by decide

theorem witness_ready_event :
    let s : State := { plant with period := { plant.period with state := .pending } }
    s.Works ∧ s.period.state = .pending ∧ s.period.counter = 0 := by decide

theorem witness_stream :
    closed.StreamStands ∧ (∀ w ∈ closed.workers, Bank.Bounded w.closing) ∧ closed.WorkersOrdered ∧
      closed.period.state = .ready ∧ closed.closingRecords ≠ [] :=
  ⟨by decide +kernel, by decide +kernel, by decide +kernel, by decide +kernel, by decide +kernel⟩

/-- A stream of 12 records read to its end is DRAINED. -/
theorem test_stream_drains : (deliver 12 closed).1.period.state = .drained ∧ (deliver 12 closed).2.length = 12 := by decide +kernel

theorem witness_cadence_step :
    let x : Sounding := ⟨2, .fixed, [⟨true, 20⟩, ⟨false, 10⟩], some 3, 1, 3, 0⟩
    let s : State := { plant with bells := plant.bells.setZone 1 ⟨some x, [⟨4, .manual⟩]⟩ }
    s.Works ∧ (s.bells.zoneAt 1).sounding = some x ∧ x.down = 0 ∧ x.index < x.steps.length ∧
      x.steps.head? = some ⟨true, 20⟩ := by decide

/-- BELL1 is on in an ON step, and off where no cadence sounds and while the part does not work (R154, R162). -/
theorem test_bell_output :
    let x : Sounding := ⟨2, .fixed, [⟨true, 20⟩, ⟨false, 10⟩], some 3, 0, 3, 9⟩
    let s : State := { plant with bells := plant.bells.setZone 1 ⟨some x, []⟩ }
    s.bell 1 = true ∧ s.bell 0 = false ∧ ({ s with supply := absent.supply } : State).bell 1 = false := by decide

/-- At 06:00 of day 9,001 the early shift's start and the night's end give cadence 2 one submission, SHIFT; a fixed entry of the same
minute gives cadence 5 one, FIXED. -/
theorem witness_due :
    (∀ i : Fin 15, ∀ d ∈ calendar.shiftOf (i.val + 1), ShiftInTable d) ∧
      ({ Bells.cold with fixed := Bells.cold.fixed.setIfInBounds 31 (some ⟨360, 127, 2, 5⟩) } : Bells).dueIn calendar 12961800 1 =
        [⟨2, .shift⟩, ⟨5, .fixed⟩] := by decide +kernel

theorem witness_queue : (([⟨4, .manual⟩, ⟨2, .shift⟩, ⟨6, .fixed⟩] : List QueuedBell).Pairwise fun p q => q.cls.rank ≤ p.cls.rank) := by
  decide

theorem witness_submission : State.reset.bells.startSounding 0 .evacuation = some ⟨0, .evacuation, evacuationSteps, none, 0, 1, 10⟩ := by
  decide

/-- An empty cadence has nothing to sound. -/
theorem witness_empty_cadence : State.reset.bells.startSounding 3 .manual = none ∧ State.reset.bells.cadences[2] = none := by decide

theorem witness_supply_events : plant.supply.state = .run ∧ absent.supply.state = .backup ∧ plant.supply.resetnHigh = true := by
  decide

/-- A turnstile input active at a start delivers no pulse until it has gone inactive (R97). -/
theorem test_start_takes_levels :
    let x := turnstile.begin 0 ⟨1, 0, false, false, false, false, false⟩
    x.pulse0 = true ∧ x.pulse1 = false := by decide

theorem witness_starts :
    let s : State := { passing with supply := { passing.supply with state := .backup } }
    s.WorkersOrdered ∧ s.JournalFits ∧ s.PassagesNamed ∧ s.supply.state = .backup ∧ s.supply.resetnHigh = true ∧
      s.supply.retention = .valid := by decide

/-- A cold start after a retention LOST, a release of RESETn with a start owed and with none, and a start in PENDING at a count of 0. -/
theorem witness_other_starts :
    let lost : State := { absent with supply := { absent.supply with retention := .lost } }
    let held : State := { passing with supply := { passing.supply with resetnHigh := false } }
    let owed : State := { held with supply := { held.supply with startOwed := true } }
    let due : State := { absent with period := { absent.period with state := .pending } }
    (lost.WorkersOrdered ∧ lost.JournalFits ∧ lost.PassagesNamed ∧ lost.supply.state = .backup ∧ lost.supply.resetnHigh = true ∧
      lost.supply.retention = .lost) ∧
    (held.WorkersOrdered ∧ held.JournalFits ∧ held.PassagesNamed ∧ held.supply.state = .run ∧ held.supply.resetnHigh = false ∧
      held.supply.startOwed = false) ∧
    (owed.supply.startOwed = true ∧ owed.supply.retention = .valid) ∧
    (due.WorkersOrdered ∧ due.JournalFits ∧ due.PassagesNamed ∧ due.period.state = .pending ∧ due.period.counter = 0) := by decide

theorem witness_start_replies :
    let s := plant.answered 0x68 9 .ok .nothing
    s.Works ∧ s.link.held = some ⟨0x68, 9, ⟨.ok, .nothing⟩⟩ := by decide

theorem witness_station_frame :
    takeLine [] ([wholeByte 0x00] ++ ([0xA7, 0x02, 0x70, 0x09] ++ crcBytes [0x02, 0x70, 0x09]).map wholeByte) =
      .passed ([0xA7, 0x02, 0x70, 0x09] ++ crcBytes [0x02, 0x70, 0x09]) := by decide +kernel

/-- The reply held stands on TXD, five bytes after the start byte and the length, ten cells each, at the rate of the straps. -/
theorem witness_reply_line :
    serving.Works ∧ (Layout.stationFrame (0x70 ||| 0x80) 9 (Layout.replyBody ⟨.ok, .nothing⟩)).isSome = true ∧
      serving.link.held = some ⟨0x70, 9, ⟨.ok, .nothing⟩⟩ ∧ (serving.txdLine.map fun l => (l.rate, l.cells.take 10)) =
        some (9600, [false, true, true, true, false, false, true, false, true, true]) := by decide +kernel

theorem witness_round_trip :
    WellFormed (.workerPut 1 ⟨52308, 0, none, some 3, 6, 0xFFFF#16, false, true⟩) = true ∧
      (encodeRequest (.workerPut 1 ⟨52308, 0, none, some 3, 6, 0xFFFF#16, false, true⟩)).isSome = true := by decide

/-! ## Witnesses: the laws, at a plant with a passage pending -/

theorem witness_laws_journal : passing.JournalFits ∧ passing.JournalNumbered ∧ passing.passages = 1 := by decide

theorem witness_laws_workers : passing.WorkersOrdered ∧ passing.BanksBounded ∧ passing.PresenceAgrees := by decide

theorem witness_laws_counts : passing.RefsCounted ∧ passing.ClosingCounted ∧ passing.StreamStands := by decide

theorem witness_laws_gates : passing.PassagesNamed ∧ passing.PartnersSymmetric ∧ passing.GatesStand := by decide

theorem witness_laws_ranges :
    passing.TimeInRange ∧ passing.FollowerInRange ∧ passing.LoopsInOrder ∧ passing.ZonesInOrder ∧ passing.ReportsFit := by decide

end Sys2Proof.Tests
end

section
/-! PROOFS. The crystal, the readings and the clock requests (Sections 1.1 to 1.3, 1.5.2, 4.11, 10.1, 12.4): what each operation does, and
after it the statement that rests on it. -/

namespace Sys2Proof.Machine

/-! ## The crystal (R1, R154) -/

theorem exec_secondEvent (s : State) : exec .secondEvent s = execSecondEvent s := rfl

theorem exec_tenthTick (s : State) : exec .tenthTick s = execTenthTick s := rfl

/-- The second event of a Timebase that runs. -/
theorem exec_secondEvent_valid {s : State} (h : s.supply.retention = .valid) : exec .secondEvent s = .next (secondEvent s) := by
  rw [exec_secondEvent, execSecondEvent, h]

/-- A stopped Timebase takes no second event (R164). -/
theorem exec_secondEvent_lost {s : State} (h : s.supply.retention = .lost) : exec .secondEvent s = .next s := by
  rw [exec_secondEvent, execSecondEvent, h]

/-- With no command waiting a step is one crystal period. -/
theorem step_idle {s : State} (h : s.pending = []) : step s = .next (crystalPeriod s) := by
  simp [step, h]

theorem crystalPeriod_valid {s : State} (h : s.supply.retention = .valid) : crystalPeriod s = tickPeriod (dividerPeriod s) := by
  simp [crystalPeriod, h]

theorem crystalPeriod_lost {s : State} (h : s.supply.retention = .lost) : crystalPeriod s = s := by
  simp [crystalPeriod, h]

theorem tickPeriods_cases (place : Nat) : Config.tickPeriods place = 3276 ∨ Config.tickPeriods place = 3277 := by
  unfold Config.tickPeriods
  split
  · exact .inl rfl
  · exact .inr rfl

/-- Ten ticks make one second, wherever the two short ones stand. -/
theorem tickPeriods_sum : ((List.range 10).map Config.tickPeriods).sum = 32768 := by
  have every : ∀ (short : Fin 10) (gap : Fin 9),
      ((List.range 10).map fun place =>
        if place = short.val ∨ place = (short.val + 1 + gap.val) % 10 then 3276 else 3277).sum = 32768 := by decide +kernel
  exact every Config.firstShortTick Config.secondShortGap

/-- The seconds divider after one period: the second event where it ends, and one period fewer otherwise. -/
theorem dividerPeriod_next {s : State} (h : s.supply.retention = .valid) :
    (if s.time.divider ≤ 1 then exec .secondEvent s
      else .next { s with time := { s.time with divider := s.time.divider - 1 } }) = .next (dividerPeriod s) := by
  unfold dividerPeriod
  split
  · rw [exec_secondEvent_valid h]
  · rfl

/-- The tick divider after one period: the tick where it ends, and one period more otherwise. -/
theorem tickPeriod_next (u : State) :
    .next (tickPeriod u) = if Config.tickPeriods u.bells.tickPlace ≤ u.bells.tickElapsed + 1 then exec .tenthTick u
      else .next { u with bells := { u.bells with tickElapsed := u.bells.tickElapsed + 1 } } := by
  unfold tickPeriod
  by_cases ends : Config.tickPeriods u.bells.tickPlace ≤ u.bells.tickElapsed + 1
  · rw [if_pos ends, if_neg (Nat.not_lt.mpr ends), exec_tenthTick, execTenthTick]
  · rw [if_neg ends, if_pos (Nat.not_le.mp ends)]

/-- A tick of a part that does not work begins the divider's next count and nothing else (log 30). -/
theorem exec_tenthTick_not_working {s : State} (h : ¬ s.Works) :
    exec .tenthTick s = .next { s with bells := { s.bells with
      tickElapsed := 0, tickPlace := (s.bells.tickPlace + 1) % 10 } } := by
  rw [exec_tenthTick, execTenthTick, tenthTick, if_neg]
  exact fun live => h ((State.live_iff _).mp live)

/-- Settles O1: the two dividers one period on, each by its own lemma, and the ten ticks' sum over every place of the short ones. -/
theorem stepsRunTheQueueOrOneCrystalPeriod : Obligations.StepsRunTheQueueOrOneCrystalPeriod := by
  unfold Obligations.StepsRunTheQueueOrOneCrystalPeriod
  refine ⟨fun _ _ _ => rfl, fun s idle => ⟨fun valid running early => ?_, fun valid => ?_, fun lost => ?_⟩,
    fun s => exec_tenthTick_not_working, tickPeriods_cases, tickPeriods_sum⟩
  · have counts : dividerPeriod s = { s with time := { s.time with divider := s.time.divider - 1 } } :=
      if_neg (Nat.not_le.mpr running)
    have onward : s.bells.tickElapsed + 1 < Config.tickPeriods s.bells.tickPlace := by
      have := tickPeriods_cases s.bells.tickPlace
      omega
    rw [step_idle idle, crystalPeriod_valid valid, counts, tickPeriod, if_pos onward]
  · refine ⟨dividerPeriod s, dividerPeriod_next valid, ?_⟩
    rw [step_idle idle, crystalPeriod_valid valid, tickPeriod_next]
  · rw [step_idle idle, crystalPeriod_lost lost]

/-! ## Requests taken (R168) -/

theorem within_iff (lo v hi : Nat) : within lo v hi = true ↔ lo ≤ v ∧ v ≤ hi := by
  simp [within]

/-! ## Readings (R15, R76, R171) -/

theorem exec_clockRead {s : State} (h : s.Ready) (tag : Nat) (clear : Bool) :
    exec (.clockRead tag clear) s =
      .next ((if clear then { s with follower := s.follower.clearLatches } else s).answered 0x03 tag .ok (.clock s.clockReading)) := by
  change execClockRead tag clear s = _
  rw [execClockRead, serve_ready h]
  rfl

theorem exec_loopStatus {s : State} (h : s.Ready) (tag : Nat) (loop : Fin 4) (clear : Bool) :
    exec (.loopStatus tag loop clear) s =
      .next ((if clear then s.setLoop loop s.loops[loop].clearLatches else s).answered 0x34 tag .ok (.loop s.loops[loop].reading)) := by
  change execLoopStatus tag loop clear s = _
  have inRange : within 0 loop 3 = true := (within_iff ..).mpr (by omega)
  rw [execLoopStatus, serve_ready h]
  simp only [inRange, okayWith, State.loopAt_fin]
  rfl

/-- LOOP_STATUS of a number that is no loop's is refused. -/
theorem exec_loopStatus_refused {s : State} (h : s.Ready) (tag : Nat) {loop : Nat} (outside : ¬ loop < 4) (clear : Bool) :
    exec (.loopStatus tag loop clear) s = .next (s.answered 0x34 tag .badValue .nothing) := by
  change execLoopStatus tag loop clear s = _
  have outOfRange : within 0 loop 3 = false := by simp [within]; omega
  rw [execLoopStatus, serve_ready h]
  simp only [outOfRange]
  rfl

theorem exec_status {s : State} (h : s.Ready) (tag : Nat) :
    exec (.status tag) s = .next (State.answered { s with link := { s.link with overrun := false, dropped := false } } 0x70 tag .ok
      (.status s.statusReading)) := by
  change execStatus tag s = _
  rw [execStatus, serve_ready h]
  rfl

/-- Settles O13: each reading's reply, and the latches it clears, in the statement's own terms. -/
theorem latchReadingsShowThenClear : Obligations.LatchReadingsShowThenClear := by
  intro s tag loop clear ready
  refine ⟨?_, ?_, exec_status ready tag⟩
  · rw [exec_clockRead ready]
    cases clear <;> rfl
  · by_cases isLoop : loop < 4
    · rw [exec_loopStatus ready tag ⟨loop, isLoop⟩, dif_pos isLoop]
      have replaced : s.loops.setIfInBounds loop s.loops[loop].clearLatches = s.loops.set loop s.loops[loop].clearLatches :=
        Vector.ext fun i hi => by rw [Vector.getElem_setIfInBounds hi, Vector.getElem_set]
      cases clear
      · rfl
      · change Host.Outcome.next (State.answered { s with loops := s.loops.setIfInBounds loop s.loops[loop].clearLatches } _ _ _ _) = _
        rw [replaced]
        rfl
    · rw [exec_loopStatus_refused ready tag isLoop, dif_neg isLoop]

/-! ## Clock requests (R5, R6, R9) -/

/-- A CLOCK_EVENT with every field written out (R16). -/
theorem followerEvent_eq (cause : ClockCause) (f : Follower) (s : State) :
    followerEvent cause f s =
      queueReport (.clockEvent s.follower.state f.state cause (s.time.day * 86400 + s.time.second) f.phase) { s with follower := f } := rfl

/-- A flag given to a follower that is OFF takes it to SEARCH with its runs, latches and last line clear (R9). -/
theorem setEnable_on {s : State} (off : s.follower.state = .off) :
    setEnable true s =
      queueReport (.clockEvent .off .search .enable (s.time.day * 86400 + s.time.second) s.follower.phase)
        { s with follower := { s.follower with
          enable := true, state := .search, miss1 := false, miss2 := false, wide1 := false, wide2 := false
          missingRun := 0, wideRun := 0, windowFlag := false, lastLine := none } } := by
  simp only [setEnable, off, followerEvent_eq]
  rfl

/-- A flag withdrawn from a follower that is not OFF takes it to OFF with the mark NONE (R9). -/
theorem setEnable_off {s : State} (running : s.follower.state ≠ .off) :
    setEnable false s =
      queueReport (.clockEvent s.follower.state .off .disable (s.time.day * 86400 + s.time.second) s.follower.phase)
        { s with time := { s.time with mark := .none }, follower := { s.follower with enable := false, state := .off } } := by
  unfold setEnable
  cases state : s.follower.state with
  | off => exact absurd state running
  | search | locked | holdover => simp only [clearMark, followerEvent_eq, state]

/-- A flag that the follower already has changes nothing (R9). -/
theorem setEnable_same {enable : Bool} {s : State} (on : ¬ (enable = true ∧ s.follower.state = .off))
    (off : ¬ (enable = false ∧ s.follower.state ≠ .off)) : setEnable enable s = s := by
  unfold setEnable
  cases enable <;> cases state : s.follower.state <;> simp_all

theorem exec_clockConfig {s : State} (h : s.Ready) (tag : Nat) (enable : Bool) (window : Nat) (trim : Int) :
    exec (.clockConfig tag enable window trim) s = .next (
      if window < 1 ∨ 30 < window ∨ trim < -128 ∨ 127 < trim then s.answered 0x02 tag .badValue .nothing
      else (setEnable enable { s with
        time := { s.time with trim := trim }, follower := { s.follower with window := window } }).answered 0x02 tag .ok .nothing) := by
  change execClockConfig tag enable window trim s = _
  rw [execClockConfig, serve_ready h]
  have ranges : (!(within 1 window 30 && -128 ≤ trim && trim ≤ 127)) = true ↔
      window < 1 ∨ 30 < window ∨ trim < -128 ∨ 127 < trim := by
    simp [within]; omega
  simp only [ranges]
  split <;> rfl

/-- Settles O8: the three cases of the enable flag, each by its own lemma. -/
theorem clockConfigAppliesItsThreeValues : Obligations.ClockConfigAppliesItsThreeValues := by
  intro s tag enable window trim ready
  rw [exec_clockConfig ready]
  congr 2
  dsimp only
  congr 1
  by_cases on : enable = true ∧ s.follower.state = .off
  · obtain ⟨rfl, off⟩ := on
    rw [if_pos ⟨rfl, off⟩]
    exact setEnable_on off
  · rw [if_neg on]
    by_cases off : enable = false ∧ s.follower.state ≠ .off
    · obtain ⟨rfl, running⟩ := off
      rw [if_pos ⟨rfl, running⟩]
      exact setEnable_off running
    · rw [if_neg off]
      exact setEnable_same on off

/-- The mark of the bells raised to a minute is the larger of the two (R157). -/
theorem Bells.raiseMark_eq (m : Nat) (b : Bells) : b.raiseMark m = { b with highWater := max b.highWater m } := by
  unfold Bells.raiseMark
  split
  · rw [Nat.max_eq_right (by omega)]
  · rw [Nat.max_eq_left (by omega)]

theorem largeStep_iff (old new : Nat) : largeStep (stepSize old new) = true ↔ old + 60 ≤ new ∨ new + 60 ≤ old := by
  rw [largeStep, Bool.or_eq_true, decide_eq_true_eq, decide_eq_true_eq, stepSize]
  omega

/-- The time step at its two receivers (R6, R47, R157). -/
theorem timeStep_eq (old : Nat) (s : State) :
    timeStep old s = { s with
      bells := { s.bells with highWater := max s.bells.highWater (s.time.day * 1440 + s.time.second / 60) }
      workers := if old + 60 ≤ s.time.day * 86400 + s.time.second ∨ s.time.day * 86400 + s.time.second + 60 ≤ old
        then s.workers.map markStepped else s.workers } := by
  unfold timeStep
  simp only [Bells.raiseMark_eq, largeStep_iff, State.plantSecond, Timebase.plantSecond, State.plantMinute, Timebase.plantMinute,
    Timebase.minuteOfDay]
  split <;> rfl

/-- An enabled follower that is LOCKED or in HOLDOVER goes to SEARCH at a CLOCK_SET (R5). -/
theorem followerClockSet_eq (s : State) :
    followerClockSet s = if s.follower.state = .locked ∨ s.follower.state = .holdover then
        queueReport (.clockEvent s.follower.state .search .clockSet (s.time.day * 86400 + s.time.second) s.follower.phase)
          { s with follower := { s.follower with state := .search } }
      else s := by
  unfold followerClockSet
  cases state : s.follower.state <;> simp [followerEvent_eq, state]

theorem exec_clockSet {s : State} (h : s.Ready) (tag day second : Nat) :
    exec (.clockSet tag day second) s = .next (
      if 65535 < day ∨ 86399 < second then s.answered 0x01 tag .badValue .nothing
      else (setClock day second s).answered 0x01 tag .ok .nothing) := by
  change execClockSet tag day second s = _
  rw [execClockSet, serve_ready h]
  have ranges : (!(within 0 day 65535 && within 0 second 86399)) = true ↔ 65535 < day ∨ 86399 < second := by
    simp [within]
  simp only [ranges]
  split <;> rfl

/-- The follower keeps all but its state and the window in force through a CLOCK_SET. -/
theorem setClock_minuteWindow (day second : Nat) (s : State) : (setClock day second s).follower.minuteWindow = s.follower.window := by
  simp only [setClock, timeStep_eq, followerClockSet_eq]
  split
  · rfl
  · rfl

/-- A record marked at a large step (R41, R47). -/
theorem markStepped_open {w : WorkerRecord} {a : Attendance} (h : w.attendance = some a) :
    markStepped w = raise .timeStepped (some a.tag) w := by
  simp [markStepped, h]

/-- Settles O7: the refusal, and the time loaded with its step at the bells, the worker table and the follower. -/
theorem clockSetLoadsTheTimeAndMarksALargeStep : Obligations.ClockSetLoadsTheTimeAndMarksALargeStep := by
  refine ⟨fun s tag day second ready => ⟨_, exec_clockSet ready tag day second, ?_⟩, fun w => ⟨fun absent => ?_, fun a attended => ?_⟩⟩
  · by_cases refused : 65535 < day ∨ 86399 < second
    · rw [if_pos refused, if_pos refused]
    · simp only [if_neg refused, State.answered_follower, setClock_minuteWindow]
      simp only [setClock, timeStep_eq, followerClockSet_eq]
      rfl
  · simp [markStepped, absent]
  · rw [markStepped_open attended, raise_frame]
    cases a.tag <;> rfl

end Sys2Proof.Machine
end

section
/-! PROOFS. The second event (Sections 1.1, 1.2, 1.5.5, 6.4, 11.1): the count, its receivers, and the statement. -/

namespace Sys2Proof.Machine

/-! ## Counting (R1, R2) -/

theorem Timebase.advance_of_lt {t : Timebase} {n : Nat} (h : t.second + n < 86400) :
    t.advance n = { t with second := t.second + n } := if_pos h

/-- The time moved on, as the pair of its day and its second. -/
theorem Timebase.advance_eq (t : Timebase) (n : Nat) :
    t.advance n = { t with
      day := (if t.second + n < 86400 then (t.day, t.second + n) else ((t.day + 1) % 65536, t.second + n - 86400)).1
      second := (if t.second + n < 86400 then (t.day, t.second + n) else ((t.day + 1) % 65536, t.second + n - 86400)).2 } := by
  unfold Timebase.advance
  split <;> rfl

theorem Timebase.advance_validity (t : Timebase) (n : Nat) : (t.advance n).validity = t.validity := by
  rw [Timebase.advance_eq]

/-- The plant minute moves exactly when the time moved on leaves its minute, the wrap of the day among it. -/
theorem Timebase.advance_plantMinute {t : Timebase} {n : Nat} (inDay : t.second < 86400) (le : n ≤ 60) :
    (t.advance n).plantMinute = t.plantMinute ↔ t.second % 60 + n < 60 := by
  unfold Timebase.advance Timebase.plantMinute Timebase.minuteOfDay
  split
  · dsimp only; omega
  · dsimp only; omega

/-- The time moved on to the next minute stands in its first second. -/
theorem Timebase.advance_secondOfMinute {t : Timebase} {n : Nat} (ends : t.second % 60 + n = 60) :
    (t.advance n).secondOfMinute = 0 := by
  unfold Timebase.advance Timebase.secondOfMinute
  split
  · dsimp only; omega
  · dsimp only; omega

/-- A count within the minute: the held second 59, or one second on, with HOLD become HOLDING at second 59 (R2). -/
theorem Timebase.count_within {t : Timebase} (inDay : t.second < 86400)
    (within : t.second % 60 < 58 ∨ (t.second % 60 = 58 ∧ t.mark ≠ .omit) ∨ (t.second % 60 = 59 ∧ t.mark = .holding)) :
    t.count = { t with
      second := if t.mark = .holding then t.second else t.second + 1
      mark := if t.mark = .holding then .none else if t.mark = .hold ∧ t.second % 60 = 58 then .holding else t.mark } := by
  unfold Timebase.count Timebase.secondOfMinute
  cases mark : t.mark with
  | holding => simp
  | _ =>
    have room : t.second + 1 < 86400 := by
      simp only [mark, reduceCtorEq, and_false, or_false] at within
      omega
    by_cases last : t.second % 60 = 58
    · simp_all [Timebase.advance_of_lt room]
    · simp_all [Timebase.advance_of_lt room]

/-- A count that begins the next minute: from second 59, or from second 58 over an omitted second (R2). -/
theorem Timebase.count_next {t : Timebase} {omitted : Bool} (from58 : omitted = true → t.second % 60 = 58 ∧ t.mark = .omit)
    (from59 : omitted = false → t.second % 60 = 59 ∧ t.mark ≠ .holding) :
    t.count = { t.advance (if omitted then 2 else 1) with mark := if omitted then .none else t.mark } := by
  unfold Timebase.count Timebase.secondOfMinute
  cases omitted with
  | true =>
    obtain ⟨at58, mark⟩ := from58 rfl
    simp [mark, at58]
  | false =>
    obtain ⟨at59, mark⟩ := from59 rfl
    have same : { t.advance 1 with mark := t.mark } = t.advance 1 := by
      unfold Timebase.advance
      split <;> rfl
    cases kind : t.mark with
    | holding => exact absurd kind mark
    | _ => simp_all

/-! ## The second event at its receivers (R1 to R3, R14, R102, R163) -/

theorem State.live_of_works {s : State} (h : s.Works) : s.live = true := s.live_iff.mpr h

theorem State.not_live {s : State} (h : s.supply.state = .backup ∨ s.supply.resetnHigh = false) : s.live = false := by
  rw [State.live]
  rcases h with h | h <;> simp [h]

/-- The gate timers of a part, each running one a second lower (R102). -/
def State.timersDown (s : State) : Vector Gate 16 :=
  Vector.ofFn fun g => { s.gates[g] with
    releaseTimer := s.gates[g].releaseTimer.map (· - 1), heldTimer := s.gates[g].heldTimer.map (· - 1) }

theorem gateSeconds_working {s : State} (h : s.Works) : gateSeconds s = { s with gates := s.timersDown } := by
  rw [gateSeconds, if_pos (State.live_of_works h)]
  rfl

theorem backupSecond_run {s : State} (h : s.supply.state = .run) : backupSecond s = s := by
  rw [backupSecond, h]

theorem backupSecond_eq (s : State) :
    backupSecond s = { s with supply := if s.supply.state = .backup
      then { s.supply with duration := min 4294967295 (s.supply.duration + 1) } else s.supply } := by
  unfold backupSecond
  cases state : s.supply.state <;> rfl

/-- A change of the time within its minute gives no minute event. -/
theorem noteMinute_same {before : Nat} {s : State} (h : s.plantMinute = before) : noteMinute before s = s := if_pos h

/-- A change of the time to another minute gives a working part the minute event, with the window C of the new minute (R3, R9). -/
theorem noteMinute_next {before : Nat} {s : State} (h : s.plantMinute ≠ before) (works : s.Works) :
    noteMinute before s = minuteEvent { s with follower := { s.follower with minuteWindow := s.follower.window } } := by
  rw [noteMinute, if_neg h]
  exact if_pos (State.live_of_works works)

/-- A part that does not work takes the window C of the new minute alone (R163, R165). -/
theorem noteMinute_not_live {before : Nat} {s : State} (off : s.live = false) :
    noteMinute before s = { s with follower :=
      if s.plantMinute = before then s.follower else { s.follower with minuteWindow := s.follower.window } } := by
  have off' : ({ s with follower := { s.follower with minuteWindow := s.follower.window } } : State).live = false := off
  unfold noteMinute
  split
  · rfl
  · simp only [off']
    rfl

theorem windowWatch_not_live {s : State} (off : s.live = false) : windowWatch s = s :=
  if_neg fun due => by simp [off] at due

/-- The window check (R14): the flag spent, the first miss in a row marked, or the second one in a row taking the follower to
HOLDOVER. -/
theorem windowCheck_eq {s : State} (locked : s.follower.state = .locked) :
    windowCheck s =
      if s.follower.windowFlag then { s with follower := { s.follower with windowFlag := false } }
      else if s.follower.missingRun = 0 then { s with follower := { s.follower with missingRun := 1, miss1 := true } }
      else queueReport (.clockEvent .locked .holdover .miss (s.time.day * 86400 + s.time.second) s.follower.phase)
        { s with
          time := { s.time with mark := .none }
          follower := { s.follower with missingRun := s.follower.missingRun + 1, miss2 := true, state := .holdover } } := by
  unfold windowCheck missImpulse
  by_cases first : s.follower.missingRun = 0
  · simp [first]
  · have second : ¬ s.follower.missingRun + 1 < 2 := by omega
    simp only [second, first, if_false, followerEvent_eq, clearMark, locked]

theorem windowWatch_working {s : State} (works : s.Works) :
    windowWatch s = if s.follower.state = .locked ∧ s.time.second % 60 = s.follower.minuteWindow + 1 then windowCheck s else s := by
  unfold windowWatch
  simp only [State.live_of_works works, true_and]
  rfl

/-- The minute event does not move the time (R3). -/
@[simp] theorem minuteEvent_time (s : State) : (minuteEvent s).time = s.time := by rw [minuteEvent_frame]

@[simp] theorem minuteEvent_loops (s : State) : (minuteEvent s).loops = s.loops := by rw [minuteEvent_frame]

@[simp] theorem minuteEvent_punch (s : State) : (minuteEvent s).punch = s.punch := by rw [minuteEvent_frame]

@[simp] theorem minuteEvent_gates (s : State) : (minuteEvent s).gates = s.gates := by rw [minuteEvent_frame]

@[simp] theorem minuteEvent_fire (s : State) : (minuteEvent s).fire = s.fire := by rw [minuteEvent_frame]

@[simp] theorem minuteEvent_journal (s : State) : (minuteEvent s).journal = s.journal := by rw [minuteEvent_frame]

@[simp] theorem minuteEvent_supply (s : State) : (minuteEvent s).supply = s.supply := by rw [minuteEvent_frame]

/-- The gate timers' second event is the last of a working part: no backup duration runs. -/
theorem gateSeconds_last {u : State} (works : u.Works) : backupSecond (gateSeconds u) = { u with gates := u.timersDown } := by
  rw [gateSeconds_working works]
  exact backupSecond_run works.1

/-- The second event at the window watch and the gate timers of a working part: the check where it is due, with the flag spent, the
first miss in a row marked, or the second one in a row taking the follower to HOLDOVER (R14, R102). -/
theorem secondReceivers_eq {u : State} (works : u.Works) :
    backupSecond (gateSeconds (windowWatch u)) =
      if u.follower.state = .locked ∧ u.time.second % 60 = u.follower.minuteWindow + 1 then
        if u.follower.windowFlag then { u with gates := u.timersDown, follower := { u.follower with windowFlag := false } }
        else if u.follower.missingRun = 0 then
          { u with gates := u.timersDown, follower := { u.follower with missingRun := 1, miss1 := true } }
        else queueReport (.clockEvent .locked .holdover .miss (u.time.day * 86400 + u.time.second) u.follower.phase)
          { u with
            gates := u.timersDown
            time := { u.time with mark := .none }
            follower := { u.follower with missingRun := u.follower.missingRun + 1, miss2 := true, state := .holdover } }
      else { u with gates := u.timersDown } := by
  rw [windowWatch_working works]
  by_cases due : u.follower.state = .locked ∧ u.time.second % 60 = u.follower.minuteWindow + 1
  · rw [if_pos due, if_pos due, windowCheck_eq due.1]
    split
    · exact gateSeconds_last works
    · split
      · exact gateSeconds_last works
      · exact gateSeconds_last works
  · rw [if_neg due, if_neg due]
    exact gateSeconds_last works

/-- The part after the count of a second event, before any receiver of it. -/
def State.counted (s : State) : State := { s with time := { s.time.count with divider := s.time.reload } }

/-- A second event of a working part: the count, the minute event where a minute begins, the window watch, and the gate timers. -/
theorem exec_secondEvent_working {s : State} (valid : s.supply.retention = .valid) (works : s.Works) :
    exec .secondEvent s = .next (backupSecond (gateSeconds (windowWatch
      (noteMinute s.plantMinute s.counted)))) := by
  rw [exec_secondEvent_valid valid, secondEvent, State.live_of_works works]
  rfl

/-- The part as a second event that begins a minute brings it to the minute event (R2, R9). -/
def State.minuteBegun (s : State) (omitted : Bool) : State :=
  { s with
    time := { s.time.advance (if omitted then 2 else 1) with
      divider := s.time.reload, mark := if omitted then .none else s.time.mark }
    follower := { s.follower with minuteWindow := s.follower.window } }

/-- A second event that begins a minute in a working part (R2, R3). -/
theorem exec_secondEvent_next {s : State} (valid : s.supply.retention = .valid) (works : s.Works) (inDay : s.time.second < 86400)
    {omitted : Bool} (from58 : omitted = true → s.time.second % 60 = 58 ∧ s.time.mark = .omit)
    (from59 : omitted = false → s.time.second % 60 = 59 ∧ s.time.mark ≠ .holding) :
    exec .secondEvent s = .next { minuteEvent (s.minuteBegun omitted) with gates := s.timersDown } := by
  have ends : s.time.second % 60 + (if omitted then 2 else 1) = 60 := by
    cases omitted
    · have := from59 rfl; simp; omega
    · have := from58 rfl; simp; omega
  have moved : (s.minuteBegun omitted).plantMinute ≠ s.plantMinute := fun same => by
    have := (Timebase.advance_plantMinute inDay (by split <;> omega)).mp same
    omega
  have first : (minuteEvent (s.minuteBegun omitted)).time.secondOfMinute = 0 := by
    rw [minuteEvent_time]
    exact Timebase.advance_secondOfMinute ends
  have works' : (minuteEvent (s.minuteBegun omitted)).Works := by
    rw [State.Works, minuteEvent_supply]
    exact works
  have minute : noteMinute s.plantMinute s.counted = minuteEvent (s.minuteBegun omitted) := by
    rw [State.counted, Timebase.count_next from58 from59]
    exact noteMinute_next moved works
  rw [exec_secondEvent_working valid works, minute, secondReceivers_eq works', if_neg]
  · simp only [State.timersDown, minuteEvent_gates]
    rfl
  · rintro ⟨-, check⟩
    exact absurd (first.symm.trans check) (by simp)

/-- The second event at the receivers of a part that does not work: the backup duration alone (R163). -/
theorem secondReceivers_not_live {u : State} (off : u.live = false) :
    backupSecond (gateSeconds (windowWatch u)) = { u with supply := if u.supply.state = .backup
      then { u.supply with duration := min 4294967295 (u.supply.duration + 1) } else u.supply } := by
  rw [windowWatch_not_live off, gateSeconds, if_neg (by simp [off]), backupSecond_eq]

/-- A second event of a part that does not work: one second on, the window C of a minute it begins, and the backup duration (R17,
R163). -/
theorem exec_secondEvent_not_live {s : State} (valid : s.supply.retention = .valid) (inDay : s.time.second < 86400)
    (off : s.live = false) :
    exec .secondEvent s = .next { s with
      time := { s.time.advance 1 with divider := s.time.reload, mark := .none }
      follower := if s.time.second % 60 = 59 then { s.follower with minuteWindow := s.follower.window } else s.follower
      supply := if s.supply.state = .backup then { s.supply with duration := min 4294967295 (s.supply.duration + 1) }
        else s.supply } := by
  have begins : (s.time.advance 1).plantMinute = s.plantMinute ↔ ¬ s.time.second % 60 = 59 :=
    (Timebase.advance_plantMinute inDay (by omega)).trans (by omega)
  have minute : noteMinute s.plantMinute { s with time := { s.time.advance 1 with divider := s.time.reload, mark := .none } } =
      { s with
        time := { s.time.advance 1 with divider := s.time.reload, mark := .none }
        follower := if (s.time.advance 1).plantMinute = s.plantMinute then s.follower
          else { s.follower with minuteWindow := s.follower.window } } := noteMinute_not_live off
  rw [exec_secondEvent_valid valid, secondEvent, off, Timebase.secondEvent_coast]
  dsimp only
  simp only [minute, begins, ite_not]
  exact congrArg _ (secondReceivers_not_live off)

/-- Settles O9: within the minute, at its end, while the part does not work, and with the Timebase stopped. -/
theorem secondEventsCountTheTime : Obligations.SecondEventsCountTheTime := by
  refine ⟨fun s valid works inDay within _ => ?_, fun s valid inDay => ⟨fun works omitted from58 from59 => ?_, fun off => ?_⟩,
    fun s => exec_secondEvent_lost⟩
  · have same : s.time.count.plantMinute = s.time.plantMinute := by
      rw [Timebase.count_within inDay within]
      unfold Timebase.plantMinute Timebase.minuteOfDay
      dsimp only
      by_cases holding : s.time.mark = .holding
      · rw [if_pos holding]
      · rw [if_neg holding]
        simp only [holding, and_false, or_false] at within
        omega
    have minute : noteMinute s.plantMinute s.counted = s.counted := noteMinute_same same
    have works' : s.counted.Works := works
    rw [exec_secondEvent_working valid works, minute, secondReceivers_eq works', State.counted, Timebase.count_within inDay within]
    rfl
  · rw [exec_secondEvent_next valid works inDay from58 from59, State.minuteBegun, Timebase.advance_eq]
    rfl
  · rw [exec_secondEvent_not_live valid inDay (State.not_live off), Timebase.advance_eq]
    rfl

end Sys2Proof.Machine
end

section
/-! PROOFS. The minute event at the worker table (Sections 1.2, 3.7): auto-close as a map of an ordered table, the record it leaves, and the
statement. -/

namespace Sys2Proof.Machine

/-! ## Auto-close (R44, R45) -/

/-- One record at a minute event, as auto-close leaves it. -/
def closeOverdue (c : Calendar) (now : Nat) (w : WorkerRecord) : WorkerRecord :=
  match w.attendance with
  | none => w
  | some a => if limitPassed c now a then autoCloseRecord c a w else w

/-- Limits and credits are read from the shift table, the tally parameters and the rates, never from the open reference counts. -/
theorem closeOverdue_openRefs (c : Calendar) (refs : Vector Nat 15) (now : Nat) (w : WorkerRecord) :
    closeOverdue { c with openRefs := refs } now w = closeOverdue c now w := rfl

/-- Auto-close changes the attendance, the presence, the banks and the marks of a record, never its badge or its gates. -/
theorem autoCloseRecord_frame (c : Calendar) (a : Attendance) (w : WorkerRecord) :
    autoCloseRecord c a w = { w with
      presence := if a.isOpen then .unknown else w.presence
      attendance := none
      pendingSet := (autoCloseRecord c a w).pendingSet
      changed := (autoCloseRecord c a w).changed
      current := (autoCloseRecord c a w).current
      closing := (autoCloseRecord c a w).closing } := by
  unfold autoCloseRecord
  split
  · dsimp only
    rw [finalizeRecord_frame, raise_frame]
  · rw [finalizeRecord_frame]

theorem closeOverdue_badge (c : Calendar) (now : Nat) (w : WorkerRecord) : (closeOverdue c now w).badge = w.badge := by
  unfold closeOverdue
  split
  · rfl
  · split
    · rw [autoCloseRecord_frame]
    · rfl

/-- Replacing the one record of a badge leaves the others. -/
theorem replaceWorker_append_cons {w v : WorkerRecord} {done rest : List WorkerRecord} (same : v.badge = w.badge)
    (before : ∀ x ∈ done, x.badge ≠ w.badge) (after : ∀ x ∈ rest, x.badge ≠ w.badge) :
    replaceWorker v (done ++ w :: rest) = done ++ v :: rest := by
  have others : ∀ l : List WorkerRecord, (∀ x ∈ l, x.badge ≠ w.badge) → (l.map fun x => if x.badge = v.badge then v else x) = l := by
    intro l apart
    rw [List.map_congr_left (g := id)]
    · exact List.map_id l
    · exact fun x hx => if_neg (same ▸ apart x hx)
  unfold replaceWorker
  rw [List.map_append, List.map_cons, others done before, others rest after, if_pos same.symm]

/-- Auto-close of one record of an ordered table, in its place. -/
theorem autoCloseOne_workers (now : Nat) {s : State} {w : WorkerRecord} {done rest : List WorkerRecord}
    (table : s.workers = done ++ w :: rest) (before : ∀ x ∈ done, x.badge ≠ w.badge) (after : ∀ x ∈ rest, x.badge ≠ w.badge) :
    (autoCloseOne now s w).workers = done ++ closeOverdue s.calendar now w :: rest := by
  unfold autoCloseOne closeOverdue
  cases attendance : w.attendance with
  | none => exact table
  | some a =>
    dsimp only
    split
    · have badge : (autoCloseRecord s.calendar a w).badge = w.badge := by rw [autoCloseRecord_frame]
      rw [setWorker_workers, releaseFinalized_frame]
      exact (congrArg _ table).trans (replaceWorker_append_cons badge before after)
    · exact table

/-- Auto-close of one record keeps all of the calendar but the open reference counts. -/
theorem autoCloseOne_calendar (now : Nat) (s : State) (w : WorkerRecord) :
    (autoCloseOne now s w).calendar = { s.calendar with openRefs := (autoCloseOne now s w).calendar.openRefs } := by
  unfold autoCloseOne
  split
  · rfl
  · split
    · rw [setWorker_calendar, releaseFinalized_frame]
    · rfl

/-- The walk over what is left of an ordered table, the records before it done. -/
theorem foldl_autoCloseOne_workers (now : Nat) (todo : List WorkerRecord) : ∀ (done : List WorkerRecord) (s : State),
    s.workers = done ++ todo → (done ++ todo).Pairwise (fun a b => a.badge < b.badge) →
    (todo.foldl (autoCloseOne now) s).workers = done ++ todo.map (closeOverdue s.calendar now) := by
  induction todo with
  | nil => intro done s table _; simpa using table
  | cons w rest ih =>
    intro done s table ordered
    obtain ⟨-, tail, cross⟩ := List.pairwise_append.mp ordered
    have before : ∀ x ∈ done, x.badge ≠ w.badge := fun x hx => Nat.ne_of_lt (cross x hx w List.mem_cons_self)
    have after : ∀ x ∈ rest, x.badge ≠ w.badge := fun x hx => Nat.ne_of_gt ((List.pairwise_cons.mp tail).1 x hx)
    have closedHere := autoCloseOne_workers now table before after
    have ordered' : ((done ++ [closeOverdue s.calendar now w]) ++ rest).Pairwise (fun a b => a.badge < b.badge) := by
      rw [← List.pairwise_map (f := WorkerRecord.badge) (R := (· < ·))] at ordered ⊢
      simpa [closeOverdue_badge] using ordered
    rw [List.foldl_cons, ih (done ++ [closeOverdue s.calendar now w]) _ (by simpa using closedHere) ordered', autoCloseOne_calendar]
    simp [closeOverdue_openRefs]

/-- Auto-close finalizes exactly the overdue records of an ordered table, each where it stands (R44). -/
theorem autoClose_workers (now : Nat) {s : State} (ordered : s.WorkersOrdered) :
    (autoClose now s).workers = s.workers.map (closeOverdue s.calendar now) :=
  foldl_autoCloseOne_workers now s.workers [] s rfl ordered.2.1

/-! ## The minute event at the worker table (R3, R44) -/

/-- A minute event that carries UNSET does nothing (R44, R156). -/
theorem minuteEvent_unset {s : State} (unset : s.time.validity = .unset) : minuteEvent s = s := by
  simp [minuteEvent, unset, Bells.dueCheck]

/-- A minute event that carries SET closes exactly the overdue attendances of the table (R44). -/
theorem minuteEvent_workers {s : State} (ordered : s.WorkersOrdered) (set : s.time.validity = .set) :
    (minuteEvent s).workers = s.workers.map (closeOverdue s.calendar s.plantMinute) := by
  simp only [minuteEvent, if_pos set]
  exact autoClose_workers s.plantMinute ordered

/-- The limits of R44, the UNSCHEDULED one first. -/
theorem limitPassed_eq (c : Calendar) (m : Nat) (a : Attendance) :
    limitPassed c m a = (m == 0 || match a.kind with
      | .unscheduled => decide (a.start + c.tally.unschedLimit ≤ m)
      | .scheduled code stop => (c.shiftOf code).any fun d => decide (stop + d.closeDelay ≤ m)) := by
  unfold limitPassed
  cases a.kind with
  | unscheduled => rfl
  | scheduled code stop =>
    dsimp only
    cases c.shiftOf code with
    | none => rfl
    | some d => rfl

/-- One record at a minute event, its limit written out. -/
theorem closeOverdue_eq (c : Calendar) (m : Nat) (w : WorkerRecord) :
    closeOverdue c m w = match w.attendance with
      | none => w
      | some a =>
        let passed : Bool := m == 0 || match a.kind with
          | .unscheduled => a.start + c.tally.unschedLimit ≤ m
          | .scheduled code stop => (c.shiftOf code).any fun d => stop + d.closeDelay ≤ m
        if passed then autoCloseRecord c a w else w := by
  unfold closeOverdue
  cases w.attendance with
  | none => rfl
  | some a => exact congrArg (fun passed : Bool => if passed then autoCloseRecord c a w else w) (limitPassed_eq c m a)

/-! ## The record closed by the part (R39, R45, R126) -/

/-- The unseen out minute closes the open last segment (R45). -/
theorem closeUnseen_eq {a : Attendance} {g : Segment} (last : a.segments.getLast? = some g) :
    a.closeUnseen = a.closed g (a.unseenOut g.inMinute) := by
  unfold Attendance.closeUnseen Attendance.onLast
  rw [last]
  rfl

theorem isOpen_eq {a : Attendance} {g : Segment} (last : a.segments.getLast? = some g) : a.isOpen = g.outMinute.isNone := by
  unfold Attendance.isOpen
  rw [last]

/-- A record whose worker the part has not seen leave: presence UNKNOWN, and MISSED_OUT for an attendance of the tag (R45). -/
def WorkerRecord.missed (w : WorkerRecord) (tag : BankTag) : WorkerRecord :=
  ({ w with presence := .unknown } : WorkerRecord).raised (some tag) fun x => { x with missedOut := true }

/-- An open attendance closed by the part (R45). -/
theorem autoCloseRecord_open {c : Calendar} {w : WorkerRecord} {a : Attendance} {g : Segment}
    (last : a.segments.getLast? = some g) (isOpen : g.outMinute = none) :
    autoCloseRecord c a w = (w.missed a.tag).finalized c (a.closed g (a.unseenOut g.inMinute)) := by
  have isOpen' : a.isOpen = true := by rw [isOpen_eq last, isOpen]; rfl
  rw [autoCloseRecord, if_pos isOpen', closeUnseen_eq last]
  dsimp only
  rw [raise_eq_raised]
  rfl

/-- An attendance with its last segment closed is finalized as it is (R45). -/
theorem autoCloseRecord_closed {c : Calendar} {w : WorkerRecord} {a : Attendance} {g : Segment}
    (last : a.segments.getLast? = some g) (closed : g.outMinute.isSome = true) : autoCloseRecord c a w = w.finalized c a := by
  obtain ⟨out, isSome⟩ := Option.isSome_iff_exists.mp closed
  rw [autoCloseRecord, isOpen_eq last, isSome]
  rfl

/-- Raising an anomaly that belongs to an attendance of a tag leaves the totals of every bank, and the other bank whole (R41). -/
theorem raiseIf_banks (cond : Bool) (x : Anomaly) (tag : BankTag) (w : WorkerRecord) :
    ((raiseIf cond x (some tag) w).bank tag).count = (w.bank tag).count ∧
      (tag = .current → (raiseIf cond x (some tag) w).closing = w.closing) ∧
      (tag = .closing → (raiseIf cond x (some tag) w).current = w.current) := by
  unfold raiseIf
  split
  · rw [raise_frame]
    cases tag <;> simp [WorkerRecord.bank, Bank.addAnomaly]
  · simp

/-- Raising another anomaly leaves MISSED_OUT as it was (R41). -/
theorem raiseIf_missedOut (cond : Bool) {x : Anomaly} (other : x = .timeStepped ∨ x = .saturated) (tag : BankTag) (w : WorkerRecord) :
    (raiseIf cond x (some tag) w).pendingSet.missedOut = w.pendingSet.missedOut ∧
      ((raiseIf cond x (some tag) w).bank tag).anomalies.missedOut = (w.bank tag).anomalies.missedOut := by
  unfold raiseIf
  split
  · rw [raise_frame]
    obtain rfl | rfl := other <;> cases tag <;> exact ⟨rfl, rfl⟩
  · exact ⟨rfl, rfl⟩

/-- Raising an anomaly never takes the changed mark away (R43). -/
theorem raiseIf_changed (cond : Bool) (x : Anomaly) (owner : Option BankTag) {w : WorkerRecord} (changed : w.changed = true) :
    (raiseIf cond x owner w).changed = true := by
  unfold raiseIf
  split
  · rw [raise_frame]
  · exact changed

/-- The record with one tally credited to the bank a tag names, and the changed mark (R126, R137). -/
def WorkerRecord.credited (w : WorkerRecord) (tag : BankTag) (t : TallyResult) (crew : Option Nat) : WorkerRecord :=
  { w.onBank tag (·.credit t crew) with changed := true }

/-- A credit raises nothing itself, counts one attendance, to at most 255, and leaves the other bank (R137). -/
theorem credited_banks (w : WorkerRecord) (tag : BankTag) (t : TallyResult) (crew : Option Nat) :
    ((w.credited tag t crew).pendingSet = w.pendingSet ∧
      ((w.credited tag t crew).bank tag).anomalies = (w.bank tag).anomalies) ∧
    ((w.credited tag t crew).bank tag).count = min 255 ((w.bank tag).count + 1) ∧
      (tag = .current → (w.credited tag t crew).closing = w.closing) ∧
      (tag = .closing → (w.credited tag t crew).current = w.current) := by
  cases tag <;> simp [WorkerRecord.credited, WorkerRecord.onBank, WorkerRecord.bank, Bank.credit, Config.countLimit]

/-- The three parts of a credit: TIME_STEPPED, the bank, SATURATED (R126, R130, R138). -/
theorem creditAttendance_parts (c : Calendar) (a : Attendance) (w : WorkerRecord) : ∃ cut, creditAttendance c a w =
    raiseIf cut .saturated (some a.tag)
      ((raiseIf (tally c w.grade a).stepped .timeStepped (some a.tag) w).credited a.tag (tally c w.grade a) a.crew) := ⟨_, rfl⟩

/-- Every credit sets the changed mark (R43, R126). -/
theorem finalized_changed (c : Calendar) (a : Attendance) (w : WorkerRecord) : (w.finalized c a).changed = true := by
  obtain ⟨cut, parts⟩ := creditAttendance_parts c a w
  rw [WorkerRecord.finalized, parts]
  exact raiseIf_changed _ _ _ rfl

/-- A credit raises no anomaly but TIME_STEPPED and SATURATED (R130, R138). -/
theorem finalized_missedOut (c : Calendar) (a : Attendance) (w : WorkerRecord) :
    (w.finalized c a).pendingSet.missedOut = w.pendingSet.missedOut ∧
      ((w.finalized c a).bank a.tag).anomalies.missedOut = (w.bank a.tag).anomalies.missedOut := by
  obtain ⟨cut, parts⟩ := creditAttendance_parts c a w
  let stepped := raiseIf (tally c w.grade a).stepped .timeStepped (some a.tag) w
  let credited := stepped.credited a.tag (tally c w.grade a) a.crew
  obtain ⟨pending1, bank1⟩ := raiseIf_missedOut (tally c w.grade a).stepped (.inl rfl) a.tag w
  obtain ⟨⟨pending2, bank2⟩, -⟩ := credited_banks stepped a.tag (tally c w.grade a) a.crew
  obtain ⟨pending3, bank3⟩ := raiseIf_missedOut cut (.inr rfl) a.tag credited
  have finalized : w.finalized c a = { raiseIf cut .saturated (some a.tag) credited with attendance := none } := by
    rw [WorkerRecord.finalized, parts]
  rw [finalized]
  exact ⟨pending3.trans ((congrArg _ pending2).trans pending1), bank3.trans ((congrArg _ bank2).trans bank1)⟩

/-- A finalization counts one attendance in the bank the tag names, to at most 255, and leaves the other bank (R126, R137). -/
theorem finalized_banks (c : Calendar) (a : Attendance) (w : WorkerRecord) :
    ((w.finalized c a).bank a.tag).count = min 255 ((w.bank a.tag).count + 1) ∧
      (a.tag = .current → (w.finalized c a).closing = w.closing) ∧ (a.tag = .closing → (w.finalized c a).current = w.current) := by
  obtain ⟨cut, parts⟩ := creditAttendance_parts c a w
  let stepped := raiseIf (tally c w.grade a).stepped .timeStepped (some a.tag) w
  let credited := stepped.credited a.tag (tally c w.grade a) a.crew
  obtain ⟨count1, closing1, current1⟩ := raiseIf_banks (tally c w.grade a).stepped .timeStepped a.tag w
  obtain ⟨-, count2, closing2, current2⟩ := credited_banks stepped a.tag (tally c w.grade a) a.crew
  obtain ⟨count3, closing3, current3⟩ := raiseIf_banks cut .saturated a.tag credited
  have finalized : w.finalized c a = { raiseIf cut .saturated (some a.tag) credited with attendance := none } := by
    rw [WorkerRecord.finalized, parts]
  rw [finalized]
  exact ⟨count3.trans (count2.trans (by rw [count1])), fun tag => (closing3 tag).trans ((closing2 tag).trans (closing1 tag)),
    fun tag => (current3 tag).trans ((current2 tag).trans (current1 tag))⟩

/-- MISSED_OUT stands in both sets; the totals and the other bank are as they were (R41). -/
theorem missed_banks (w : WorkerRecord) (tag : BankTag) :
    ((w.missed tag).pendingSet.missedOut = true ∧ ((w.missed tag).bank tag).anomalies.missedOut = true) ∧
      ((w.missed tag).bank tag).count = (w.bank tag).count ∧
      (tag = .current → (w.missed tag).closing = w.closing) ∧ (tag = .closing → (w.missed tag).current = w.current) := by
  cases tag <;> simp [WorkerRecord.missed, WorkerRecord.raised, WorkerRecord.bank]

/-- What auto-close leaves of MISSED_OUT in the record, with its last segment open and with it closed (R45). -/
theorem autoCloseRecord_missedOut (c : Calendar) (w : WorkerRecord) {a : Attendance} {g : Segment} (last : a.segments.getLast? = some g) :
    (g.outMinute = none → (autoCloseRecord c a w).pendingSet.missedOut = true ∧
      ((autoCloseRecord c a w).bank a.tag).anomalies.missedOut = true) ∧
    (g.outMinute.isSome = true → (autoCloseRecord c a w).pendingSet.missedOut = w.pendingSet.missedOut) := by
  refine ⟨fun isOpen => ?_, fun closed => ?_⟩
  · obtain ⟨pending, bank⟩ := finalized_missedOut c (a.closed g (a.unseenOut g.inMinute)) (w.missed a.tag)
    obtain ⟨⟨pending', bank'⟩, -⟩ := missed_banks w a.tag
    rw [autoCloseRecord_open last isOpen]
    exact ⟨pending.trans pending', bank.trans bank'⟩
  · rw [autoCloseRecord_closed last closed]
    exact (finalized_missedOut c a w).1

/-- Auto-close sets the changed mark, counts one attendance in the bank its tag names, and leaves the other bank (R39, R126). -/
theorem autoCloseRecord_banks (c : Calendar) (w : WorkerRecord) {a : Attendance} {g : Segment} (last : a.segments.getLast? = some g) :
    (autoCloseRecord c a w).changed = true ∧
      ((autoCloseRecord c a w).bank a.tag).count = min 255 ((w.bank a.tag).count + 1) ∧
      (a.tag = .current → (autoCloseRecord c a w).closing = w.closing) ∧
      (a.tag = .closing → (autoCloseRecord c a w).current = w.current) := by
  cases out : g.outMinute with
  | none =>
    obtain ⟨count, closing, current⟩ := finalized_banks c (a.closed g (a.unseenOut g.inMinute)) (w.missed a.tag)
    obtain ⟨-, count', closing', current'⟩ := missed_banks w a.tag
    rw [autoCloseRecord_open last out]
    exact ⟨finalized_changed .., count.trans (congrArg (fun n => min 255 (n + 1)) count'),
      fun tag => (closing tag).trans (closing' tag), fun tag => (current tag).trans (current' tag)⟩
  | some minute =>
    rw [autoCloseRecord_closed last (by rw [out]; rfl)]
    exact ⟨finalized_changed .., finalized_banks c a w⟩

/-- Settles O10: the walk of the table, and what one attendance closed by the part leaves in its record. -/
theorem minuteEventClosesTheOverdueAttendances : Obligations.MinuteEventClosesTheOverdueAttendances := by
  refine ⟨fun s => ⟨minuteEvent_unset, fun ordered set => ?_⟩, fun s ordered valid works set inDay at59 mark => ?_,
    fun c w a attendance g last => ?_⟩
  · rw [minuteEvent_workers ordered set]
    exact List.map_congr_left fun w _ => closeOverdue_eq _ _ w
  · have next := exec_secondEvent_next (omitted := false) valid works inDay (by simp) (fun _ => ⟨at59, by simp [mark]⟩)
    refine ⟨_, next, ?_⟩
    have ordered' : (s.minuteBegun false).WorkersOrdered := ordered
    have set' : (s.minuteBegun false).time.validity = .set := (Timebase.advance_validity _ _).trans set
    dsimp only
    rw [minuteEvent_workers ordered' set', minuteEvent_time]
    exact List.map_congr_left fun w _ => closeOverdue_eq _ _ w
  · have frame := autoCloseRecord_frame c a w
    obtain ⟨missed, closed⟩ := autoCloseRecord_missedOut c w last
    obtain ⟨changed, count, closingBank, currentBank⟩ := autoCloseRecord_banks c w last
    have presence : (autoCloseRecord c a w).presence = if g.outMinute.isNone then .unknown else w.presence := by
      rw [frame, ← isOpen_eq last]
    refine ⟨autoCloseRecord_open last, autoCloseRecord_closed last, by rw [frame], by rw [frame], by rw [frame], by rw [frame], changed,
      fun isOpen => ⟨?_, missed isOpen⟩, fun out => ⟨?_, closed out⟩, count, closingBank, currentBank⟩
    · rw [presence, isOpen]
      rfl
    · obtain ⟨minute, isSome⟩ := Option.isSome_iff_exists.mp out
      rw [presence, isSome]
      rfl

end Sys2Proof.Machine
end

section
/-! PROOFS. The impulse follower (Sections 1.5.1 to 1.5.5): an impulse delivered, the alignment, the discipline, and the two statements. -/

namespace Sys2Proof.Machine

/-! ## Impulses (R8, R10 to R13) -/

/-- The follower with a line held, as the two held flags (R8). -/
theorem Follower.hold_eq (f : Follower) (l : MasterLine) :
    f.hold l = { f with miaHeld := f.miaHeld || l == .mia, mibHeld := f.mibHeld || l == .mib } := by
  cases l <;> simp [Follower.hold]

/-- The part with the impulse's line held by its qualifier (R8). -/
def State.lineHeld (s : State) (l : ActiveLine) : State :=
  { s with follower := { s.follower with
    miaHeld := s.follower.miaHeld || l.line == .mia, mibHeld := s.follower.mibHeld || l.line == .mib } }

theorem lineDelivers_iff (s : State) (l : ActiveLine) :
    s.lineDelivers l ↔ s.Works ∧ (l.rearmed = true ∨ s.follower.held l.line = false) := by
  unfold State.lineDelivers Follower.held
  cases l.line <;> rfl

/-- An impulse that the line delivers is taken with the line held (R8). -/
theorem exec_impulseEvent {s : State} {l : ActiveLine} (delivers : s.lineDelivers l) :
    exec (.impulseEvent l) s = .next (takeImpulse l.line (s.lineHeld l)) := by
  change execImpulseEvent l s = _
  obtain ⟨works, free⟩ := (lineDelivers_iff s l).mp delivers
  rw [execImpulseEvent, whileLive_working works]
  obtain ⟨held, unarmed, -⟩ | ⟨-, taken⟩ := qualifyImpulse_cases l s
  · rw [held, unarmed] at free
    simp at free
  · rw [taken, Follower.hold_eq]
    rfl

/-- A line that does not deliver gives no impulse (R8, R163). -/
theorem exec_impulseEvent_held {s : State} {l : ActiveLine} (held : ¬ s.lineDelivers l) : exec (.impulseEvent l) s = .next s := by
  change execImpulseEvent l s = _
  rw [execImpulseEvent]
  by_cases works : s.Works
  · rw [whileLive_working works]
    obtain ⟨-, -, same⟩ | ⟨free, -⟩ := qualifyImpulse_cases l s
    · rw [same]
    · exact absurd ((lineDelivers_iff s l).mpr ⟨works, free.symm⟩) held
  · exact whileLive_not_working works _

theorem takeImpulse_off {line : MasterLine} {s : State} (off : s.follower.state = .off) : takeImpulse line s = s := by
  simp [takeImpulse, off]

/-- The follower that has accepted an impulse in SEARCH or HOLDOVER (R11). -/
def Follower.aligned (f : Follower) (line : MasterLine) (phase : Int) : Follower :=
  { f with state := .locked, lastLine := some line, phase := phase, windowFlag := true, missingRun := 0, wideRun := 0 }

/-- An impulse in SEARCH or HOLDOVER aligns the time and locks the follower with its CLOCK_EVENT (R11, R16). -/
theorem takeImpulse_aligns {line : MasterLine} {s : State} (free : s.follower.state = .search ∨ s.follower.state = .holdover) :
    takeImpulse line s = noteMinute s.plantMinute
      (queueReport (.clockEvent s.follower.state .locked .align (s.time.align.day * 86400 + s.time.align.second)
          (phaseError s.time.secondOfMinute))
        { s with time := s.time.align, follower := s.follower.aligned line (phaseError s.time.secondOfMinute) }) := by
  unfold takeImpulse
  obtain state | state := free <;> simp only [state, alignTo, followerEvent_eq, Follower.aligned]

/-- Below position 30 the alignment steps back within the minute (R11). -/
theorem Timebase.align_back {t : Timebase} (early : t.second % 60 < 30) :
    t.align = { t with second := t.second - t.second % 60, divider := t.reload, mark := .none } := by
  unfold Timebase.align Timebase.secondOfMinute
  dsimp only
  rw [if_pos early]
  rfl

/-- From position 30 on the alignment steps to the first second of the next minute, over the wrap of the day (R11). -/
theorem Timebase.align_forward {t : Timebase} (inDay : t.second < 86400) (late : 30 ≤ t.second % 60) :
    t.align = { t with
      second := (t.second + (60 - t.second % 60)) % 86400
      day := if t.second + (60 - t.second % 60) = 86400 then (t.day + 1) % 65536 else t.day
      divider := t.reload, mark := .none } := by
  unfold Timebase.align Timebase.secondOfMinute Timebase.advance
  dsimp only
  rw [if_neg (Nat.not_lt.mpr late)]
  by_cases sameDay : t.second + (60 - t.second % 60) < 86400
  · rw [if_pos sameDay, if_neg (Nat.ne_of_lt sameDay), Nat.mod_eq_of_lt sameDay]
    rfl
  · have wraps : t.second + (60 - t.second % 60) = 86400 := by omega
    rw [if_neg sameDay, if_pos wraps, wraps]
    rfl

/-- An alignment below position 30 stays in its minute, and one from position 30 on leaves it (R11). -/
theorem Timebase.align_plantMinute {t : Timebase} (inDay : t.second < 86400) :
    t.align.plantMinute = t.plantMinute ↔ t.second % 60 < 30 := by
  by_cases early : t.second % 60 < 30
  · rw [Timebase.align_back early]
    unfold Timebase.plantMinute Timebase.minuteOfDay
    dsimp only
    omega
  · have moves := Timebase.advance_plantMinute (n := 60 - t.second % 60) inDay (by omega)
    unfold Timebase.align Timebase.secondOfMinute
    dsimp only
    rw [if_neg early]
    exact moves.trans (by omega)

/-- Settles O11: the two alignments, the forward one with the minute event of the minute it begins. -/
theorem impulsesAlignTheClock : Obligations.ImpulsesAlignTheClock := by
  refine ⟨fun s l works delivers inDay free early => ?_, fun s l works delivers inDay free late => ?_⟩
  · have phase : phaseError (s.time.second % 60) = (s.time.second % 60 : Nat) := if_pos early
    have aligned := (takeImpulse_aligns (line := l.line) (s := s.lineHeld l) free).trans
      (noteMinute_same ((Timebase.align_plantMinute inDay).mpr early))
    rw [exec_impulseEvent delivers, aligned]
    simp only [State.lineHeld, Timebase.align_back early, Timebase.secondOfMinute, phase]
    rfl
  · have phase : phaseError (s.time.second % 60) = (s.time.second % 60 : Nat) - 60 := if_neg (Nat.not_lt.mpr late)
    have begins : s.time.align.plantMinute ≠ s.time.plantMinute := fun same =>
      absurd ((Timebase.align_plantMinute inDay).mp same) (Nat.not_lt.mpr late)
    have aligned := (takeImpulse_aligns (line := l.line) (s := s.lineHeld l) free).trans (noteMinute_next begins works)
    refine ⟨_, exec_impulseEvent delivers, ?_⟩
    rw [aligned]
    refine ⟨?_, (minuteEvent_time _).trans (Timebase.align_forward inDay late), minuteEvent_gates _, minuteEvent_loops _,
      minuteEvent_journal _, minuteEvent_punch _, minuteEvent_fire _, minuteEvent_supply _⟩
    simp only [State.lineHeld, Timebase.align_forward inDay late, Timebase.secondOfMinute, phase]
    rfl

/-- The follower that has accepted an impulse in LOCKED (R12, R13). -/
def Follower.accepted (f : Follower) (line : MasterLine) (phase : Int) : Follower :=
  { f with lastLine := some line, phase := phase }

/-- An impulse in LOCKED: ignored on the last accepted line, and otherwise judged against the window (R10). -/
theorem takeImpulse_locked {line : MasterLine} {s : State} (locked : s.follower.state = .locked) :
    takeImpulse line s =
      if s.follower.lastLine = some line then s
      else if inWindow s.follower.window s.time.secondOfMinute then
        disciplineIn (s.follower.accepted line (phaseError s.time.secondOfMinute)) s
      else disciplineOut (s.follower.accepted line (phaseError s.time.secondOfMinute)) s := by
  unfold takeImpulse
  rw [locked]
  rfl

theorem inWindow_iff (c p : Nat) : inWindow c p = true ↔ p ≤ c ∨ 60 - c ≤ p := by
  rw [inWindow, Bool.or_eq_true, decide_eq_true_eq, decide_eq_true_eq]
  omega

/-- The mark that an impulse in the window leaves: one that stands stays, and a phase error of 0 orders none (R12). -/
theorem disciplined_mark (mark : Mark) (e : Int) :
    (if mark = .none then correctionOf e else mark) = if mark ≠ .none ∨ e = 0 then mark else if 0 < e then .hold else .omit := by
  unfold correctionOf
  cases mark with
  | none => by_cases zero : e = 0 <;> simp [zero]
  | _ => simp

/-- An impulse outside the window: the first in a row is marked, and the second gives up the lock (R13). -/
theorem disciplineOut_eq {f : Follower} {s : State} (locked : s.follower.state = .locked) :
    disciplineOut f s =
      if f.wideRun = 0 then { s with follower := { f with wideRun := 1, wide1 := true } }
      else queueReport (.clockEvent .locked .search .wide (s.time.day * 86400 + s.time.second) f.phase)
        { s with
          time := { s.time with mark := .none }
          follower := { f with wideRun := f.wideRun + 1, wide2 := true, state := .search } } := by
  unfold disciplineOut
  by_cases first : f.wideRun = 0
  · simp [first]
  · have second : ¬ f.wideRun + 1 < 2 := by omega
    simp only [second, first, if_false, followerEvent_eq, clearMark, locked]

/-- Settles O12: the held line, the follower in OFF, and the judgement of an impulse in LOCKED. -/
theorem impulseDisciplinesALockedClock : Obligations.ImpulseDisciplinesALockedClock := by
  refine ⟨fun s l => exec_impulseEvent_held, fun s l works delivers => ⟨fun off => ?_, fun locked => ?_⟩⟩
  · rw [exec_impulseEvent delivers, takeImpulse_off (s := s.lineHeld l) off]
    rfl
  · rw [exec_impulseEvent delivers, takeImpulse_locked (s := s.lineHeld l) locked, disciplineOut_eq (s := s.lineHeld l) locked]
    simp only [inWindow_iff, disciplineIn, disciplined_mark]
    rfl

end Sys2Proof.Machine
end

section
/-! PROOFS. The bell due check (Section 10.3): the bells due in a minute, their submission zone by zone, and the statement. -/

namespace Sys2Proof.Machine

/-! ## The due check (R156) -/

/-- A shift's bell minutes on the day whose windows start at minute S (R156). -/
theorem bellMinute_iff (d : ShiftDef) (day m : Nat) :
    bellMinute d day m = true ↔
      m ∈ (if d.bellFlags.testBit 0 && decide (d.warnLead ≤ day * 1440 + d.start) then [day * 1440 + d.start - d.warnLead] else []) ++
        (if d.bellFlags.testBit 1 then [day * 1440 + d.start] else []) ++
        (if d.bellFlags.testBit 2 then d.breaks.flatMap fun x =>
          [day * 1440 + d.start + x.offset, day * 1440 + d.start + x.offset + x.length] else []) ++
        (if d.bellFlags.testBit 3 then [day * 1440 + d.start + d.length] else []) := by
  have warn : ∀ S : Nat, S = m + d.warnLead ↔ d.warnLead ≤ S ∧ m = S - d.warnLead := by omega
  simp only [bellMinute, inMask, shiftStop, shiftStart, Bool.or_eq_true, Bool.and_eq_true, beq_iff_eq, List.any_eq_true, List.mem_append,
    List.mem_ite_nil_right, List.mem_flatMap, List.mem_cons, List.not_mem_nil, or_false, decide_eq_true_eq, warn,
    and_assoc, eq_comm (b := m)]

/-- The days whose shifts' bells are considered (R156). -/
theorem mem_bellDays (day x : Nat) : x ∈ bellDays day ↔ ∃ back : Fin 2, back.val ≤ day ∧ x = day - back.val := by
  unfold bellDays
  split
  · simp [Fin.exists_fin_two]; omega
  · simp [Fin.exists_fin_two]; omega

/-- The shift that gives a zone a cadence at a minute: some crew's, of the minute's day or the day before (R156). -/
def Calendar.GivesBell (cal : Calendar) (m z c : Nat) : Prop :=
  ∃ crew : Fin 8, ∃ back : Fin 2, back.val ≤ m / 1440 ∧
    ∃ d ∈ cal.shiftOf ((cal.rotationOf (crew.val + 1)).codeOn (m / 1440 - back.val)),
      bellMinute d (m / 1440 - back.val) m = true ∧ d.zoneMask.testBit z = true ∧ d.cadence = c

theorem shiftBellDue_iff (cal : Calendar) (m z c : Nat) : cal.shiftBellDue m z c = true ↔ cal.GivesBell m z c := by
  have one : ∀ i day, (match cal.shiftOn (i + 1) day with
      | some (_, d) => bellMinute d day m && inMask d.zoneMask z && d.cadence == c
      | none => false) = true ↔
      ∃ d ∈ cal.shiftOf ((cal.rotationOf (i + 1)).codeOn day), bellMinute d day m = true ∧ d.zoneMask.testBit z = true ∧ d.cadence = c := by
    intro i day
    unfold Calendar.shiftOn
    cases shift : cal.shiftOf ((cal.rotationOf (i + 1)).codeOn day) with
    | none => simp [shift]
    | some d => simp [shift, inMask, and_assoc]
  unfold Calendar.shiftBellDue Calendar.GivesBell
  simp only [List.any_eq_true, List.mem_range, mem_bellDays]
  constructor
  · rintro ⟨i, hi, day, ⟨back, le, rfl⟩, due⟩
    exact ⟨⟨i, hi⟩, back, le, (one i _).mp due⟩
  · rintro ⟨crew, back, le, due⟩
    exact ⟨crew, crew.isLt, _, ⟨back, le, rfl⟩, (one crew _).mpr due⟩

theorem fixedBellDue_iff (b : Bells) (m z c : Nat) :
    b.fixedBellDue m z c = true ↔ ∃ e ∈ b.fixed.toList, ∃ x ∈ e,
      x.minute = m % 1440 ∧ x.days.testBit ((m / 1440 + 6) % 7) = true ∧ x.zones.testBit z = true ∧ x.cadence = c := by
  unfold Bells.fixedBellDue
  rw [List.any_eq_true]
  refine exists_congr fun e => and_congr_right fun _ => ?_
  cases e with
  | none => simp
  | some x => simp [fixedDue, inMask, dayOfWeek, and_assoc]

/-- The submissions of a due check in one list's terms (R156). -/
theorem mem_dueIn (b : Bells) (cal : Calendar) (m z : Nat) (q : QueuedBell) :
    q ∈ b.dueIn cal m z ↔ (1 ≤ q.cadence ∧ q.cadence ≤ 7) ∧
      ((q.cls = .shift ∧ cal.shiftBellDue m z q.cadence = true) ∨
        (q.cls = .fixed ∧ b.fixedBellDue m z q.cadence = true ∧ cal.shiftBellDue m z q.cadence = false)) := by
  have cadences : ∀ c : Nat, c ∈ [1, 2, 3, 4, 5, 6, 7] ↔ 1 ≤ c ∧ c ≤ 7 := by
    intro c; simp; omega
  obtain ⟨c, cls⟩ := q
  simp only [Bells.dueIn, List.mem_append, List.mem_map, List.mem_filter, cadences, QueuedBell.mk.injEq, Bool.and_eq_true,
    Bool.not_eq_true']
  constructor
  · rintro (⟨x, ⟨range, due⟩, rfl, rfl⟩ | ⟨x, ⟨range, due⟩, rfl, rfl⟩)
    · exact ⟨range, .inl ⟨rfl, due⟩⟩
    · exact ⟨range, .inr ⟨rfl, due⟩⟩
  · rintro ⟨range, ⟨rfl, due⟩ | ⟨rfl, due⟩⟩
    · exact .inl ⟨c, ⟨range, due⟩, rfl, rfl⟩
    · exact .inr ⟨c, ⟨range, due⟩, rfl, rfl⟩

/-- The submissions stand in descending order of class and then in ascending order of cadence (R156). -/
theorem dueIn_ordered (b : Bells) (cal : Calendar) (m z : Nat) :
    (b.dueIn cal m z).Pairwise fun p q => q.cls.rank < p.cls.rank ∨ (p.cls = q.cls ∧ p.cadence < q.cadence) := by
  have ascending : ∀ (f : Nat → Bool) (cls : BellClass), (([1, 2, 3, 4, 5, 6, 7].filter f).map fun c => (⟨c, cls⟩ : QueuedBell)).Pairwise
      fun p q => q.cls.rank < p.cls.rank ∨ (p.cls = q.cls ∧ p.cadence < q.cadence) := by
    intro f cls
    have sorted : [1, 2, 3, 4, 5, 6, 7].Pairwise (· < ·) := by decide
    exact List.pairwise_map.mpr ((sorted.filter f).imp fun less => .inr ⟨rfl, less⟩)
  refine List.pairwise_append.mpr ⟨ascending _ _, ascending _ _, ?_⟩
  intro p shift q fixed
  obtain ⟨x, -, rfl⟩ := List.mem_map.mp shift
  obtain ⟨y, -, rfl⟩ := List.mem_map.mp fixed
  exact .inl Nat.zero_lt_one

/-- A shift of the table gives a cadence 1 to 7 (R18). -/
theorem GivesBell_cadence {cal : Calendar} {m z c : Nat} (inTable : ∀ i : Fin 15, ∀ d ∈ cal.shiftOf (i.val + 1), ShiftInTable d)
    (gives : cal.GivesBell m z c) : 1 ≤ c ∧ c ≤ 7 := by
  obtain ⟨crew, back, -, d, defined, -, -, rfl⟩ := gives
  generalize (cal.rotationOf (crew.val + 1)).codeOn (m / 1440 - back.val) = code at defined
  have range : within 1 code 15 = true := by
    by_contra out
    simp [Calendar.shiftOf, out] at defined
  obtain ⟨low, high⟩ := (within_iff ..).mp range
  obtain ⟨-, -, -, -, -, -, -, -, -, -, -, -, -, -, -, -, -, -, cadence⟩ :=
    inTable ⟨code - 1, by omega⟩ d (by simpa [Nat.sub_add_cancel low] using defined)
  exact cadence

/-! ## The due check at the zones (R156, R158) -/

/-- A zone decides a submission by the cadences alone. -/
theorem submitTo_congr {b b' : Bells} (same : b'.cadences = b.cadences) (z : Zone) (c : Nat) (cls : BellClass) :
    b'.submitTo z c cls = b.submitTo z c cls := by
  have start : b'.startSounding = b.startSounding := by
    funext c cls
    simp only [Bells.startSounding, Bells.cadenceOf, same]
  have takeUp : ∀ queue, b'.takeUpQueue queue = b.takeUpQueue queue := by
    intro queue
    induction queue with
    | nil => rfl
    | cons q rest ih => simp only [Bells.takeUpQueue, start, ih]
  simp only [Bells.submitTo, Bells.startIn, start, takeUp]

/-- A zone after a list of submissions, each decided before the next (R156). -/
def Bells.submittedTo (b : Bells) (due : List QueuedBell) (z : Zone) : Zone :=
  due.foldl (fun zone q => (b.submitTo zone q.cadence q.cls).1) z

theorem submittedTo_congr {b b' : Bells} (same : b'.cadences = b.cadences) (due : List QueuedBell) (z : Zone) :
    b'.submittedTo due z = b.submittedTo due z := by
  simp only [Bells.submittedTo, submitTo_congr same]

theorem setZone_self (b : Bells) (z : Fin 4) : b.setZone z (b.zoneAt z) = b := by
  have same : b.zones.setIfInBounds z b.zones[z] = b.zones := by
    apply Vector.ext
    intro i hi
    rw [Vector.getElem_setIfInBounds hi]
    split
    · next at_z => subst at_z; rfl
    · rfl
  unfold Bells.setZone
  rw [Bells.zoneAt_fin, same]

theorem setZone_setZone (b : Bells) (z : Nat) (x y : Zone) : (b.setZone z x).setZone z y = b.setZone z y := by
  have same : (b.zones.setIfInBounds z x).setIfInBounds z y = b.zones.setIfInBounds z y := by
    apply Vector.ext
    intro i hi
    simp only [Vector.getElem_setIfInBounds hi]
    split <;> rfl
  unfold Bells.setZone
  rw [same]

/-- One zone's submissions change that zone alone. -/
theorem submitAll_eq (z : Fin 4) (due : List QueuedBell) : ∀ b : Bells,
    b.submitAll z due = b.setZone z (b.submittedTo due (b.zoneAt z)) := by
  induction due with
  | nil => exact fun b => (setZone_self b z).symm
  | cons q rest ih =>
    intro b
    have at_z : (b.submit z q.cadence q.cls).zoneAt z = (b.submitTo (b.zoneAt z) q.cadence q.cls).1 := by
      simp [Bells.submit, Bells.zoneAt_setZone]
    have cadences : (b.submit z q.cadence q.cls).cadences = b.cadences := rfl
    have others := ih (b.submit z q.cadence q.cls)
    rw [at_z, submittedTo_congr cadences] at others
    exact others.trans (setZone_setZone b z _ _)

/-- The submissions of several zones, each zone's decided from the bells as they stood. -/
theorem foldl_submitAll (due : Nat → List QueuedBell) (zs : List (Fin 4)) : zs.Nodup → ∀ b : Bells,
    zs.foldl (fun acc z => acc.submitAll z (due z)) b =
      { b with zones := Vector.ofFn fun y => if y ∈ zs then b.submittedTo (due y) b.zones[y] else b.zones[y] } := by
  induction zs with
  | nil =>
    intro _ b
    have same : Vector.ofFn (fun y : Fin 4 => b.zones[y]) = b.zones := by
      apply Vector.ext
      intro i hi
      simp
    rw [List.foldl_nil]
    simp only [List.not_mem_nil, if_false, same]
  | cons z rest ih =>
    intro distinct b
    obtain ⟨apart, distinct'⟩ := List.nodup_cons.mp distinct
    have cadences : (b.setZone z (b.submittedTo (due z) (b.zoneAt z))).cadences = b.cadences := rfl
    rw [List.foldl_cons, submitAll_eq, ih distinct']
    simp only [submittedTo_congr cadences]
    unfold Bells.setZone
    congr 1
    apply Vector.ext
    intro i hi
    have at_i : b.zoneAt i = b.zones[i] := Bells.zoneAt_fin b ⟨i, hi⟩
    simp only [Vector.getElem_ofFn, Fin.getElem_fin, Vector.getElem_setIfInBounds hi, List.mem_cons]
    by_cases here : z.val = i
    · subst here
      simp [apart, at_i]
    · have away : (⟨i, hi⟩ : Fin 4) ≠ z := fun same => here (congrArg Fin.val same).symm
      simp [here, away]

/-- The due check of a minute above the mark: the mark at it, and each zone's submissions made (R156). -/
theorem dueCheck_eq {b : Bells} {m : Nat} (cal : Calendar) (above : b.highWater < m) :
    b.dueCheck cal .set m = { b with
      highWater := m
      zones := Vector.ofFn fun y => b.submittedTo (b.dueIn cal m y) b.zones[y] } := by
  have zones : ([0, 1, 2, 3] : List Nat) = ([0, 1, 2, 3] : List (Fin 4)).map Fin.val := rfl
  have every : ∀ y : Fin 4, y ∈ ([0, 1, 2, 3] : List (Fin 4)) := by decide
  unfold Bells.dueCheck
  rw [if_pos ⟨rfl, above⟩, zones, List.foldl_map]
  refine (foldl_submitAll _ _ (by decide) _).trans ?_
  simp only [every, if_true]
  have cadences : ({ b with highWater := m } : Bells).cadences = b.cadences := rfl
  simp only [submittedTo_congr cadences]
  rfl

/-- A minute event makes the due check of its minute (R3, R156). -/
theorem minuteEvent_bells (s : State) : (minuteEvent s).bells = s.bells.dueCheck s.calendar s.time.validity s.plantMinute := by
  unfold minuteEvent
  dsimp only
  split
  · rw [autoClose_frame]
    rfl
  · rfl

/-- Settles O49: the list's order and its members, and the check that submits it. -/
theorem dueCheckGathersEachCadenceOnce : Obligations.DueCheckGathersEachCadenceOnce := by
  intro b cal m z inTable inEntry
  dsimp only
  simp only [← bellMinute_iff, ← fixedBellDue_iff]
  refine ⟨dueIn_ordered b cal m z, fun c => ?_, fun q member => ?_, fun v quiet => ?_, dueCheck_eq cal, minuteEvent_bells⟩
  · change (_ ↔ cal.GivesBell m z c) ∧ (_ ↔ _ ∧ ¬ cal.GivesBell m z c)
    have shift := shiftBellDue_iff cal m z c
    refine ⟨?_, ?_⟩
    · rw [mem_dueIn, ← shift]
      have range := fun gives => GivesBell_cadence inTable (shift.mp gives)
      simpa using range
    · rw [mem_dueIn, ← shift]
      have range : b.fixedBellDue m z c = true → 1 ≤ c.val ∧ c.val ≤ 7 := by
        intro due
        obtain ⟨e, slot, x, entry, -, -, -, cadence⟩ := (fixedBellDue_iff ..).mp due
        exact cadence ▸ inEntry e slot x entry
      simpa using fun due _ => range due
  · obtain ⟨range, due⟩ := (mem_dueIn ..).mp member
    exact ⟨range.2, due.imp And.left And.left⟩
  · refine if_neg ?_
    rintro ⟨rfl, above⟩
    obtain unset | passed := quiet
    · cases unset
    · omega

end Sys2Proof.Machine
end

section
/-! PROOFS. The starts (Sections 11.1 to 11.3): the restart voids, the READY event, the gates, a warm start and a cold start whole, the events
that give a start, and the statement, which fails on an entry number outside its range and holds within it. -/

namespace Sys2Proof.Machine

/-! ## The restart voids (R93, R94, R116, R125) -/

/-- The passages that a list of gates hold, in its order, each with its gate. -/
def State.heldPassages (s : State) (gs : List Nat) : List (Nat × Passage) :=
  gs.filterMap fun g => (s.gateAt g).passage.map fun p => (g, p)

/-- The journal with the void of one pending passage in place of its claim (R94, R120). -/
def Journal.voided (j : Journal) (x : Nat × Passage) : Journal :=
  { j.write (punchEntry x.1 x.2 .voided AnomalySet.empty true) with reserved := j.reserved - 1 }

/-- The record with its pending gate cleared where its badge is the void's (R94). -/
def WorkerRecord.unpend (badge : Nat) (w : WorkerRecord) : WorkerRecord :=
  if w.badge = badge then { w with pendingGate := none } else w

@[simp] theorem WorkerRecord.unpend_badge (badge : Nat) (w : WorkerRecord) : (w.unpend badge).badge = w.badge := by
  unfold WorkerRecord.unpend
  split <;> rfl

/-- The table's badges in ascending order, each its own record's (R33). -/
abbrev BadgesAscend (ws : List WorkerRecord) : Prop := ws.Pairwise fun a b => a.badge < b.badge

theorem BadgesAscend.unpend {ws : List WorkerRecord} (h : BadgesAscend ws) (badge : Nat) :
    BadgesAscend (ws.map (WorkerRecord.unpend badge)) :=
  List.pairwise_map.mpr (h.imp fun less => by simpa using less)

theorem BadgesAscend.unique {ws : List WorkerRecord} (h : BadgesAscend ws) {w x : WorkerRecord} (hw : w ∈ ws) (hx : x ∈ ws)
    (same : w.badge = x.badge) : w = x :=
  List.inj_on_of_nodup_map (List.pairwise_map.mpr (h.imp Nat.ne_of_lt)) hw hx same

/-- No record of the badge, no pending gate to clear. -/
theorem map_unpend_absent {s : State} {badge : Nat} (found : s.worker badge = none) :
    s.workers.map (WorkerRecord.unpend badge) = s.workers := by
  have apart : ∀ w ∈ s.workers, w.badge ≠ badge := by simpa [State.worker] using found
  refine (List.map_congr_left fun w hw => ?_).trans (List.map_id s.workers)
  exact if_neg (apart w hw)

/-- The badge's record in an ordered table loses its pending gate (R94). -/
theorem setWorker_unpend {s : State} {badge : Nat} {w : WorkerRecord} (ordered : BadgesAscend s.workers) (found : s.worker badge = some w) :
    setWorker { w with pendingGate := none } s = { s with workers := s.workers.map (WorkerRecord.unpend badge) } := by
  have at_badge : w.badge = badge := by simpa using List.find?_some found
  have member : w ∈ s.workers := List.mem_of_find?_eq_some found
  have same : replaceWorker { w with pendingGate := none } s.workers = s.workers.map (WorkerRecord.unpend badge) := by
    refine List.map_congr_left fun x hx => ?_
    unfold WorkerRecord.unpend
    by_cases hit : x.badge = badge
    · rw [if_pos (hit.trans at_badge.symm), if_pos hit, ordered.unique member hx (at_badge.trans hit.symm)]
    · rw [if_neg fun e => hit (e.trans at_badge), if_neg hit]
  rw [setWorker, same]

/-- The void of one passage (R94). -/
theorem voidPassage_eq {s : State} (ordered : BadgesAscend s.workers) (g : Nat) (p : Passage) :
    voidPassage g p true s = { s with
      journal := s.journal.voided (g, p), workers := s.workers.map (WorkerRecord.unpend p.badge) } := by
  have written : journalClaimed (punchEntry g p .voided AnomalySet.empty true) s = { s with journal := s.journal.voided (g, p) } := rfl
  unfold voidPassage
  rw [written]
  cases found : s.worker p.badge with
  | none =>
    have found' : ({ s with journal := s.journal.voided (g, p) } : State).worker p.badge = none := found
    rw [map_unpend_absent found]
    simp only [found']
  | some w =>
    have found' : ({ s with journal := s.journal.voided (g, p) } : State).worker p.badge = some w := found
    simp only [found']
    exact setWorker_unpend ordered found'

/-- The part after the voids of a list of passages, its gates apart (R93, R125). -/
def State.voidedAll (s : State) (held : List (Nat × Passage)) : State :=
  { s with
    journal := held.foldl Journal.voided s.journal
    workers := held.foldl (fun ws x => ws.map (WorkerRecord.unpend x.2.badge)) s.workers }

theorem restartVoid_none {s : State} {g : Nat} (held : (s.gateAt g).passage = none) : restartVoid s g = s := by
  simp [restartVoid, held]

theorem restartVoid_some {s : State} (ordered : BadgesAscend s.workers) {g : Nat} {p : Passage} (held : (s.gateAt g).passage = some p) :
    restartVoid s g = { s.setGate g (s.gateAt g).disarm with
      journal := s.journal.voided (g, p), workers := s.workers.map (WorkerRecord.unpend p.badge) } := by
  unfold restartVoid
  rw [held]
  exact voidPassage_eq (s := s.setGate g (s.gateAt g).disarm) ordered g p

/-- The restart voids of different gates: the passages they held voided in their order, and every gate as its disarming leaves it. -/
theorem foldl_restartVoid (gs : List Nat) : gs.Nodup → ∀ s : State, BadgesAscend s.workers →
    gs.foldl restartVoid s = { s.voidedAll (s.heldPassages gs) with gates := (gs.foldl restartVoid s).gates } ∧
      ∀ h, ((gs.foldl restartVoid s).gateAt h).disarm = (s.gateAt h).disarm := by
  induction gs with
  | nil => exact fun _ s _ => ⟨rfl, fun _ => rfl⟩
  | cons g rest ih =>
    intro distinct s ordered
    obtain ⟨apart, distinct'⟩ := List.nodup_cons.mp distinct
    rw [List.foldl_cons]
    cases held : (s.gateAt g).passage with
    | none =>
      have skipped : s.heldPassages (g :: rest) = s.heldPassages rest := by simp [State.heldPassages, held]
      rw [restartVoid_none held, skipped]
      exact ih distinct' s ordered
    | some p =>
      have first : s.heldPassages (g :: rest) = (g, p) :: s.heldPassages rest := by simp [State.heldPassages, held]
      have step := restartVoid_some ordered held
      have ordered' : BadgesAscend (restartVoid s g).workers := by
        rw [step]
        exact ordered.unpend p.badge
      have at_h : ∀ h, (restartVoid s g).gateAt h = if h = g ∧ g < 16 then (s.gateAt g).disarm else s.gateAt h := by
        intro h
        rw [step]
        exact State.gateAt_setGate s g h _
      have later : (restartVoid s g).heldPassages rest = s.heldPassages rest := by
        refine List.filterMap_congr fun h hh => ?_
        rw [at_h, if_neg fun e : h = g ∧ g < 16 => apart (e.1 ▸ hh)]
      obtain ⟨others, disarmed⟩ := ih distinct' (restartVoid s g) ordered'
      refine ⟨?_, fun h => ?_⟩
      · rw [others, later, first, step]
        rfl
      · rw [disarmed, at_h]
        split
        · next here => rw [here.1]; rfl
        · rfl

/-- The entries of a list of voids, under consecutive numbers (R119, R125). -/
theorem foldl_voided (held : List (Nat × Passage)) : ∀ j : Journal, j.nextNumber < 65536 →
    held.foldl Journal.voided j = ⟨j.entries ++ held.zipIdx.map (fun x =>
        { punchEntry x.1.1 x.1.2 .voided AnomalySet.empty true with number := (j.nextNumber + x.2) % 65536 }),
      j.reserved - held.length, (j.nextNumber + held.length) % 65536⟩ := by
  induction held with
  | nil =>
    intro j inRange
    simp [Nat.mod_eq_of_lt inRange]
  | cons x rest ih =>
    intro j inRange
    have first : (j.nextNumber + 0) % 65536 = j.nextNumber := Nat.mod_eq_of_lt inRange
    have number : ∀ n, ((j.nextNumber + 1) % 65536 + n) % 65536 = (j.nextNumber + (n + 1)) % 65536 := by
      intro n
      omega
    rw [List.foldl_cons, ih _ (Nat.mod_lt _ (by decide)), List.zipIdx_cons']
    simp only [Journal.voided, Journal.write, number, List.length_cons, List.map_cons, List.map_map, List.append_assoc,
      List.singleton_append, first, Nat.sub_sub, Nat.add_comm 1]
    rfl

/-- The records of a table after a list of voids: each record of a voided badge has its pending gate cleared. -/
theorem foldl_unpend (held : List (Nat × Passage)) : ∀ ws : List WorkerRecord,
    held.foldl (fun ws x => ws.map (WorkerRecord.unpend x.2.badge)) ws =
      ws.map fun w => if w.badge ∈ held.map (·.2.badge) then { w with pendingGate := none } else w := by
  induction held with
  | nil => intro ws; simp
  | cons x rest ih =>
    intro ws
    rw [List.foldl_cons, ih, List.map_map]
    refine List.map_congr_left fun w _ => ?_
    simp only [Function.comp_apply, WorkerRecord.unpend_badge, List.map_cons, List.mem_cons]
    unfold WorkerRecord.unpend
    by_cases here : w.badge = x.2.badge
    · simp [here]
    · simp only [here, if_false, false_or]

/-! ## The sums of a close (R144) -/

/-- A row of sums with the banks of a list added. -/
theorem foldl_addBank (ws : List WorkerRecord) : ∀ row : Summary,
    (ws.map (·.closing)).foldl Summary.addBank row =
      ⟨row.workers + ws.length, row.regular + closingSum ws (·.regular), row.overtime + closingSum ws (·.overtime),
        row.night + closingSum ws (·.night), row.pay + closingSum ws (·.pay), row.count + closingSum ws (·.count),
        row.anomalyWorkers + ws.countP fun w => w.closing.anomalies != AnomalySet.empty⟩ := by
  induction ws with
  | nil => exact fun _ => rfl
  | cons w rest ih =>
    intro row
    rw [List.map_cons, List.foldl_cons, ih]
    have flag : (if w.closing.anomalies.isEmpty = true then 0 else 1) = if (w.closing.anomalies != AnomalySet.empty) = true then 1 else 0 := by
      unfold AnomalySet.isEmpty
      cases h : w.closing.anomalies == AnomalySet.empty <;> simp [bne, h]
    simp only [Summary.addBank, closingSum, List.length_cons, List.map_cons, List.sum_cons, List.countP_cons, flag, Summary.mk.injEq]
    omega

/-- The row of a list of records holds the sums of their CLOSING banks (R144). -/
theorem sumBanks_sums (ws : List WorkerRecord) : (sumBanks (ws.map (·.closing))).Sums ws := by
  rw [sumBanks, foldl_addBank]
  simp [Summary.Sums, Summary.zero]

/-- The READY event leaves the sums of the CLOSING banks as they stand (R144). -/
theorem readyEvent_sums (s : State) : (readyEvent s).SumsStand := by
  refine ⟨by simp [readyEvent, State.closingRecords], sumBanks_sums s.closingRecords, fun c => ?_⟩
  have rows : (readyEvent s).period.crews[c] =
      sumBanks ((s.closingRecords.filter fun w => w.closing.crew.getD 0 == c.val).map (·.closing)) := by
    simp only [readyEvent, queueReport_period, Fin.getElem_fin, Vector.getElem_ofFn, List.filter_map]
    rfl
  rw [rows]
  exact sumBanks_sums _

/-! ## Gates and loops at a start (R78, R97, R115, R116) -/

/-- A gate at a start is made from its configuration, its mode and the levels alone. -/
theorem Gate.begin_disarm {x y : Gate} (same : x.disarm = y.disarm) (g : Nat) (v : InputLevels) : x.begin g v = y.begin g v := by
  simp only [Gate.begin, same]

/-- A gate at a start, before its standing is applied. -/
theorem Gate.begin_eq (x : Gate) (g : Nat) (v : InputLevels) :
    x.begin g v = { x with
      arming := none, passage := none, releaseTimer := none
      heldTimer := if x.config.kind = .hinged ∧ v.gate0.getLsbD g = true then some x.config.heldOpen else none
      hinged := if x.config.kind = .hinged ∧ v.gate0.getLsbD g = true then .opened else .locked
      contactOpen := v.gate0.getLsbD g, pulse0 := v.gate0.getLsbD g, pulse1 := v.gate1.getLsbD g } := by
  unfold Gate.begin Gate.rest Gate.sample Gate.disarm
  dsimp only
  cases x.config.kind <;> cases v.gate0.getLsbD g <;> simp

/-- No alarm stands at a gate that a start has begun (R110, R115, R116). -/
theorem alarmEnded_begin (l : StationLink) (g h : Nat) (x y : Gate) (v : InputLevels) (now : Nat) :
    l.alarmEnded g (x.begin h v) y now = l := by
  have quiet : (x.begin h v).hinged = .opened ∨ (x.begin h v).hinged = .locked := by
    rw [Gate.begin_eq]
    exact ite_eq_or_eq ..
  unfold StationLink.alarmEnded
  obtain hinged | hinged := quiet <;> simp [hinged]

/-- A gate at a warm start under its standing (R109, R115, R116). -/
theorem Gate.begin_under (x : Gate) (g : Nat) (v : InputLevels) (d : Standing) :
    (x.begin g v).under d =
      let atRest : Gate := { x with
        arming := none, passage := none, releaseTimer := none, heldTimer := none, hinged := .locked
        contactOpen := v.gate0.getLsbD g, pulse0 := v.gate0.getLsbD g, pulse1 := v.gate1.getLsbD g }
      match x.config.kind with
      | .turnstile => atRest
      | .hinged =>
        if d ≠ .nothing then { atRest with hinged := .free }
        else if v.gate0.getLsbD g then { atRest with hinged := .opened, heldTimer := some x.config.heldOpen }
        else atRest := by
  rw [Gate.begin_eq]
  unfold Gate.under
  dsimp only
  cases x.config.kind with
  | turnstile => simp
  | hinged =>
    by_cases empty : d = .nothing
    · by_cases contact : v.gate0.getLsbD g = true <;> simp [empty, contact]
    · by_cases contact : v.gate0.getLsbD g = true <;> simp [empty, contact]

/-! ## The warm start (R166) -/

/-- The part at a warm start before the restart voids: every start value but the loops' and the gates' (R166). -/
def State.warmBegun (s : State) (cause : StartCause) (duration : Nat) (v : InputLevels) : State :=
  { s with
    supply := { s.supply with state := .run, firstPower := false, startOwed := false }
    time := { s.time with mark := .none }
    follower := s.follower.warm v
    fire := false
    punch := PunchProcessor.start
    link := StationLink.begin v (.start .warm cause duration s.plantSecond)
    bells := s.bells.warm s.plantMinute }

/-- The part after the restart voids and the READY event of a warm start, its loops and gates as they were (R125, R152). -/
def State.warmVoided (s : State) (cause : StartCause) (duration : Nat) (v : InputLevels) : State :=
  readyIfDue ((s.warmBegun cause duration v).voidedAll (s.heldPassages allGates))

/-- The part at a warm start before the gates' standings: its loops and gates at their start values too (R78, R116). -/
def State.warmRestarted (s : State) (cause : StartCause) (duration : Nat) (v : InputLevels) : State :=
  { s.warmVoided cause duration v with
    loops := mapUnits (fun _ l => l.warm) s.loops, gates := mapUnits (fun g x => x.begin g v) s.gates }

/-- The READY event reads no gate. -/
theorem readyIfDue_gates (s : State) (gates : Vector Gate 16) :
    readyIfDue { s with gates := gates } = { readyIfDue s with gates := gates } := by
  unfold readyIfDue
  dsimp only
  split <;> rfl

/-- The READY event touches the period and the link alone. -/
theorem readyIfDue_frame (s : State) :
    readyIfDue s = { s with period := (readyIfDue s).period, link := (readyIfDue s).link } := by
  unfold readyIfDue
  split <;> rfl

/-- A warm start in its order: the voids, the READY event, the start values, the standings (R166). -/
theorem warmStart_eq {s : State} (ordered : BadgesAscend s.workers) (cause : StartCause) (duration : Nat) (v : InputLevels) :
    warmStart cause duration v s = applyStandings allGates (s.warmRestarted cause duration v) := by
  let b := s.warmBegun cause duration v
  let gates := (allGates.foldl restartVoid b).gates
  obtain ⟨voided, disarmed⟩ := foldl_restartVoid allGates List.nodup_range b ordered
  have ready : readyIfDue (allGates.foldl restartVoid b) = { s.warmVoided cause duration v with gates := gates } := by
    rw [voided]
    exact readyIfDue_gates _ gates
  have loops : (s.warmVoided cause duration v).loops = s.loops := by
    rw [State.warmVoided, readyIfDue_frame]
    rfl
  have begun : mapUnits (fun g x => x.begin g v) gates = mapUnits (fun g (x : Gate) => x.begin g v) s.gates := by
    apply Vector.ext
    intro i hi
    have same := disarmed i
    rw [State.gateAt_fin _ ⟨i, hi⟩, State.gateAt_fin _ ⟨i, hi⟩] at same
    simp only [mapUnits, Vector.getElem_ofFn]
    exact Gate.begin_disarm same i v
  have restarted : { readyIfDue (allGates.foldl restartVoid b) with
      loops := mapUnits (fun _ l => l.warm) (readyIfDue (allGates.foldl restartVoid b)).loops
      gates := mapUnits (fun g x => x.begin g v) (readyIfDue (allGates.foldl restartVoid b)).gates } =
      s.warmRestarted cause duration v := by
    rw [ready]
    simp only [begun, loops]
    rfl
  exact congrArg (applyStandings allGates) restarted

/-- The standings at a start, each gate's taken from its start values, without an alarm's end (R109, R116). -/
theorem applyStandings_begun {u : State} {gates : Vector Gate 16} {v : InputLevels}
    (begun : u.gates = mapUnits (fun g x => x.begin g v) gates) :
    applyStandings allGates u = { u with gates := Vector.ofFn fun g => (gates[g].begin g v).under (u.standing g) } := by
  have at_g : ∀ g : Fin 16, u.gates[g] = gates[g].begin g v := fun g => by
    rw [begun]
    simp [mapUnits]
  have all : allGates.filter (fun _ => true) = allGates := List.filter_true _
  have silent : ∀ (gs : List (Fin 16)) (l : StationLink), (gs.foldl (fun k g => k.alarmEnded g (gates[g].begin g v)
      ((gates[g].begin g v).under (u.standing g)) (u.time.day * 86400 + u.time.second)) l) = l := by
    intro gs
    induction gs with
    | nil => exact fun _ => rfl
    | cons g rest ih =>
      intro l
      rw [List.foldl_cons, ih, alarmEnded_begin]
  have taken := applyStandings_filter (fun _ => true) u
  rw [all] at taken
  rw [taken, State.standingsTaken]
  simp only [if_true, at_g, silent]

theorem Gate.under_mode (x : Gate) (d : Standing) : (x.under d).mode = x.mode := by
  unfold Gate.under
  repeat' split
  all_goals rfl

/-- What a warm start leaves, block by block: the gates by their standings, the period and the report queue by the READY event. -/
theorem warmStart_blocks {s : State} (ordered : BadgesAscend s.workers) (cause : StartCause) (duration : Nat) (v : InputLevels) :
    warmStart cause duration v s = { s.warmRestarted cause duration v with gates := (warmStart cause duration v s).gates } ∧
      ∀ g : Fin 16, (warmStart cause duration v s).gates[g] = (s.gates[g].begin g v).under ((warmStart cause duration v s).standing g) := by
  have applied := (warmStart_eq ordered cause duration v).trans (applyStandings_begun rfl)
  refine ⟨by rw [applied], fun g => ?_⟩
  have at_g : ∀ x : State, x.gateAt g = x.gates[g] := fun x => State.gateAt_fin x g
  have still : (warmStart cause duration v s).standing g = (s.warmRestarted cause duration v).standing g := by
    have gate : (warmStart cause duration v s).gateAt g = ((s.warmRestarted cause duration v).gateAt g).under
        ((s.warmRestarted cause duration v).standing g) := by
      rw [applied, at_g, at_g]
      simp [State.warmRestarted, mapUnits]
    refine standing_congr g (by rw [applied]) (by rw [applied]) ?_ ?_
    · rw [gate, Gate.under_mode]
    · rw [gate, Gate.under_config]
  rw [still, applied]
  simp

/-- The closing records are read from the badges and the CLOSING banks, which a void leaves (R94, R144). -/
theorem closings_unpend (ws : List WorkerRecord) :
    ((ws.map fun w => { w with pendingGate := none }).filter fun w => !w.closing.isEmpty).length =
      (ws.filter fun w => !w.closing.isEmpty).length := by
  rw [List.filter_map, List.length_map]
  rfl

/-- R36: a record that names a pending gate has its passage among those the gates hold, so the voids clear every pending gate. -/
theorem voids_clear_pending {s : State} (named : s.PassagesNamed) :
    (s.heldPassages allGates).foldl (fun ws x => ws.map (WorkerRecord.unpend x.2.badge)) s.workers =
      s.workers.map fun w => { w with pendingGate := none } := by
  rw [foldl_unpend]
  refine List.map_congr_left fun w hw => ?_
  split
  · rfl
  · next unheld =>
    cases pending : w.pendingGate with
    | none => rw [← pending]
    | some g =>
      obtain ⟨gate, passage⟩ := named.1 w hw g (by rw [pending]; rfl)
      obtain ⟨p, held, badge⟩ := Option.map_eq_some_iff.mp passage
      refine absurd (List.mem_map.mpr ⟨(g, p), ?_, badge⟩) unheld
      exact List.mem_filterMap.mpr ⟨g, List.mem_range.mpr gate, by simp [held]⟩

/-- The passages held are as many as the gates that hold one (R117). -/
theorem heldPassages_length (s : State) : (s.heldPassages allGates).length = s.passages := by
  unfold State.heldPassages State.passages
  induction allGates with
  | nil => rfl
  | cons g rest ih =>
    cases held : (s.gateAt g).passage <;> simp [held, ih]

/-- The journal after the voids of a warm start (R116, R119, R125). -/
theorem voids_journal {s : State} (fits : s.JournalFits) (numbered : s.journal.nextNumber < 65536) :
    (s.heldPassages allGates).foldl Journal.voided s.journal =
      ⟨s.journal.entries ++ restartVoids s s.journal.nextNumber, 0, (s.journal.nextNumber + s.passages) % 65536⟩ := by
  rw [foldl_voided _ _ numbered, heldPassages_length, fits.2, Nat.sub_self]
  rfl

/-- The part after the voids, before the READY event: its time, its link and its period (R166). -/
theorem warmVoided_frame (s : State) (cause : StartCause) (duration : Nat) (v : InputLevels) :
    s.warmVoided cause duration v = { (s.warmBegun cause duration v).voidedAll (s.heldPassages allGates) with
      period := (s.warmVoided cause duration v).period, link := (s.warmVoided cause duration v).link } :=
  readyIfDue_frame _

/-- The link of a warm start after its READY event, which reports behind START (R144, R152, R166). -/
theorem warmVoided_due {s : State} (named : s.PassagesNamed) (due : s.period.state = .pending) (settled : s.period.counter = 0)
    (cause : StartCause) (duration : Nat) (v : InputLevels) :
    let now := s.time.day * 86400 + s.time.second
    let n := s.closingRecords.length
    let r := s.warmVoided cause duration v
    r.period = { s.period with
      state := .ready, crews := r.period.crews, grand := r.period.grand, workerCount := n, cursor := 1, cursorBadge := 0 } ∧
    r.SumsStand ∧
    r.link = { StationLink.begin v (.start .warm cause duration now) with
      reports := [.start .warm cause duration now, .closeReady s.period.number s.period.boundary n (n + 11) now] } := by
  have ready : s.warmVoided cause duration v = readyEvent ((s.warmBegun cause duration v).voidedAll (s.heldPassages allGates)) :=
    if_pos ⟨due, settled⟩
  have count : ((s.warmBegun cause duration v).voidedAll (s.heldPassages allGates)).closingRecords.length = s.closingRecords.length := by
    have workers : ((s.warmBegun cause duration v).voidedAll (s.heldPassages allGates)).workers =
        s.workers.map fun w => { w with pendingGate := none } := voids_clear_pending named
    unfold State.closingRecords
    rw [workers, closings_unpend]
  dsimp only
  rw [ready]
  refine ⟨?_, readyEvent_sums _, ?_⟩
  · simp only [readyEvent, queueReport_period, List.length_map, count]
    rfl
  · simp only [readyEvent, queueReport_link, List.length_map, count]
    rfl

/-- No READY event is due: the period stands, and START alone is queued (R166). -/
theorem warmVoided_idle {s : State} (idle : ¬ (s.period.state = .pending ∧ s.period.counter = 0))
    (cause : StartCause) (duration : Nat) (v : InputLevels) :
    (s.warmVoided cause duration v).period = s.period ∧
      (s.warmVoided cause duration v).link = StationLink.begin v (.start .warm cause duration s.plantSecond) := by
  have same : s.warmVoided cause duration v = (s.warmBegun cause duration v).voidedAll (s.heldPassages allGates) := if_neg idle
  rw [same]
  exact ⟨rfl, rfl⟩

/-- A warm start leaves what the statement says of it, where the next entry number is in its range (R119). -/
theorem warmStart_warmStarted {s : State} (ordered : s.WorkersOrdered) (fits : s.JournalFits) (named : s.PassagesNamed)
    (numbered : s.journal.nextNumber < 65536) (cause : StartCause) (duration : Nat) (v : InputLevels) :
    s.WarmStarted (warmStart cause duration v s) cause duration v := by
  obtain ⟨blocks, gates⟩ := warmStart_blocks ordered.2.1 cause duration v
  generalize warmStart cause duration v s = t at blocks gates
  have period : t.period = (s.warmVoided cause duration v).period := by rw [blocks]; rfl
  have link : t.link = (s.warmVoided cause duration v).link := by rw [blocks]; rfl
  have closing : t.closingRecords = (s.warmVoided cause duration v).closingRecords := by rw [blocks]; rfl
  have linkShape : t.link = ⟨none, t.link.reports, false, false, [], v.baud0, v.baud1⟩ := by
    by_cases due : s.period.state = .pending ∧ s.period.counter = 0
    · obtain ⟨-, -, shape⟩ := warmVoided_due named due.1 due.2 cause duration v
      rw [link, shape]
      rfl
    · rw [link, (warmVoided_idle due cause duration v).2]
      rfl
  refine ⟨?_, ⟨fun idle => ?_, fun due settled => ?_⟩, fun g => (gates g).trans (Gate.begin_under ..)⟩
  · rw [← linkShape]
    refine blocks.trans ?_
    have bells : s.bells.warm s.plantMinute = { s.bells with
        zones := Vector.replicate 4 ⟨none, []⟩, highWater := max s.bells.highWater (s.time.day * 1440 + s.time.second / 60) } :=
      Bells.raiseMark_eq ..
    rw [State.warmRestarted, warmVoided_frame, ← period, ← link]
    simp only [State.voidedAll, State.warmBegun, voids_journal fits numbered, voids_clear_pending named, bells]
    rfl
  · have quiet := warmVoided_idle (s := s) (fun due => idle.elim (· due.1) (· due.2)) cause duration v
    rw [period, link, quiet.1, quiet.2]
    exact ⟨rfl, rfl⟩
  · obtain ⟨readyPeriod, sums, readyLink⟩ := warmVoided_due named due settled cause duration v
    refine ⟨?_, ?_, ?_⟩
    · rw [period]
      exact readyPeriod
    · unfold State.SumsStand
      rw [period, closing]
      exact sums
    · rw [link, readyLink]

/-! ## The cold start and the events that give a start (R164 to R166, R168) -/

/-- A gate at a cold start (R115). -/
theorem begin_cold (g : Nat) (v : InputLevels) :
    Gate.cold.begin g v = ⟨⟨.hinged, 5, 30, .soft, .locked, none⟩, .normal, if v.gate0.getLsbD g then .opened else .locked, none, none,
      if v.gate0.getLsbD g then some 30 else none, none, v.gate0.getLsbD g, v.gate0.getLsbD g, v.gate1.getLsbD g⟩ := by
  rw [Gate.begin_eq]
  cases v.gate0.getLsbD g <;> rfl

/-- A cold start leaves every block's cold-start values (R166). -/
theorem coldStart_coldStarted (s : State) (cause : StartCause) (v : InputLevels) : s.ColdStarted (coldStart cause v s) cause v := by
  have gates : mapUnits (fun g (x : Gate) => x.begin g v) State.reset.gates = Vector.ofFn fun g : Fin 16 =>
      (⟨⟨.hinged, 5, 30, .soft, .locked, none⟩, .normal, if v.gate0.getLsbD g then .opened else .locked, none, none,
        if v.gate0.getLsbD g then some 30 else none, none, v.gate0.getLsbD g, v.gate0.getLsbD g, v.gate1.getLsbD g⟩ : Gate) := by
    unfold mapUnits
    refine congrArg Vector.ofFn (funext fun g => ?_)
    have cold : State.reset.gates[g] = Gate.cold := Vector.getElem_replicate _
    rw [cold]
    exact begin_cold g v
  unfold State.ColdStarted coldStart
  rw [gates]
  rfl

/-- What a warm start needs of the part: its table, its journal and its passages in order, and the next entry number in its range. -/
structure State.Startable (s : State) : Prop where
  ordered : s.WorkersOrdered
  fits : s.JournalFits
  named : s.PassagesNamed
  numbered : s.journal.nextNumber < 65536

theorem startable_reset : State.reset.Startable := ⟨by decide, by decide, by decide, by decide⟩

theorem State.Startable.warm {s : State} (h : s.Startable) (cause : StartCause) (duration : Nat) (v : InputLevels) :
    s.WarmStarted (warmStart cause duration v s) cause duration v :=
  warmStart_warmStarted h.ordered h.fits h.named h.numbered cause duration v

/-- A warm start is said of the part's contents: not of its supply state, its marks or its link (R166). -/
theorem warmStarted_congr {s t : State} {x : SupplyMonitor} (l : StationLink) {cause : StartCause} {duration : Nat} {v : InputLevels}
    (retention : x.retention = s.supply.retention) (kept : x.duration = s.supply.duration) (pin : x.resetnHigh = s.supply.resetnHigh)
    (started : ({ s with supply := x, link := l } : State).WarmStarted t cause duration v) : s.WarmStarted t cause duration v := by
  obtain ⟨contents, ready, gates⟩ := started
  refine ⟨?_, ?_, ?_⟩
  · rw [← retention, ← kept, ← pin]
    exact contents
  · exact ready
  · exact gates

/-- The start that follows a restore (R164, R165). -/
theorem restoreStart_valid {s : State} (valid : s.supply.retention = .valid) (v : InputLevels) :
    restoreStart v s = warmStart .supply s.supply.duration v s := by
  rw [restoreStart, valid]

theorem restoreStart_lost {s : State} (lost : s.supply.retention = .lost) (v : InputLevels) :
    restoreStart v s = coldStart (if s.supply.firstPower then .firstPower else .supply) v s := by
  rw [restoreStart, lost]

/-- MAIN_RESTORED in BACKUP with RESETn high (R164). -/
theorem exec_mainRestored_high {s : State} (backup : s.supply.state = .backup) (high : s.supply.resetnHigh = true) (v : InputLevels) :
    exec (.mainRestored v) s = .next (restoreStart v { s with supply := { s.supply with state := .run } }) := by
  change execMainRestored v s = _
  rw [execMainRestored, backup]
  exact congrArg Host.Outcome.next (if_pos high)

/-- MAIN_RESTORED in BACKUP with RESETn low leaves the start owed (R165, log 14). -/
theorem exec_mainRestored_low {s : State} (backup : s.supply.state = .backup) (low : s.supply.resetnHigh = false) (v : InputLevels) :
    exec (.mainRestored v) s = .next { s with supply := { s.supply with state := .run, startOwed := true } } := by
  change execMainRestored v s = _
  rw [execMainRestored, backup]
  exact congrArg Host.Outcome.next (if_neg (by simp [low]))

theorem exec_mainRestored_run {s : State} (run : s.supply.state = .run) (v : InputLevels) : exec (.mainRestored v) s = .next s := by
  change execMainRestored v s = _
  rw [execMainRestored, run]

theorem exec_resetnReleased_high {s : State} (high : s.supply.resetnHigh = true) (v : InputLevels) :
    exec (.resetnReleased v) s = .next s := by
  change execResetnReleased v s = _
  rw [execResetnReleased, if_pos high]

/-- The part with its RESETn pin high. -/
def State.pinHigh (s : State) : State := { s with supply := { s.supply with resetnHigh := true } }

/-- RESETN_RELEASED from low, by the supply state and the start owed (R165, log 14). -/
theorem exec_resetnReleased_low {s : State} (low : s.supply.resetnHigh = false) (v : InputLevels) :
    exec (.resetnReleased v) s = .next (match s.supply.state with
      | .backup => s.pinHigh
      | .run => if s.supply.startOwed then restoreStart v s.pinHigh else warmStart .resetn 0 v s.pinHigh) := by
  change execResetnReleased v s = _
  rw [execResetnReleased, if_neg (by simp [low])]
  rfl

/-- REPLY_SENT with a request held: the link freed, and the start that an OK reply calls for (R165, R168). -/
theorem exec_replySent_held {s : State} (works : s.Works) {h : HeldRequest} (held : s.link.held = some h) (v : InputLevels) :
    exec (.replySent v) s = .next (
      if h.reply.result = .ok then startAfter h.kind v { s with link := { s.link with held := none } }
      else { s with link := { s.link with held := none } }) := by
  change execReplySent v s = _
  rw [execReplySent, whileLive_working works]
  simp only [held]

theorem exec_replySent_none {s : State} (works : s.Works) (free : s.link.held = none) (v : InputLevels) :
    exec (.replySent v) s = .next s := by
  change execReplySent v s = _
  rw [execReplySent, whileLive_working works]
  simp only [free]

/-- Every clause of O50, with the one premise that its statement lacks: the next entry number in its range (R119). -/
theorem starts_of_numbered :
    (∀ (s : State) (v : InputLevels), s.Startable →
      (s.supply.state = .backup → s.supply.resetnHigh = true → s.supply.retention = .valid →
        ∃ t, exec (.mainRestored v) s = .next t ∧ s.WarmStarted t .supply s.supply.duration v) ∧
      (s.supply.state = .backup → s.supply.resetnHigh = true → s.supply.retention = .lost →
        ∃ t, exec (.mainRestored v) s = .next t ∧ s.ColdStarted t (if s.supply.firstPower then .firstPower else .supply) v) ∧
      (s.supply.state = .backup → s.supply.resetnHigh = false → exec (.mainRestored v) s = .next
        { s with supply := { s.supply with state := .run, startOwed := true } }) ∧
      (s.supply.state = .run → exec (.mainRestored v) s = .next s) ∧
      (s.supply.resetnHigh = true → exec (.resetnReleased v) s = .next s) ∧
      (s.supply.resetnHigh = false →
        (s.supply.state = .backup → exec (.resetnReleased v) s = .next s.pinHigh) ∧
        (s.supply.state = .run → s.supply.startOwed = false →
          ∃ t, exec (.resetnReleased v) s = .next t ∧ s.pinHigh.WarmStarted t .resetn 0 v) ∧
        (s.supply.state = .run → s.supply.startOwed = true → s.supply.retention = .valid →
          ∃ t, exec (.resetnReleased v) s = .next t ∧ s.pinHigh.WarmStarted t .supply s.supply.duration v) ∧
        (s.supply.state = .run → s.supply.startOwed = true → s.supply.retention = .lost →
          ∃ t, exec (.resetnReleased v) s = .next t ∧
            s.pinHigh.ColdStarted t (if s.supply.firstPower then .firstPower else .supply) v)) ∧
      (s.Works → ∀ h, s.link.held = some h → h.reply.result = .ok →
        (h.kind = 0x68 → ∃ t, exec (.replySent v) s = .next t ∧ s.WarmStarted t .restart 0 v) ∧
        (h.kind = 0x69 → ∃ t, exec (.replySent v) s = .next t ∧ s.ColdStarted t .factoryClear v))) ∧
    (∀ (s : State) (tag : Nat) (levels : InputLevels), s.Works →
      (s.link.held = none → exec (.restart tag) s = .next (s.answered 0x68 tag .ok .nothing) ∧
        exec (.factoryClear tag) s = .next (s.answered 0x69 tag .ok .nothing) ∧ exec (.replySent levels) s = .next s) ∧
      (∀ h, s.link.held = some h → (h.kind ≠ 0x68 ∧ h.kind ≠ 0x69) ∨ h.reply.result ≠ .ok →
        exec (.replySent levels) s = .next { s with link := { s.link with held := none } })) := by
  refine ⟨fun s v startable => ⟨fun backup high valid => ?_, fun backup high lost => ?_, fun backup low => exec_mainRestored_low backup low v,
    fun run => exec_mainRestored_run run v, fun high => exec_resetnReleased_high high v, fun low => ⟨fun backup => ?_,
    fun run notOwed => ?_, fun run owed valid => ?_, fun run owed lost => ?_⟩, fun works h held ok => ⟨fun kind => ?_, fun kind => ?_⟩⟩,
    fun s tag levels works => ⟨fun free => ⟨?_, ?_, exec_replySent_none works free levels⟩, fun h held other => ?_⟩⟩
  · let t : State := { s with supply := { s.supply with state := .run } }
    refine ⟨warmStart .supply s.supply.duration v t,
      (exec_mainRestored_high backup high v).trans (congrArg _ (restoreStart_valid (s := t) valid v)), ?_⟩
    have start : t.Startable := ⟨startable.ordered, startable.fits, startable.named, startable.numbered⟩
    exact warmStarted_congr (x := t.supply) s.link rfl rfl rfl (start.warm .supply s.supply.duration v)
  · let t : State := { s with supply := { s.supply with state := .run } }
    exact ⟨_, (exec_mainRestored_high backup high v).trans (congrArg _ (restoreStart_lost (s := t) lost v)), coldStart_coldStarted t _ v⟩
  · rw [exec_resetnReleased_low low, backup]
  · refine ⟨warmStart .resetn 0 v s.pinHigh, ?_, ?_⟩
    · rw [exec_resetnReleased_low low, run, notOwed]
      rfl
    · have start : s.pinHigh.Startable := ⟨startable.ordered, startable.fits, startable.named, startable.numbered⟩
      exact start.warm .resetn 0 v
  · refine ⟨warmStart .supply s.supply.duration v s.pinHigh, ?_, ?_⟩
    · rw [exec_resetnReleased_low low, run, owed]
      exact congrArg _ (restoreStart_valid (s := s.pinHigh) valid v)
    · have start : s.pinHigh.Startable := ⟨startable.ordered, startable.fits, startable.named, startable.numbered⟩
      exact start.warm .supply s.supply.duration v
  · refine ⟨coldStart (if s.supply.firstPower then .firstPower else .supply) v s.pinHigh, ?_, coldStart_coldStarted s.pinHigh _ v⟩
    rw [exec_resetnReleased_low low, run, owed]
    exact congrArg _ (restoreStart_lost (s := s.pinHigh) lost v)
  · let t : State := { s with link := { s.link with held := none } }
    refine ⟨warmStart .restart 0 v t, ?_, ?_⟩
    · rw [exec_replySent_held works held, if_pos ok, startAfter, if_pos kind]
    · have start : t.Startable := ⟨startable.ordered, startable.fits, startable.named, startable.numbered⟩
      exact warmStarted_congr t.link rfl rfl rfl (start.warm .restart 0 v)
  · refine ⟨coldStart .factoryClear v { s with link := { s.link with held := none } }, ?_, coldStart_coldStarted _ _ v⟩
    rw [exec_replySent_held works held, if_pos ok, startAfter, if_neg (by rw [kind]; decide), if_pos kind]
  · exact serve_ready ⟨works, free⟩ 0x68 tag okay
  · exact serve_ready ⟨works, free⟩ 0x69 tag okay
  · rw [exec_replySent_held works held]
    by_cases ok : h.reply.result = .ok
    · obtain ⟨notRestart, notClear⟩ := other.resolve_right (not_not_intro ok)
      rw [if_pos ok, startAfter, if_neg notRestart, if_neg notClear]
    · rw [if_neg ok]

/-! ## The entry number outside its range (R119, R125) -/

/-- A part in BACKUP whose next entry number stands past its 16 bits, which the premises of O50 do not exclude. -/
def unnumbered : State :=
  { State.reset with supply := { State.reset.supply with state := .backup }, journal := ⟨[], 0, 65536⟩ }

/-- The warm start of a restore writes no entry for a part without a pending passage, and leaves the next entry number as it stands. -/
theorem unnumbered_restored (v : InputLevels) :
    ∃ t, exec (.mainRestored v) unnumbered = .next t ∧ t.journal.nextNumber = 65536 := by
  let s : State := { unnumbered with supply := { unnumbered.supply with state := .run } }
  refine ⟨warmStart .supply 0 v s, exec_mainRestored_high rfl rfl v, ?_⟩
  have ordered : s.WorkersOrdered := by decide
  have noPassage : s.heldPassages allGates = [] := by decide
  rw [(warmStart_blocks ordered.2.1 .supply 0 v).1, State.warmRestarted, warmVoided_frame, State.voidedAll]
  dsimp only
  rw [noPassage]
  rfl

/-- Refutes O50: its premises leave the next entry number free, and the statement reduces it modulo 65,536 where a part with no entry to
write leaves it alone. `starts_of_numbered` is the statement with that number in its range. -/
theorem not_startsKeepOrClearTheContents : ¬ Obligations.StartsKeepOrClearTheContents := by
  intro starts
  have premises : unnumbered.WorkersOrdered ∧ unnumbered.JournalFits ∧ unnumbered.PassagesNamed ∧
      unnumbered.supply.state = .backup ∧ unnumbered.supply.resetnHigh = true ∧ unnumbered.supply.retention = .valid := by decide
  obtain ⟨ordered, fits, named, backup, high, valid⟩ := premises
  let v : InputLevels := ⟨0, 0, false, false, false, false, false⟩
  obtain ⟨t, restored, contents, -⟩ := (starts.1 unnumbered v ordered fits named).1 backup high valid
  obtain ⟨u, restored', left⟩ := unnumbered_restored v
  have same : t = u := Host.Outcome.next.inj (restored.symm.trans restored')
  have reduced : (unnumbered.journal.nextNumber + unnumbered.passages) % 65536 = 0 := by decide
  have claimed : t.journal.nextNumber = 0 := (congrArg (·.journal.nextNumber) contents).trans reduced
  rw [same, left] at claimed
  cases claimed
end Sys2Proof.Machine
end

section
/-! PROOFS. The Shift Calendar (Section 2) and the readings (R30, R49, R113, R114, R123, R150, R161): the checks of its requests, the
windows that qualify, and the statements. -/

namespace Sys2Proof.Machine

/-! ## Ranges -/

theorem not_within_iff (lo v hi : Nat) : within lo v hi = false ↔ v < lo ∨ hi < v := by
  rw [← Bool.not_eq_true, within_iff, not_and_or, Nat.not_le, Nat.not_le]

/-! ## Shift definitions (R18 to R20) -/

theorem isUnit_iff (u : Nat) : isUnit u = true ↔ u ∈ [1, 5, 6, 10, 15, 30] := by
  rw [isUnit, List.contains_iff_mem]

theorem breakValid_iff (l : Nat) (b : Break) :
    breakValid l b = true ↔ b.offset + 5 ≤ l ∧ 5 ≤ b.length ∧ b.length ≤ 120 ∧ b.offset + b.length ≤ l := by
  simp [breakValid, within]
  tauto

/-- Two breaks do not overlap when one ends by the other's begin (R18). -/
theorem breakOverlap_iff (a b : Break) :
    breakOverlap a b = false ↔ a.offset + a.length ≤ b.offset ∨ b.offset + b.length ≤ a.offset := by
  simp [breakOverlap]
  omega

theorem breaksValid_iff (l : Nat) (breaks : List Break) :
    breaksValid l breaks = true ↔ breaks.length ≤ 2 ∧
      (∀ b ∈ breaks, b.offset + 5 ≤ l ∧ 5 ≤ b.length ∧ b.length ≤ 120 ∧ b.offset + b.length ≤ l) ∧
      breaks.Pairwise fun a b => a.offset + a.length ≤ b.offset ∨ b.offset + b.length ≤ a.offset := by
  match breaks with
  | [] => simp [breaksValid]
  | [a] => simp [breaksValid, breakValid_iff]
  | [a, b] => simp [breaksValid, breakValid_iff, breakOverlap_iff, and_assoc]
  | _ :: _ :: _ :: _ => simp [breaksValid]

theorem shiftDefValid_iff (d : ShiftDef) : shiftDefValid d = true ↔ ShiftInTable d := by
  simp only [shiftDefValid, Bool.and_eq_true, within_iff, isUnit_iff, breaksValid_iff, Nat.zero_le, true_and, ShiftInTable, and_assoc]

/-- The definition that a code in range holds. -/
theorem Calendar.shiftOf_inRange {code : Nat} (inRange : 1 ≤ code ∧ code ≤ 15) (c : Calendar) :
    c.shiftOf code = c.shifts.getD (code - 1) none := if_pos ((within_iff 1 code 15).mpr inRange)

/-- A code that holds a definition is in range. -/
theorem Calendar.shiftOf_some {c : Calendar} {code : Nat} {d : ShiftDef} (defined : c.shiftOf code = some d) :
    1 ≤ code ∧ code ≤ 15 := by
  unfold Calendar.shiftOf at defined
  split at defined
  · exact (within_iff 1 code 15).mp ‹_›
  · cases defined

theorem exec_shiftDefine {s : State} (h : s.Ready) (tag code : Nat) (d : ShiftDef) :
    exec (.shiftDefine tag code d) s = .next (
      if code < 1 ∨ 15 < code ∨ ¬ ShiftInTable d then s.answered 0x10 tag .badValue .nothing
      else if 0 < s.calendar.openRef code then s.answered 0x10 tag .inUse .nothing
      else State.answered { s with calendar := { s.calendar with
        shifts := s.calendar.shifts.setIfInBounds (code - 1) (some { d with breaks := sortBreaks d.breaks }) } } 0x10 tag .ok .nothing) := by
  change execShiftDefine tag code d s = _
  rw [execShiftDefine, serve_ready h]
  have refused : (!(within 1 code 15 && shiftDefValid d)) = true ↔ code < 1 ∨ 15 < code ∨ ¬ ShiftInTable d := by
    rw [Bool.not_eq_true', Bool.and_eq_false_iff, not_within_iff, ← Bool.not_eq_true, shiftDefValid_iff, or_assoc]
  simp only [refused, Nat.pos_iff_ne_zero]
  split
  · rfl
  · split <;> rfl

theorem exec_shiftDelete {s : State} (h : s.Ready) (tag code : Nat) :
    exec (.shiftDelete tag code) s = .next (
      if code < 1 ∨ 15 < code then s.answered 0x11 tag .badValue .nothing
      else if s.calendar.shifts.getD (code - 1) none = none then s.answered 0x11 tag .notFound .nothing
      else if 0 < s.calendar.openRef code then s.answered 0x11 tag .inUse .nothing
      else State.answered { s with calendar := { s.calendar with shifts := s.calendar.shifts.setIfInBounds (code - 1) none } }
        0x11 tag .ok .nothing) := by
  change execShiftDelete tag code s = _
  rw [execShiftDelete, serve_ready h]
  by_cases outside : code < 1 ∨ 15 < code
  · rw [if_pos outside, (not_within_iff 1 code 15).mpr outside]
    rfl
  · have inRange : 1 ≤ code ∧ code ≤ 15 := by omega
    rw [if_neg outside, (within_iff 1 code 15).mpr inRange, Calendar.shiftOf_inRange inRange]
    simp only [Bool.not_true, Bool.false_eq_true, if_false, Option.isNone_iff_eq_none, Nat.pos_iff_ne_zero]
    split
    · rfl
    · split <;> rfl

/-- Settles O14: the two requests' checks in their order, the breaks of a definition sorted as the statement writes it. -/
theorem shiftsAreDefinedAndDeletedUnused : Obligations.ShiftsAreDefinedAndDeletedUnused := by
  refine ⟨fun s tag code d ready => ?_, fun s tag code ready => exec_shiftDelete ready tag code⟩
  rw [exec_shiftDefine ready]
  rfl

/-! ## Crews, tally parameters and rates (R23, R25, R27) -/

theorem crewDefineValid_iff (crew n anchor : Nat) (pattern : List Nat) :
    crewDefineValid crew n anchor pattern = true ↔ 1 ≤ crew ∧ crew ≤ 8 ∧ 1 ≤ n ∧ n ≤ 28 ∧ anchor ≤ 65535 ∧ pattern.length = n ∧
      ∀ code ∈ pattern, code ≤ 15 := by
  simp [crewDefineValid, within, and_assoc]

theorem tallyParamsValid_iff (p : TallyParams) : tallyParamsValid p = true ↔ TallyInTable p := by
  simp only [tallyParamsValid, Bool.and_eq_true, within_iff, isUnit_iff, Nat.zero_le, true_and, TallyInTable, and_assoc]

theorem ratesValid_iff (rates : List GradeRate) :
    ratesValid rates = true ↔ 1 ≤ rates.length ∧ rates.length ≤ 16 ∧ (∀ r ∈ rates, r.grade ≤ 15 ∧ r.rate ≤ 65535) ∧
      rates.Pairwise fun a b => a.grade ≠ b.grade := by
  simp only [ratesValid, Bool.and_eq_true, within_iff, List.all_eq_true, Nat.zero_le, true_and, decide_eq_true_eq, List.Nodup,
    List.pairwise_map, and_assoc]

/-- Rates written one after another under different grades: each grade holds its own pair's rate, or what it held (R27). -/
theorem foldl_setRate {rates : List GradeRate} (distinct : rates.Pairwise fun a b => a.grade ≠ b.grade) (g : Fin 16) :
    ∀ v : Vector Nat 16, (rates.foldl (fun v r => v.setIfInBounds r.grade r.rate) v)[g] =
      ((rates.find? fun r => r.grade == g.val).map (·.rate)).getD v[g] := by
  induction rates with
  | nil => exact fun _ => rfl
  | cons r rest ih =>
    intro v
    obtain ⟨apart, distinct'⟩ := List.pairwise_cons.mp distinct
    rw [List.foldl_cons, ih distinct']
    by_cases hit : r.grade = g.val
    · have last : (rest.find? fun r => r.grade == g.val) = none := by
        simpa [← hit] using fun x hx => (apart x hx).symm
      simp [last, hit]
    · simp [hit]

theorem exec_crewDefine {s : State} (h : s.Ready) (tag crew n anchor : Nat) (pattern : List Nat) :
    exec (.crewDefine tag crew n anchor pattern) s = .next (
      if 1 ≤ crew ∧ crew ≤ 8 ∧ 1 ≤ n ∧ n ≤ 28 ∧ anchor ≤ 65535 ∧ pattern.length = n ∧ ∀ code ∈ pattern, code ≤ 15 then
        State.answered { s with calendar := { s.calendar with
          rotations := s.calendar.rotations.setIfInBounds (crew - 1) ⟨anchor, pattern⟩ } } 0x12 tag .ok .nothing
      else s.answered 0x12 tag .badValue .nothing) := by
  change execCrewDefine tag crew n anchor pattern s = _
  rw [execCrewDefine, serve_ready h]
  simp only [← crewDefineValid_iff]
  cases crewDefineValid crew n anchor pattern <;> rfl

theorem exec_tallyConfig {s : State} (h : s.Ready) (tag : Nat) (p : TallyParams) :
    exec (.tallyConfig tag p) s = .next (
      if TallyInTable p then State.answered { s with calendar := { s.calendar with tally := p } } 0x13 tag .ok .nothing
      else s.answered 0x13 tag .badValue .nothing) := by
  change execTallyConfig tag p s = _
  rw [execTallyConfig, serve_ready h]
  simp only [← tallyParamsValid_iff]
  cases tallyParamsValid p <;> rfl

theorem exec_rateSet {s : State} (h : s.Ready) (tag : Nat) (rates : List GradeRate) :
    exec (.rateSet tag rates) s = .next (
      if 1 ≤ rates.length ∧ rates.length ≤ 16 ∧ (∀ r ∈ rates, r.grade ≤ 15 ∧ r.rate ≤ 65535) ∧
          rates.Pairwise (fun a b => a.grade ≠ b.grade) then
        State.answered { s with calendar := { s.calendar with
          rates := rates.foldl (fun v r => v.setIfInBounds r.grade r.rate) s.calendar.rates } } 0x14 tag .ok .nothing
      else s.answered 0x14 tag .badValue .nothing) := by
  change execRateSet tag rates s = _
  rw [execRateSet, serve_ready h]
  simp only [← ratesValid_iff]
  cases ratesValid rates <;> rfl

/-- Settles O15: each request's check and what it stores; the rates, written in turn, are read back grade by grade. -/
theorem calendarTablesAreReplacedWhole : Obligations.CalendarTablesAreReplacedWhole := by
  intro s ready
  refine ⟨fun tag crew n anchor pattern => exec_crewDefine ready tag crew n anchor pattern, fun tag p => exec_tallyConfig ready tag p,
    fun tag rates => ?_⟩
  rw [exec_rateSet ready]
  by_cases valid : 1 ≤ rates.length ∧ rates.length ≤ 16 ∧ (∀ r ∈ rates, r.grade ≤ 15 ∧ r.rate ≤ 65535) ∧
      rates.Pairwise fun a b => a.grade ≠ b.grade
  · have ⟨_, _, _, distinct⟩ := valid
    have stored : rates.foldl (fun v r => v.setIfInBounds r.grade r.rate) s.calendar.rates =
        Vector.ofFn fun g => ((rates.find? fun r => r.grade == g.val).map (·.rate)).getD s.calendar.rates[g] :=
      Vector.ext fun i hi => by
        rw [Vector.getElem_ofFn]
        exact foldl_setRate distinct ⟨i, hi⟩ s.calendar.rates
    rw [if_pos valid, if_pos valid, stored]
  · rw [if_neg valid, if_neg valid]

/-! ## Matching (R28, R29) -/

/-- The days beside an entry's, without one across the day wrap (R28). -/
theorem mem_candidateDays (day x : Nat) : x ∈ candidateDays day ↔ x = day ∨ x + 1 = day ∨ (x = day + 1 ∧ day ≠ 65535) := by
  unfold candidateDays
  by_cases first : day = 0 <;> by_cases last : day = 65535 <;> simp [first, last] <;> omega

/-- The candidate of a day is the window of the crew's shift on it, where the entry lies in [S - We, E) (R24, R28). -/
theorem candidate_eq_some (c : Calendar) (crew t day : Nat) (w : Window) :
    c.candidate crew t day = some w ↔ w.day = day ∧ ∃ d ∈ c.shiftOf w.code, w.code = (c.rotationOf crew).codeOn day ∧
      w.start = day * 1440 + d.start ∧ w.stop = w.start + d.length ∧ w.start ≤ t + d.entryWindow ∧ t < w.stop := by
  unfold Calendar.candidate Calendar.shiftOn
  dsimp only
  generalize (c.rotationOf crew).codeOn day = code
  cases defined : c.shiftOf code with
  | none =>
    simp only [Option.map_none, reduceCtorEq, false_iff]
    rintro ⟨-, d, holds, rfl, -⟩
    rw [defined] at holds
    cases holds
  | some d =>
    simp only [Option.map_some, Bool.and_eq_true, decide_eq_true_eq, Option.ite_none_right_eq_some, Option.some.injEq]
    constructor
    · rintro ⟨⟨early, late⟩, rfl⟩
      exact ⟨rfl, d, defined, rfl, rfl, rfl, early, late⟩
    · obtain ⟨wday, wcode, start, stop⟩ := w
      dsimp only
      rintro ⟨rfl, e, holds, rfl, rfl, rfl, early, late⟩
      obtain rfl : d = e := Option.some.inj (defined.symm.trans holds)
      exact ⟨⟨early, late⟩, rfl⟩

/-- The windows that matching chooses among are those that qualify (R28). -/
theorem mem_candidates (c : Calendar) (crew t : Nat) (w : Window) :
    w ∈ (candidateDays (t / 1440)).filterMap (c.candidate crew t) ↔ c.Qualifies crew t w := by
  simp only [List.mem_filterMap, candidate_eq_some, mem_candidateDays]
  constructor
  · rintro ⟨day, near, rfl, shift⟩
    exact ⟨near, shift⟩
  · rintro ⟨near, shift⟩
    exact ⟨w.day, near, rfl, shift⟩

/-- The window's start is nearer the entry than the other's, or as near and not later (R29). -/
def Window.NoFarther (t : Nat) (w v : Window) : Prop :=
  w.distance t < v.distance t ∨ (w.distance t = v.distance t ∧ w.start ≤ v.start)

theorem Window.NoFarther.refl (t : Nat) (w : Window) : w.NoFarther t w := .inr ⟨rfl, Nat.le_refl _⟩

theorem Window.NoFarther.trans {t : Nat} {u v w : Window} (h : u.NoFarther t v) (k : v.NoFarther t w) : u.NoFarther t w := by
  unfold Window.NoFarther at *
  omega

/-- The nearer of two windows is one of them, and no farther than either (R29). -/
theorem nearerWindow_spec (t : Nat) (a b : Window) :
    (nearerWindow t a b = a ∨ nearerWindow t a b = b) ∧ (nearerWindow t a b).NoFarther t a ∧ (nearerWindow t a b).NoFarther t b := by
  unfold nearerWindow Window.NoFarther
  split
  · exact ⟨.inl rfl, by omega, by omega⟩
  · split
    · exact ⟨.inr rfl, by omega, by omega⟩
    · split
      · exact ⟨.inr rfl, by omega, by omega⟩
      · exact ⟨.inl rfl, by omega, by omega⟩

/-- The choice along a list is one of its windows, and no farther than any (R29). -/
theorem foldl_nearerWindow (t : Nat) (rest : List Window) : ∀ w : Window,
    rest.foldl (nearerWindow t) w ∈ w :: rest ∧ ∀ v ∈ w :: rest, (rest.foldl (nearerWindow t) w).NoFarther t v := by
  induction rest with
  | nil => intro w; simpa using Window.NoFarther.refl t w
  | cons x rest ih =>
    intro w
    obtain ⟨chosen, nearW, nearX⟩ := nearerWindow_spec t w x
    obtain ⟨member, nearest⟩ := ih (nearerWindow t w x)
    have first := nearest _ List.mem_cons_self
    rw [List.foldl_cons]
    refine ⟨?_, fun v hv => ?_⟩
    · obtain same | later := List.mem_cons.mp member
      · rw [same]
        obtain e | e := chosen <;> simp [e]
      · exact List.mem_cons_of_mem _ (List.mem_cons_of_mem _ later)
    · obtain rfl | rfl | later := by simpa using hv
      · exact first.trans nearW
      · exact first.trans nearX
      · exact nearest v (List.mem_cons_of_mem _ later)

theorem chooseWindow_some {t : Nat} {l : List Window} {w : Window} (h : chooseWindow t l = some w) :
    w ∈ l ∧ ∀ v ∈ l, w.NoFarther t v := by
  cases l with
  | nil => cases h
  | cons x rest =>
    obtain rfl := Option.some.inj h
    exact foldl_nearerWindow t rest x

theorem chooseWindow_none {t : Nat} {l : List Window} (h : chooseWindow t l = none) : l = [] := by
  cases l with
  | nil => rfl
  | cons x rest => cases h

/-- The window that claims an entry is one of the calendar's own: a defined shift's, of its length (R24, R28). -/
theorem matchEntry_defined {c : Calendar} {crew : Option Nat} {t : Nat} {w : Window} (h : c.matchEntry crew t = some w) :
    ∃ d ∈ c.shiftOf w.code, w.stop = w.start + d.length := by
  cases crew with
  | none => cases h
  | some k =>
    obtain ⟨-, d, defined, -, -, length, -⟩ := (mem_candidates c k t w).mp (chooseWindow_some h).1
    exact ⟨d, defined, length⟩

/-- Settles O17: the candidates are the windows that qualify, and the choice along them is a minimum. -/
theorem matchingChoosesTheNearestWindow : Obligations.MatchingChoosesTheNearestWindow := by
  intro c crew t
  refine ⟨fun w found => ?_, fun missing v qualifies => ?_, rfl⟩
  · obtain ⟨member, nearest⟩ := chooseWindow_some found
    exact ⟨(mem_candidates c crew t w).mp member, fun v qualifies => nearest v ((mem_candidates c crew t v).mpr qualifies)⟩
  · have member := (mem_candidates c crew t v).mpr qualifies
    rw [chooseWindow_none missing] at member
    cases member

/-! ## The calendar's readings (R24, R30) -/

theorem exec_calendarReadShift {s : State} (h : s.Ready) (tag code : Nat) :
    exec (.calendarReadShift tag code) s = .next (
      if code < 1 ∨ 15 < code then s.answered 0x15 tag .badValue .nothing
      else match s.calendar.shifts.getD (code - 1) none with
        | none => s.answered 0x15 tag .notFound .nothing
        | some d => s.answered 0x15 tag .ok (.shift d (s.calendar.openRefs.getD (code - 1) 0))) := by
  change execCalendarReadShift tag code s = _
  rw [execCalendarReadShift, serve_ready h]
  by_cases outside : code < 1 ∨ 15 < code
  · rw [if_pos outside, (not_within_iff 1 code 15).mpr outside]
    rfl
  · have inRange : 1 ≤ code ∧ code ≤ 15 := by omega
    rw [if_neg outside, (within_iff 1 code 15).mpr inRange, Calendar.shiftOf_inRange inRange]
    cases s.calendar.shifts.getD (code - 1) none <;> rfl

theorem exec_calendarReadCrew {s : State} (h : s.Ready) (tag crew : Nat) :
    exec (.calendarReadCrew tag crew) s = .next (
      if crew < 1 ∨ 8 < crew then s.answered 0x15 tag .badValue .nothing
      else s.answered 0x15 tag .ok (.crew (s.calendar.rotations.getD (crew - 1) Rotation.rest))) := by
  change execCalendarReadCrew tag crew s = _
  rw [execCalendarReadCrew, serve_ready h]
  simp only [Bool.not_eq_true', not_within_iff]
  split <;> rfl

theorem exec_calendarReadDay {s : State} (h : s.Ready) (tag crew day : Nat) :
    exec (.calendarReadDay tag crew day) s = .next (
      if crew < 1 ∨ 8 < crew ∨ 65535 < day then s.answered 0x15 tag .badValue .nothing
      else s.answered 0x15 tag .ok (s.calendar.dayReading crew day)) := by
  change execCalendarReadDay tag crew day s = _
  rw [execCalendarReadDay, serve_ready h]
  have refused : (!(within 1 crew 8 && within 0 day 65535)) = true ↔ crew < 1 ∨ 8 < crew ∨ 65535 < day := by
    rw [Bool.not_eq_true', Bool.and_eq_false_iff, not_within_iff, not_within_iff]
    omega
  simp only [refused]
  split <;> rfl

theorem exec_calendarReadTally {s : State} (h : s.Ready) (tag : Nat) :
    exec (.calendarReadTally tag) s = .next (s.answered 0x15 tag .ok (.tally s.calendar.tally)) := by
  change execCalendarReadTally tag s = _
  rw [execCalendarReadTally, serve_ready h]
  rfl

theorem exec_calendarReadRates {s : State} (h : s.Ready) (tag : Nat) :
    exec (.calendarReadRates tag) s = .next (s.answered 0x15 tag .ok (.rates s.calendar.rates.toList)) := by
  change execCalendarReadRates tag s = _
  rw [execCalendarReadRates, serve_ready h]
  rfl

/-! ## The readings of the other tables (R49, R113, R114, R123, R150, R161) -/

theorem exec_workerGet {s : State} (h : s.Ready) (tag badge : Nat) :
    exec (.workerGet tag badge) s = .next (
      if badge < 1 ∨ 16777215 < badge then s.answered 0x21 tag .badValue (.recordCount s.workers.length)
      else match s.worker badge with
        | none => s.answered 0x21 tag .notFound (.recordCount s.workers.length)
        | some w => s.answered 0x21 tag .ok (.worker w s.workers.length)) := by
  change execWorkerGet tag badge s = _
  rw [execWorkerGet, serve_ready h]
  simp only [isBadge, Bool.not_eq_true', not_within_iff]
  split
  · rfl
  · cases s.worker badge <;> rfl

theorem exec_musterRead {s : State} (h : s.Ready) (tag cursor k : Nat) :
    exec (.musterRead tag cursor k) s = .next (
      if 16777215 < cursor ∨ k < 1 ∨ 8 < k then s.answered 0x43 tag .badValue .nothing
      else s.answered 0x43 tag .ok
        (.muster (((s.musterBeyond cursor).take k).map musterEntry) (k < (s.musterBeyond cursor).length))) := by
  change execMusterRead tag cursor k s = _
  rw [execMusterRead, serve_ready h]
  have refused : (!(within 0 cursor 16777215 && within 1 k 8)) = true ↔ 16777215 < cursor ∨ k < 1 ∨ 8 < k := by
    rw [Bool.not_eq_true', Bool.and_eq_false_iff, not_within_iff, not_within_iff]
    omega
  simp only [refused]
  split <;> rfl

/-- The records that a muster shows, as the statements write them (R113). -/
theorem musterBeyond_eq (s : State) (cursor : Nat) :
    s.musterBeyond cursor = s.workers.filter fun w => cursor < w.badge ∧ w.presence ≠ .outside :=
  List.filter_congr fun w _ => by simp [Bool.decide_and, bne, beq_eq_decide]

theorem exec_journalRead {s : State} (h : s.Ready) (tag k : Nat) :
    exec (.journalRead tag k) s = .next (
      if k < 1 ∨ 16 < k then s.answered 0x48 tag .badValue .nothing
      else s.answered 0x48 tag .ok (.journal s.journal.entries.length s.journal.reserved s.journal.nextNumber
        (s.journal.entries.take k))) := by
  change execJournalRead tag k s = _
  rw [execJournalRead, serve_ready h]
  simp only [Bool.not_eq_true', not_within_iff]
  split <;> rfl

theorem exec_gateRead {s : State} (h : s.Ready) (tag gate : Nat) :
    exec (.gateRead tag gate) s = .next (
      if 15 < gate then s.answered 0x42 tag .badValue .nothing else s.answered 0x42 tag .ok (.gate (s.gateReading gate))) := by
  change execGateRead tag gate s = _
  rw [execGateRead, serve_ready h]
  simp only [Bool.not_eq_true', not_within_iff, Nat.not_lt_zero, false_or]
  split <;> rfl

theorem exec_periodRead {s : State} (h : s.Ready) (tag : Nat) :
    exec (.periodRead tag) s = .next (s.answered 0x53 tag .ok (.period ⟨s.period.state, s.period.number, s.period.boundary,
      s.period.previous, s.period.counter, s.period.workerCount, s.period.cursor,
      if s.period.state = .ready ∨ s.period.state = .drained then some s.period.grand else none⟩)) := by
  change execPeriodRead tag s = _
  rw [execPeriodRead, serve_ready h]
  rfl

theorem exec_bellRead {s : State} (h : s.Ready) (tag : Nat) :
    exec (.bellRead tag) s = .next (s.answered 0x5D tag .ok
      (.bells ⟨s.bells.cadences.toList, s.bells.fixed.toList, s.bells.fireMask, s.bells.highWater, s.bells.zones.toList⟩)) := by
  change execBellRead tag s = _
  rw [execBellRead, serve_ready h]
  rfl

/-- Settles O16: each reading's reply by its own lemma, its answer written out as the statement writes it. -/
theorem readingsChangeNothing : Obligations.ReadingsChangeNothing := by
  refine ⟨fun s tag ready => ⟨exec_calendarReadShift ready tag, exec_calendarReadCrew ready tag, exec_calendarReadDay ready tag,
    exec_calendarReadTally ready tag, exec_calendarReadRates ready tag⟩, fun s tag ready => ⟨exec_workerGet ready tag,
    fun cursor k => ?_, exec_journalRead ready tag, exec_gateRead ready tag, ?_, exec_bellRead ready tag⟩⟩
  · rw [exec_musterRead ready, musterBeyond_eq]
    rfl
  · rw [exec_periodRead ready]
    dsimp only
    cases s.period.state <;> simp

end Sys2Proof.Machine
end

section
/-! PROOFS. Which commands leave the calendar and the worker table as they are: the operations of the blocks that touch neither, and the
commands made of them. -/

namespace Sys2Proof.Machine

/-! ## The calendar and the worker table -/

/-- The calendar and the worker table, the two blocks that the law of the open reference counts reads (R21). -/
def State.ledger (s : State) : Calendar × List WorkerRecord := (s.calendar, s.workers)

theorem State.ledger_eq {s t : State} (h : t.ledger = s.ledger) : t.calendar = s.calendar ∧ t.workers = s.workers :=
  Prod.mk.inj h

/-- A part written field by field, whatever its other blocks. -/
@[simp] theorem State.ledger_mk (time : Timebase) (follower : Follower) (calendar : Calendar) (workers : List WorkerRecord)
    (loops : Vector LoopState 4) (punch : PunchProcessor) (gates : Vector Gate 16) (fire : Bool) (journal : Journal)
    (period : PeriodUnit) (bells : Bells) (supply : SupplyMonitor) (link : StationLink) (pending : List Instr) :
    (State.mk time follower calendar workers loops punch gates fire journal period bells supply link pending).ledger =
      (calendar, workers) := rfl

@[simp] theorem State.ledger_fold (s : State) : (s.calendar, s.workers) = s.ledger := rfl

theorem ledger_ite {c : Prop} [Decidable c] {s t u : State} (yes : t.ledger = s.ledger) (no : u.ledger = s.ledger) :
    (if c then t else u).ledger = s.ledger := by
  split
  · exact yes
  · exact no

/-- Where the outcome is a next state, that state has the property. -/
def Leaves (P : State → Prop) (o : Host.Outcome State Fault Refusal) : Prop := ∀ t, o = .next t → P t

theorem leaves_next {P : State → Prop} {s : State} (h : P s) : Leaves P (.next s) := by
  rintro t ⟨⟩
  exact h

theorem leaves_whileLive {P : State → Prop} {f : State → State} {s : State} (stays : P s) (acts : P (f s)) :
    Leaves P (whileLive f s) := by
  refine leaves_next ?_
  split
  · exact acts
  · exact stays

/-- Whatever the taking of a request leaves, it is the part itself or the part its block decided, with only the link changed (R168). -/
theorem leaves_serve {P : State → Prop} {f : State → State × Reply} {s : State} (k tag : Nat)
    (blind : ∀ u t : State, t.ledger = u.ledger → P u → P t) (stays : P s) (acts : P (f s).1) : Leaves P (serve k tag f s) := by
  obtain ⟨-, e⟩ | ⟨-, -, e⟩ | ⟨-, e⟩ := serve_cases k tag f s
  · rw [e]; exact leaves_next stays
  · rw [e]; exact leaves_next (blind s _ rfl stays)
  · rw [e]; exact leaves_next (blind (f s).1 _ rfl acts)

/-- An outcome that leaves the calendar and the worker table as they are in `s`. -/
abbrev Spares (s : State) (o : Host.Outcome State Fault Refusal) : Prop := Leaves (fun t => t.ledger = s.ledger) o

theorem spares_next {s t : State} (same : t.ledger = s.ledger) : Spares s (.next t) := leaves_next same

theorem spares_whileLive {f : State → State} {s : State} (acts : (f s).ledger = s.ledger) : Spares s (whileLive f s) :=
  leaves_whileLive rfl acts

theorem spares_serve {f : State → State × Reply} {s : State} (k tag : Nat) (acts : (f s).1.ledger = s.ledger) :
    Spares s (serve k tag f s) :=
  leaves_serve k tag (fun _ _ same kept => same.trans kept) rfl acts

@[simp] theorem refuse_part (r : Result) (s : State) : (refuse r s).1 = s := rfl

@[simp] theorem okay_part (s : State) : (okay s).1 = s := rfl

@[simp] theorem okayWith_part (c : Content) (s : State) : (okayWith c s).1 = s := rfl

@[simp] theorem countReply_part (r : Result) (s : State) : (countReply r s).1 = s := rfl

/-! ## Operations of the blocks that leave both -/

@[simp] theorem queueReport_ledger (r : Report) (s : State) : (queueReport r s).ledger = s.ledger := rfl

@[simp] theorem State.setGate_ledger (s : State) (g : Nat) (x : Gate) : (s.setGate g x).ledger = s.ledger := rfl

@[simp] theorem State.setLoop_ledger (s : State) (l : Nat) (x : LoopState) : (s.setLoop l x).ledger = s.ledger := rfl

@[simp] theorem State.withPending_ledger (s : State) (q : List Instr) : (s.withPending q).ledger = s.ledger := rfl

@[simp] theorem followerEvent_ledger (cause : ClockCause) (f : Follower) (s : State) :
    (followerEvent cause f s).ledger = s.ledger := rfl

@[simp] theorem clearMark_ledger (s : State) : (clearMark s).ledger = s.ledger := rfl

@[simp] theorem setEnable_ledger (enable : Bool) (s : State) : (setEnable enable s).ledger = s.ledger := by
  unfold setEnable
  split <;> rfl

@[simp] theorem windowWatch_ledger (s : State) : (windowWatch s).ledger = s.ledger := by
  unfold windowWatch windowCheck missImpulse
  dsimp only
  repeat' split
  all_goals rfl

@[simp] theorem disciplineOut_ledger (f : Follower) (s : State) : (disciplineOut f s).ledger = s.ledger := by
  unfold disciplineOut
  dsimp only
  split <;> rfl

@[simp] theorem followerClockSet_ledger (s : State) : (followerClockSet s).ledger = s.ledger := by
  unfold followerClockSet
  split <;> rfl

@[simp] theorem gateSeconds_ledger (s : State) : (gateSeconds s).ledger = s.ledger := by
  unfold gateSeconds
  split <;> rfl

@[simp] theorem backupSecond_ledger (s : State) : (backupSecond s).ledger = s.ledger := by
  unfold backupSecond
  split <;> rfl

@[simp] theorem tenthTick_ledger (s : State) : (tenthTick s).ledger = s.ledger := by
  unfold tenthTick
  split <;> rfl

@[simp] theorem tickPeriod_ledger (s : State) : (tickPeriod s).ledger = s.ledger := by
  unfold tickPeriod
  split
  · rfl
  · exact tenthTick_ledger _

@[simp] theorem journalClaim_ledger (s : State) : (journalClaim s).ledger = s.ledger := by
  rw [journalClaim_frame]
  rfl

@[simp] theorem journalDirect_ledger (e : JournalEntry) (s : State) : (journalDirect e s).ledger = s.ledger := by
  rw [journalDirect_frame]
  rfl

@[simp] theorem journalClaimed_ledger (e : JournalEntry) (s : State) : (journalClaimed e s).ledger = s.ledger := rfl

@[simp] theorem readyIfDue_ledger (s : State) : (readyIfDue s).ledger = s.ledger := by
  rw [readyIfDue_frame]
  rfl

@[simp] theorem deliver_ledger (k : Nat) (s : State) : (deliver k s).1.ledger = s.ledger := by
  rw [(deliver_frame k s).1]
  rfl

@[simp] theorem overrun_ledger (s : State) : (overrun s).ledger = s.ledger := rfl

@[simp] theorem rewindStream_ledger (s : State) : (rewindStream s).ledger = s.ledger := rfl

@[simp] theorem stopWork_ledger (s : State) : (stopWork s).ledger = s.ledger := rfl

/-! ### Gates -/

@[simp] theorem applyStanding_ledger (g : Nat) (s : State) : (applyStanding g s).ledger = s.ledger := by
  rw [applyStanding_frame]
  rfl

@[simp] theorem applyStandings_ledger (gs : List Nat) (s : State) : (applyStandings gs s).ledger = s.ledger := by
  rw [applyStandings_frame]
  rfl

@[simp] theorem setMode_ledger (g : Nat) (m : ControlMode) (s : State) : (setMode g m s).ledger = s.ledger :=
  applyStanding_ledger g _

@[simp] theorem gateAlarm_ledger (g : Nat) (alarm : Alarm) (phase : AlarmPhase) (dir : Option Direction) (s : State) :
    (gateAlarm g alarm phase dir s).ledger = s.ledger := rfl

@[simp] theorem clearAlarm_ledger (g : Nat) (x : Gate) (s : State) : (clearAlarm g x s).ledger = s.ledger := by
  unfold clearAlarm
  split <;> rfl

@[simp] theorem configureGate_ledger (g : Nat) (c : GateConfig) (in0 in1 : Bool) (s : State) :
    (configureGate g c in0 in1 s).ledger = s.ledger := by
  unfold configureGate
  dsimp only
  rw [applyStanding_ledger]
  split <;> simp

@[simp] theorem untrackedRelease_ledger (g : Nat) (s : State) : (untrackedRelease g s).ledger = s.ledger := by
  unfold untrackedRelease
  dsimp only
  split
  · rfl
  · exact ledger_ite rfl rfl

@[simp] theorem takePassage_ledger (g : Nat) (p : Passage) (s : State) : (takePassage g p s).ledger = s.ledger := rfl

@[simp] theorem contactOpens_ledger (g : Nat) (s : State) : (contactOpens g s).ledger = s.ledger := by
  unfold contactOpens
  dsimp only
  split <;> rfl

@[simp] theorem contactCloses_ledger (g : Nat) (s : State) : (contactCloses g s).ledger = s.ledger := by
  unfold contactCloses
  dsimp only
  split <;> rfl

/-- A mode order leaves both where its act does. -/
theorem orderMode_ledger {gate : Nat} {m : ControlMode} {act : State → State} (s : State)
    (spares : ∀ u, (act u).ledger = u.ledger) : (orderMode gate m act s).1.ledger = s.ledger := by
  unfold orderMode
  split
  · rfl
  · split
    · rfl
    · exact (spares _).trans (setMode_ledger gate m s)

/-! ### Loops -/

@[simp] theorem deliverToGates_ledger (l : Nat) (s : State) : (deliverToGates l s).ledger = s.ledger := applyStandings_ledger _ s

@[simp] theorem readerEvent_ledger (l address : Nat) (cause : ReaderCause) (code : Nat) (s : State) :
    (readerEvent l address cause code s).ledger = s.ledger := rfl

@[simp] theorem changeMode_ledger (l : Nat) (cause : LoopCause) (x : LoopState) (s : State) :
    (changeMode l cause x s).ledger = s.ledger := deliverToGates_ledger l _

@[simp] theorem finishExchange_ledger (l : Nat) (answer : Answer) (s : State) : (finishExchange l answer s).ledger = s.ledger := by
  unfold finishExchange
  dsimp only
  split
  · rfl
  · rfl
  all_goals split <;> simp

@[simp] theorem settleAnswer_ledger (l address : Nat) (answer : Answer) (s : State) :
    (settleAnswer l address answer s).ledger = s.ledger := by
  unfold settleAnswer
  dsimp only
  split
  · split <;> simp
  · simp
  · rfl

@[simp] theorem setExchange_ledger (l : Nat) (e : Exchange) (s : State) : (setExchange l e s).ledger = s.ledger := rfl

@[simp] theorem takePunchAnswer_ledger (l address sequence badge : Nat) (s : State) :
    (takePunchAnswer l address sequence badge s).ledger = s.ledger := by
  unfold takePunchAnswer
  dsimp only
  split
  · simp
  · split
    · split <;> rfl
    · rfl

@[simp] theorem actOnAnswer_ledger (l address : Nat) (answer : Answer) (s : State) :
    (actOnAnswer l address answer s).ledger = s.ledger := by
  unfold actOnAnswer
  dsimp only
  split <;> simp

@[simp] theorem abortAnswer_ledger (l address : Nat) (r : Receiver) (s : State) :
    (abortAnswer l address r s).ledger = s.ledger := by
  simp [abortAnswer]

@[simp] theorem endTest_ledger (l k : Nat) (x : LoopState) (s : State) : (endTest l k x s).ledger = s.ledger := by
  simp [endTest]

theorem spares_whileAwaiting {l : Fin 4} {f : Nat → State → State} {s : State} (spares : ∀ address, (f address s).ledger = s.ledger) :
    Spares s (whileAwaiting l f s) := by
  refine spares_whileLive ?_
  split
  · exact spares _
  · rfl

/-! ## Commands that leave both -/

/-- The commands that may change the calendar or the worker table. -/
def writesLedger : Instr → Bool
  | .shiftDefine .. | .shiftDelete .. | .crewDefine .. | .tallyConfig .. | .rateSet .. | .workerPut .. | .workerRemove ..
  | .workerPresence .. | .collectChanged .. | .clockSet .. | .gateCommandLockdown .. | .periodClose .. | .closeRelease ..
  | .replySent .. | .secondEvent | .impulseEvent .. | .punchTaken | .passagePulse .. | .turnstileReleaseExpired .. | .fireTaken
  | .mainRestored .. | .resetnReleased .. => true
  | _ => false

/-- Every other command leaves both as they are. -/
theorem exec_ledger {i : Instr} (reads : writesLedger i = false) (s : State) : Spares s (exec i s) := by
  cases i with
  | shiftDefine | shiftDelete | crewDefine | tallyConfig | rateSet | workerPut | workerRemove | workerPresence | collectChanged
  | clockSet | gateCommandLockdown | periodClose | closeRelease | replySent | secondEvent | impulseEvent | punchTaken | passagePulse
  | turnstileReleaseExpired | fireTaken | mainRestored | resetnReleased => exact Bool.noConfusion reads
  | gateCommandNormal | gateCommandFree => exact spares_serve _ _ (orderMode_ledger s fun _ => rfl)
  | clockConfig | clockRead | calendarReadShift | calendarReadCrew | calendarReadDay | calendarReadTally | calendarReadRates
  | workerGet | loopConfig | loopStart | loopStop | loopTest | loopStatus | gateConfig | gateCommandRelease | gateRead | musterRead
  | journalRead | journalRelease | closeRead | periodRead | cadenceDefine | bellEntryPut | bellEntryRemove | zoneConfig | bellManual
  | bellSilence | bellRead | restart | factoryClear | status | reportFetch =>
    simp only [exec, execClockConfig, execClockRead, execCalendarReadShift, execCalendarReadCrew, execCalendarReadDay,
      execCalendarReadTally, execCalendarReadRates, execWorkerGet, execLoopConfig, execLoopStart, execLoopStop, execLoopTest,
      execLoopStatus, execGateConfig, execGateCommandRelease, execGateRead, execMusterRead, execJournalRead, execJournalRelease,
      execCloseRead, execPeriodRead, execCadenceDefine, execBellEntryPut, execBellEntryRemove, execZoneConfig, execBellManual,
      execBellSilence, execBellRead, execRestart, execFactoryClear, execStatus, execReportFetch]
    refine spares_serve _ _ ?_
    repeat' split
    all_goals simp
  | unknownKind kind tag body =>
    simp only [exec, execUnknownKind]
    split
    · exact spares_serve _ _ rfl
    · split
      · exact spares_next rfl
      · exact spares_serve _ _ rfl
  | responseWindowExpired | loopAnswerReceived | loopFrameAborted | huntBoundExpired =>
    simp only [exec, execResponseWindowExpired, execLoopAnswerReceived, execLoopFrameAborted, execHuntBoundExpired]
    refine spares_whileAwaiting fun address => ?_
    repeat' split
    all_goals simp
  | requestOverrun | stationFrameDiscarded | byteGapTimeout | readyEvent | cadenceStepEnded | pollSent | wakeSent | verdictSent
  | abortQuietEnded | testFrameSettled | hingedReleaseExpired | heldOpenExpired | contactOpens | contactCloses | fireCleared =>
    simp only [exec, execRequestOverrun, execStationFrameDiscarded, execByteGapTimeout, execReadyEvent, execCadenceStepEnded,
      execPollSent, execWakeSent, execVerdictSent, execAbortQuietEnded, execTestFrameSettled, execHingedReleaseExpired,
      execHeldOpenExpired, execContactOpens, execContactCloses, execFireCleared]
    refine spares_whileLive ?_
    repeat' split
    all_goals simp
  | mainLoss | backupLow | resetnLow | firstPower | tenthTick =>
    simp only [exec, execMainLoss, execBackupLow, execResetnLow, execFirstPower, execTenthTick]
    refine spares_next ?_
    repeat' split
    all_goals simp

end Sys2Proof.Machine
end

section
/-! PROOFS. The open reference counts (R19 to R21): the law over the open shifts of a table in its order, and what a finalization, an opening
and a commit do to it. -/

namespace Sys2Proof.Machine

/-! ## The law over a list of open shifts (R21) -/

/-- A shift that an attendance holds open: its code, and its window's S and E. -/
abbrev OpenShift := Nat × Nat × Nat

/-- The open shift of a SCHEDULED attendance. -/
def Attendance.shift (a : Attendance) : Option OpenShift :=
  match a.kind with
  | .scheduled code stop => some (code, a.start, stop)
  | .unscheduled => none

theorem WorkerRecord.openShift_eq (w : WorkerRecord) : w.openShift = w.attendance.bind Attendance.shift := by
  unfold WorkerRecord.openShift Attendance.shift
  cases w.attendance with
  | none => rfl
  | some a => cases h : a.kind <;> simp [h]

theorem WorkerRecord.openShift_congr {v w : WorkerRecord} (same : v.attendance = w.attendance) : v.openShift = w.openShift := by
  rw [openShift_eq, openShift_eq, same]

theorem WorkerRecord.openShift_none {w : WorkerRecord} (absent : w.attendance = none) : w.openShift = none := by
  rw [openShift_eq, absent, Option.bind_none]

theorem WorkerRecord.openShift_some {w : WorkerRecord} {a : Attendance} (attended : w.attendance = some a) : w.openShift = a.shift := by
  rw [openShift_eq, attended, Option.bind_some]

/-- Is the open shift under the code? -/
def shiftUnder (code : Nat) (o : Option OpenShift) : Bool := o.any (·.1 == code)

theorem WorkerRecord.scheduledUnder_eq (w : WorkerRecord) (code : Nat) : w.scheduledUnder code = shiftUnder code w.openShift := by
  unfold WorkerRecord.scheduledUnder WorkerRecord.openShift shiftUnder
  cases w.attendance with
  | none => rfl
  | some a => cases h : a.kind <;> simp [h]

/-- The open shift is a window of a defined code, of the length that the code's definition gives it (R24). -/
def Calendar.Defines (c : Calendar) (x : OpenShift) : Prop :=
  1 ≤ x.1 ∧ x.1 ≤ 15 ∧ ∃ d ∈ c.shiftOf x.1, x.2.2 = x.2.1 + d.length

/-- The calendar counts the open shifts of the list, each under its code, and defines each of them (R21). -/
def Calendar.Counts (c : Calendar) (os : List (Option OpenShift)) : Prop :=
  (∀ i : Fin 15, c.openRef (i.val + 1) = os.countP (shiftUnder (i.val + 1))) ∧ ∀ o ∈ os, ∀ x ∈ o, c.Defines x

/-- The law of the counts is that the calendar counts the open shifts of the table. -/
theorem refsCounted_iff (s : State) : s.RefsCounted ↔ s.calendar.Counts (s.workers.map WorkerRecord.openShift) := by
  have under : ∀ code, s.workers.countP (·.scheduledUnder code) = (s.workers.map WorkerRecord.openShift).countP (shiftUnder code) :=
    fun code => by
      rw [List.countP_map]
      exact List.countP_congr fun w _ => by rw [Function.comp_apply, WorkerRecord.scheduledUnder_eq]
  simp only [State.RefsCounted, Calendar.Counts, under, Calendar.Defines, List.forall_mem_map]

/-- The law reads the shift table, the counts and the open shifts alone. -/
theorem Calendar.Counts.congr {c d : Calendar} {os : List (Option OpenShift)} (h : c.Counts os)
    (shifts : d.shifts = c.shifts) (refs : d.openRefs = c.openRefs) : d.Counts os := by
  unfold Calendar.Counts Calendar.Defines Calendar.openRef Calendar.shiftOf at *
  rw [shifts, refs]
  exact h

theorem refsCounted_congr {s t : State} (h : s.RefsCounted) (shifts : t.calendar.shifts = s.calendar.shifts)
    (refs : t.calendar.openRefs = s.calendar.openRefs)
    (shown : t.workers.map WorkerRecord.openShift = s.workers.map WorkerRecord.openShift) : t.RefsCounted := by
  rw [refsCounted_iff] at *
  rw [shown]
  exact h.congr shifts refs

theorem refsCounted_of_ledger {s t : State} (same : t.ledger = s.ledger) (h : s.RefsCounted) : t.RefsCounted := by
  obtain ⟨calendar, workers⟩ := State.ledger_eq same
  exact refsCounted_congr h (by rw [calendar]) (by rw [calendar]) (by rw [workers])

/-- A change of every record that keeps its open shift keeps the law. -/
theorem refsCounted_map {s t : State} (h : s.RefsCounted) {f : WorkerRecord → WorkerRecord} (calendar : t.calendar = s.calendar)
    (table : t.workers = s.workers.map f) (keeps : ∀ w, (f w).openShift = w.openShift) : t.RefsCounted := by
  refine refsCounted_congr h (by rw [calendar]) (by rw [calendar]) ?_
  rw [table, List.map_map]
  exact List.map_congr_left fun w _ => keeps w

/-! ## One place of the list changed -/

/-- The open reference count of a code after that of another, or of the same, has been changed (R21). -/
theorem Calendar.openRef_onRef (c : Calendar) {k j : Nat} (inRange : 1 ≤ k ∧ k ≤ 15) (positive : 1 ≤ j) (f : Nat → Nat) :
    (c.onRef k f).openRef j = if j = k then f (c.openRef k) else c.openRef j := by
  unfold Calendar.onRef Calendar.openRef
  rw [vector_getD_setIfInBounds]
  have same : (j - 1 = k - 1 ∧ k - 1 < 15) ↔ j = k := by omega
  simp only [same]

/-- From the first calendar to the second, one place of the list goes from the first open shift to the second with the law kept, whatever
stands in the other places. -/
def Rebooks (c d : Calendar) (o p : Option OpenShift) : Prop :=
  ∀ before after, c.Counts (before ++ o :: after) → d.Counts (before ++ p :: after)

theorem Rebooks.refl (c : Calendar) (o : Option OpenShift) : Rebooks c c o o := fun _ _ h => h

theorem Rebooks.trans {c d e : Calendar} {o p q : Option OpenShift} (h : Rebooks c d o p) (k : Rebooks d e p q) : Rebooks c e o q :=
  fun before after counts => k before after (h before after counts)

/-- One place of the list changed with one code's count: the count moves as that place does, and no other code's place moves. -/
theorem Calendar.Counts.rebook {c : Calendar} {before after : List (Option OpenShift)} {o p : Option OpenShift}
    {k : Nat} {f : Nat → Nat} (h : c.Counts (before ++ o :: after)) (inRange : 1 ≤ k ∧ k ≤ 15)
    (here : ∀ n, f (n + if shiftUnder k o then 1 else 0) = n + if shiftUnder k p then 1 else 0)
    (elsewhere : ∀ j, j ≠ k → shiftUnder j o = shiftUnder j p) (defines : ∀ x ∈ p, c.Defines x) :
    (c.onRef k f).Counts (before ++ p :: after) := by
  obtain ⟨counted, defined⟩ := h
  refine ⟨fun i => ?_, fun q member x shown => ?_⟩
  · have was := counted i
    rw [Calendar.openRef_onRef c inRange (by omega)]
    simp only [List.countP_append, List.countP_cons, ← Nat.add_assoc] at was ⊢
    by_cases hit : i.val + 1 = k
    · rw [if_pos hit, ← hit, was, hit]
      exact here _
    · rw [if_neg hit, was, elsewhere _ hit]
  · obtain early | rfl | late := by simpa using member
    · exact defined q (by simp [early]) x shown
    · exact defines x shown
    · exact defined q (by simp [late]) x shown

/-- An open shift given up, its code's count one lower (R39). -/
theorem rebooks_release (c : Calendar) (x : OpenShift) : Rebooks c (c.onRef x.1 (· - 1)) (some x) none := by
  intro before after counts
  have ⟨low, high, _⟩ := counts.2 (some x) (by simp) x rfl
  exact counts.rebook ⟨low, high⟩ (fun n => by simp [shiftUnder]) (fun j other => by simp [shiftUnder, other.symm]) (by simp)

/-- An open shift taken, a defined code's window, its code's count one higher (R37). -/
theorem rebooks_take {c : Calendar} {x : OpenShift} (defines : c.Defines x) : Rebooks c (c.onRef x.1 (· + 1)) none (some x) := by
  intro before after counts
  have ⟨low, high, _⟩ := defines
  exact counts.rebook ⟨low, high⟩ (fun n => by simp [shiftUnder]) (fun j other => by simp [shiftUnder, other.symm]) (by simpa using defines)

/-! ## One record changed -/

/-- The law with the table in badge order (R33): what every act on one record keeps. -/
abbrev State.RefsStand (s : State) : Prop := BadgesAscend s.workers ∧ s.RefsCounted

theorem refsStand_of_ledger {s t : State} (same : t.ledger = s.ledger) (h : s.RefsStand) : t.RefsStand := by
  refine ⟨?_, refsCounted_of_ledger same h.2⟩
  rw [(State.ledger_eq same).2]
  exact h.1

/-- A record of the table replaced by one of its badge, with the calendar moved to match. -/
theorem State.RefsStand.replace {s t : State} {w v : WorkerRecord} (h : s.RefsStand) (member : w ∈ s.workers) (badge : v.badge = w.badge)
    (table : t.workers = replaceWorker v s.workers) (rebooks : Rebooks s.calendar t.calendar w.openShift v.openShift) : t.RefsStand := by
  obtain ⟨ordered, counts⟩ := h
  obtain ⟨done, rest, whole⟩ := List.append_of_mem member
  rw [whole] at ordered
  obtain ⟨-, tail, cross⟩ := List.pairwise_append.mp ordered
  have placed : t.workers = done ++ v :: rest := by
    rw [table, whole]
    exact replaceWorker_append_cons badge (fun x hx => Nat.ne_of_lt (cross x hx w List.mem_cons_self))
      fun x hx => Nat.ne_of_gt ((List.pairwise_cons.mp tail).1 x hx)
  constructor
  · rw [placed]
    unfold BadgesAscend at *
    rw [← List.pairwise_map (f := WorkerRecord.badge) (R := (· < ·))] at ordered ⊢
    simpa [badge] using ordered
  · rw [refsCounted_iff] at *
    rw [whole, List.map_append, List.map_cons] at counts
    rw [placed, List.map_append, List.map_cons]
    exact rebooks _ _ counts

/-- A record replaced by one with its badge and its open shift. -/
theorem State.RefsStand.setWorker {s : State} {w : WorkerRecord} (h : s.RefsStand) (member : w ∈ s.workers) (v : WorkerRecord)
    (badge : v.badge = w.badge) (shown : v.openShift = w.openShift) : (setWorker v s).RefsStand :=
  h.replace member badge rfl (shown ▸ Rebooks.refl s.calendar w.openShift)

theorem mem_of_worker {s : State} {badge : Nat} {w : WorkerRecord} (found : s.worker badge = some w) : w ∈ s.workers ∧ w.badge = badge :=
  ⟨List.mem_of_find?_eq_some found, by simpa using List.find?_some found⟩

/-! ## Raises and finalizations (R39, R41) -/

theorem raise_attendance (a : Anomaly) (owner : Option BankTag) (w : WorkerRecord) : (raise a owner w).attendance = w.attendance := by
  rw [raise_frame]

theorem raise_badge (a : Anomaly) (owner : Option BankTag) (w : WorkerRecord) : (raise a owner w).badge = w.badge := by
  rw [raise_frame]

@[simp] theorem raise_openShift (a : Anomaly) (owner : Option BankTag) (w : WorkerRecord) : (raise a owner w).openShift = w.openShift :=
  WorkerRecord.openShift_congr (raise_attendance a owner w)

theorem raiseIf_attendance (cond : Bool) (a : Anomaly) (owner : Option BankTag) (w : WorkerRecord) :
    (raiseIf cond a owner w).attendance = w.attendance := by
  cases cond
  · rfl
  · exact raise_attendance a owner w

theorem raiseIf_badge (cond : Bool) (a : Anomaly) (owner : Option BankTag) (w : WorkerRecord) :
    (raiseIf cond a owner w).badge = w.badge := by
  cases cond
  · rfl
  · exact raise_badge a owner w

@[simp] theorem raiseIf_openShift (cond : Bool) (a : Anomaly) (owner : Option BankTag) (w : WorkerRecord) :
    (raiseIf cond a owner w).openShift = w.openShift :=
  WorkerRecord.openShift_congr (raiseIf_attendance cond a owner w)

theorem finalizeRecord_openShift (c : Calendar) (a : Attendance) (w : WorkerRecord) : (finalizeRecord c a w).openShift = none := by
  rw [finalizeRecord_frame]
  exact WorkerRecord.openShift_none rfl

theorem finalizeRecord_badge (c : Calendar) (a : Attendance) (w : WorkerRecord) : (finalizeRecord c a w).badge = w.badge := by
  rw [finalizeRecord_frame]

/-- A finalization gives up the attendance's shift (R39). -/
theorem releaseFinalized_rebooks (a : Attendance) (s : State) : Rebooks s.calendar (releaseFinalized a s).calendar a.shift none := by
  unfold releaseFinalized Attendance.shift
  cases a.kind with
  | unscheduled => cases a.tag <;> exact Rebooks.refl s.calendar none
  | scheduled code stop => cases a.tag <;> exact rebooks_release s.calendar (code, a.start, stop)

/-! ## Commits (R90 to R92) -/

/-- From one stage of a commit to a later one, the record in hand keeps its badge and the counts follow its open shift. -/
structure CommitWork.Leads (x y : CommitWork) : Prop where
  badge : y.worker.badge = x.worker.badge
  rebooks : Rebooks x.state.calendar y.state.calendar x.worker.openShift y.worker.openShift

theorem CommitWork.Leads.trans {x y z : CommitWork} (h : x.Leads y) (k : y.Leads z) : x.Leads z :=
  ⟨k.badge.trans h.badge, h.rebooks.trans k.rebooks⟩

/-- The record in hand replaced by one with its badge and its open shift. -/
theorem CommitWork.leads_worker (x : CommitWork) {v : WorkerRecord} (badge : v.badge = x.worker.badge)
    (shown : v.openShift = x.worker.openShift) : x.Leads { x with worker := v } :=
  ⟨badge, by rw [shown]; exact Rebooks.refl _ _⟩

/-- The presence that a commit ends with is no matter of the counts (R90, R91). -/
theorem CommitWork.Leads.withPresence {x y : CommitWork} (h : x.Leads y) (presence : Presence) :
    x.Leads { y with worker := { y.worker with presence := presence } } := ⟨h.badge, h.rebooks⟩

theorem finalizeWork_leads {a : Attendance} {x : CommitWork} (holds : x.worker.openShift = a.shift) : x.Leads (finalizeWork a x) := by
  refine ⟨finalizeRecord_badge _ a x.worker, ?_⟩
  rw [holds]
  simp only [finalizeWork, finalizeRecord_openShift]
  exact releaseFinalized_rebooks a x.state

/-- An entry that finds no shift open takes the window that claims it, or none (R90). -/
theorem openEntry_leads (tm : Nat) (soft : Bool) {x : CommitWork} (free : x.worker.openShift = none) : x.Leads (openEntry tm soft x) := by
  unfold openEntry
  split
  · rename_i win claimed
    obtain ⟨d, defined, length⟩ := matchEntry_defined claimed
    obtain ⟨low, high⟩ := Calendar.shiftOf_some defined
    refine ⟨raiseIf_badge .., ?_⟩
    rw [free, raiseIf_openShift]
    exact rebooks_take (x := (win.code, win.start, win.stop)) ⟨low, high, d, defined, length⟩
  · split
    · refine x.leads_worker (raiseIf_badge ..) ?_
      rw [raiseIf_openShift, free]
      rfl
    · exact x.leads_worker ((raiseIf_badge ..).trans (raise_badge ..)) (by rw [raiseIf_openShift, raise_openShift])

theorem finalizeLate_leads {a : Attendance} {x : CommitWork} (holds : x.worker.openShift = a.shift) :
    x.Leads (finalizeLate a x) ∧ (finalizeLate a x).worker.openShift = none := by
  unfold finalizeLate
  split
  · refine ⟨(x.leads_worker (raise_badge ..) (raise_openShift ..)).trans (finalizeWork_leads ?_), finalizeRecord_openShift ..⟩
    exact (raise_openShift ..).trans holds
  · exact ⟨finalizeWork_leads holds, finalizeRecord_openShift ..⟩

/-- A re-entry keeps the attendance's kind and S (R38). -/
theorem reenter_openShift (tm : Nat) {a : Attendance} {w : WorkerRecord} (attended : w.attendance = some a) :
    (reenter tm a w).openShift = w.openShift := by
  rw [WorkerRecord.openShift_some attended]
  unfold reenter
  split
  · exact WorkerRecord.openShift_some (a := a.append tm) rfl
  · exact (raise_openShift ..).trans (WorkerRecord.openShift_some (a := a.reopenLast) rfl)

theorem reenter_badge (tm : Nat) (a : Attendance) (w : WorkerRecord) : (reenter tm a w).badge = w.badge := by
  unfold reenter
  split
  · rfl
  · exact raise_badge ..

theorem commitEntry_leads (tm : Nat) (softMode : Bool) (x : CommitWork) : x.Leads (commitEntry tm softMode x) := by
  unfold commitEntry
  refine CommitWork.Leads.withPresence ?_ .inside
  cases attended : x.worker.attendance with
  | none => exact openEntry_leads tm _ (WorkerRecord.openShift_none attended)
  | some a =>
    dsimp only
    split
    · obtain ⟨leads, free⟩ := finalizeLate_leads (WorkerRecord.openShift_some attended)
      exact leads.trans (openEntry_leads tm _ free)
    · split
      · exact x.leads_worker (raiseIf_badge ..) (raiseIf_openShift ..)
      · exact x.leads_worker (reenter_badge tm a x.worker) (reenter_openShift tm attended)

/-- The record of an exit whose open segment is closed (R91). -/
theorem closeAt_record {w : WorkerRecord} {a : Attendance} (attended : w.attendance = some a) (tm : Nat) (unrecorded : Bool) :
    let v := raiseIf unrecorded .unrecordedExit (some a.tag) { w with attendance := some (a.closeAt tm) }
    v.badge = w.badge ∧ v.openShift = w.openShift := by
  refine ⟨raiseIf_badge .., (raiseIf_openShift ..).trans ?_⟩
  rw [WorkerRecord.openShift_some attended]
  exact WorkerRecord.openShift_some (a := a.closeAt tm) rfl

theorem commitExit_leads (tm : Nat) (unrecorded : Bool) (x : CommitWork) : x.Leads (commitExit tm unrecorded x) := by
  unfold commitExit
  refine CommitWork.Leads.withPresence ?_ .outside
  cases attended : x.worker.attendance with
  | none => exact x.leads_worker ((raiseIf_badge ..).trans (raiseIf_badge ..)) (by rw [raiseIf_openShift, raiseIf_openShift])
  | some a =>
    dsimp only
    split
    · obtain ⟨badge, shown⟩ := closeAt_record attended tm unrecorded
      have closed := x.leads_worker badge shown
      split
      · exact closed.trans (finalizeWork_leads (shown.trans (WorkerRecord.openShift_some (a := a) attended)))
      · exact closed
    · exact x.leads_worker ((raiseIf_badge ..).trans (raise_badge ..)) (by rw [raiseIf_openShift, raise_openShift])

theorem commitWork_leads (g : Nat) (p : Passage) (unrecorded : Bool) (x : CommitWork) : x.Leads (commitWork g p unrecorded x) := by
  unfold commitWork
  cases p.direction with
  | inward => exact commitEntry_leads ..
  | outward => exact commitExit_leads ..

/-- The end of a commit puts the record in hand back into the table, its open shift as the work left it (R92). -/
theorem completeCommit_table (g : Nat) (p : Passage) (entry : Option JournalOutcome) (ofPassage : Bool) (x : CommitWork) :
    ∃ v : WorkerRecord, v.badge = x.worker.badge ∧ v.openShift = x.worker.openShift ∧
      (completeCommit g p entry ofPassage x).ledger = (x.state.calendar, replaceWorker v x.state.workers) := by
  refine ⟨{ x.worker with
    lastPunch := some ⟨p.second, g⟩, pendingSet := AnomalySet.empty
    pendingGate := if ofPassage then none else x.worker.pendingGate, changed := true }, rfl, rfl, ?_⟩
  cases entry <;> rfl

/-- A commit of a record of the table keeps the law (R92). -/
theorem State.RefsStand.commitPunch {s : State} (h : s.RefsStand) {w : WorkerRecord} (member : w ∈ s.workers) (g : Nat) (p : Passage)
    (entry : Option JournalOutcome) (ofPassage : Bool) : (commitPunch g p entry ofPassage w s).RefsStand := by
  obtain ⟨badge, rebooks⟩ := commitWork_leads g p entry.isNone ⟨s, w⟩
  have frame := commitWork_frame g p entry.isNone ⟨s, w⟩
  unfold Machine.commitPunch
  generalize commitWork g p entry.isNone ⟨s, w⟩ = x at *
  have still : x.state.workers = s.workers := by rw [frame]
  obtain ⟨v, same, shown, ledger⟩ := completeCommit_table g p entry ofPassage x
  obtain ⟨calendar, table⟩ := Prod.mk.inj ledger
  refine h.replace member (same.trans badge) (table.trans (by rw [still])) ?_
  rw [calendar, shown]
  exact rebooks

end Sys2Proof.Machine
end

section
/-! PROOFS. Every step keeps the open reference counts (R21): the passages resolved, the minute event, the decisions, the starts, the
requests of the calendar and the worker table, and the statement. -/

namespace Sys2Proof.Machine

/-! ## Passages resolved (R93, R94, R100, R105, R106, R112, R116) -/

theorem State.RefsStand.voidPassage {s : State} (h : s.RefsStand) (g : Nat) (p : Passage) (restart : Bool) :
    (voidPassage g p restart s).RefsStand := by
  unfold Machine.voidPassage
  have written : (journalClaimed (punchEntry g p .voided AnomalySet.empty restart) s).RefsStand :=
    refsStand_of_ledger (journalClaimed_ledger ..) h
  dsimp only
  split
  · rename_i w found
    exact written.setWorker (mem_of_worker found).1 _ rfl rfl
  · exact written

theorem State.RefsStand.commitPassage {s : State} (h : s.RefsStand) (g : Nat) (p : Passage) (outcome : JournalOutcome) :
    (commitPassage g p outcome s).RefsStand := by
  unfold Machine.commitPassage
  split
  · rename_i w found
    exact h.commitPunch (mem_of_worker found).1 ..
  · exact refsStand_of_ledger (journalClaimed_ledger ..) h

theorem State.RefsStand.resolvePassage {s : State} (h : s.RefsStand) (g : Nat) (p : Passage) (cause : Resolution) :
    (resolvePassage g p cause s).RefsStand := by
  unfold Machine.resolvePassage
  split
  · exact h.commitPassage ..
  · exact h.voidPassage ..
  · exact h.voidPassage ..
  · exact h.voidPassage ..
  · exact h.commitPassage ..
  · exact h.voidPassage ..

theorem State.RefsStand.endArming {s : State} (h : s.RefsStand) (g : Nat) (cause : Resolution) : (endArming g cause s).RefsStand := by
  have disarmed : (s.setGate g (s.gateAt g).disarm).RefsStand := refsStand_of_ledger (State.setGate_ledger ..) h
  unfold Machine.endArming
  dsimp only
  split
  · exact disarmed.resolvePassage ..
  · exact disarmed

theorem State.RefsStand.lockdownPassage {s : State} (h : s.RefsStand) (g : Nat) : (lockdownPassage g s).RefsStand := by
  unfold Machine.lockdownPassage
  split
  · split
    · exact h.endArming ..
    · exact h
  · exact h

theorem State.RefsStand.passagePulse {s : State} (h : s.RefsStand) (g : Nat) (d : Direction) : (passagePulse g d s).RefsStand := by
  unfold Machine.passagePulse
  split
  · exact h.endArming ..
  · split
    · exact h
    · exact refsStand_of_ledger (gateAlarm_ledger ..) h

theorem State.RefsStand.gateFire {s : State} (h : s.RefsStand) (g : Nat) : (gateFire g s).RefsStand := by
  unfold Machine.gateFire
  refine refsStand_of_ledger (applyStanding_ledger ..) ?_
  split
  · exact h.endArming ..
  · exact h

/-- An act at each gate of a list keeps what one act keeps. -/
theorem State.RefsStand.foldl {act : State → Nat → State} (one : ∀ s g, s.RefsStand → (act s g).RefsStand) (gs : List Nat) :
    ∀ s : State, s.RefsStand → (gs.foldl act s).RefsStand := by
  induction gs with
  | nil => exact fun _ h => h
  | cons g rest ih => exact fun s h => ih _ (one s g h)

/-! ## The minute event (R3, R44) -/

/-- An auto-closed attendance gives up its shift (R45). -/
theorem autoCloseRecord_openShift (c : Calendar) (a : Attendance) (w : WorkerRecord) : (autoCloseRecord c a w).openShift = none := by
  rw [autoCloseRecord_frame]
  exact WorkerRecord.openShift_none rfl

theorem autoCloseRecord_badge (c : Calendar) (a : Attendance) (w : WorkerRecord) : (autoCloseRecord c a w).badge = w.badge := by
  rw [autoCloseRecord_frame]

theorem State.RefsStand.autoCloseOne {s : State} (h : s.RefsStand) (now : Nat) {w : WorkerRecord} (member : w ∈ s.workers) :
    (autoCloseOne now s w).RefsStand := by
  unfold Machine.autoCloseOne
  split
  · exact h
  · rename_i a attended
    split
    · refine h.replace member (autoCloseRecord_badge s.calendar a w) ?_ ?_
      · rw [setWorker_workers, releaseFinalized_frame]
      · rw [setWorker_calendar, autoCloseRecord_openShift, WorkerRecord.openShift_some attended]
        exact releaseFinalized_rebooks a s
    · exact h

/-- Auto-close of one record leaves the records of other badges in the table. -/
theorem mem_autoCloseOne (now : Nat) {s : State} {w x : WorkerRecord} (member : x ∈ s.workers) (apart : x.badge ≠ w.badge) :
    x ∈ (autoCloseOne now s w).workers := by
  unfold autoCloseOne
  split
  · exact member
  · split
    · rw [setWorker_workers, releaseFinalized_frame]
      refine List.mem_map.mpr ⟨x, member, if_neg ?_⟩
      rw [autoCloseRecord_badge]
      exact apart
    · exact member

theorem State.RefsStand.autoCloseAll (now : Nat) (todo : List WorkerRecord) : BadgesAscend todo → ∀ s : State, s.RefsStand →
    (∀ w ∈ todo, w ∈ s.workers) → (todo.foldl (Machine.autoCloseOne now) s).RefsStand := by
  induction todo with
  | nil => exact fun _ _ h _ => h
  | cons w rest ih =>
    intro ascend s h members
    obtain ⟨later, ascend'⟩ := List.pairwise_cons.mp ascend
    refine ih ascend' _ (h.autoCloseOne now (members w List.mem_cons_self)) fun x hx => ?_
    exact mem_autoCloseOne now (members x (List.mem_cons_of_mem w hx)) (Nat.ne_of_gt (later x hx))

theorem State.RefsStand.minuteEvent {s : State} (h : s.RefsStand) : (minuteEvent s).RefsStand := by
  have closed : (if s.time.validity = .set then autoClose s.plantMinute s else s).RefsStand := by
    split
    · exact .autoCloseAll _ s.workers h.1 s h fun _ member => member
    · exact h
  exact refsStand_of_ledger rfl closed

theorem State.RefsStand.noteMinute {s : State} (h : s.RefsStand) (before : Nat) : (noteMinute before s).RefsStand := by
  have noted : ({ s with follower := { s.follower with minuteWindow := s.follower.window } } : State).RefsStand :=
    refsStand_of_ledger rfl h
  unfold Machine.noteMinute
  dsimp only
  split
  · exact h
  · split
    · exact noted.minuteEvent
    · exact noted

theorem State.RefsStand.secondEvent {s : State} (h : s.RefsStand) : (secondEvent s).RefsStand := by
  have counted : ({ s with time := s.time.secondEvent s.live } : State).RefsStand := refsStand_of_ledger rfl h
  unfold Machine.secondEvent
  exact refsStand_of_ledger (by simp) (counted.noteMinute s.plantMinute)

theorem State.RefsStand.crystalPeriod {s : State} (h : s.RefsStand) : (crystalPeriod s).RefsStand := by
  have divided : (dividerPeriod s).RefsStand := by
    unfold dividerPeriod
    split
    · exact h.secondEvent
    · exact refsStand_of_ledger rfl h
  unfold Machine.crystalPeriod
  split
  · exact refsStand_of_ledger (tickPeriod_ledger _) divided
  · exact h

/-- An impulse may align the time, and with it begin a minute (R11). -/
theorem State.RefsStand.takeImpulse {s : State} (h : s.RefsStand) (line : MasterLine) : (takeImpulse line s).RefsStand := by
  have aligned : ∀ f, (alignTo f s).RefsStand := fun f => by
    refine State.RefsStand.noteMinute ?_ s.plantMinute
    exact refsStand_of_ledger (by simp) h
  unfold Machine.takeImpulse
  dsimp only
  split
  · exact h
  · exact aligned _
  · exact aligned _
  · repeat' split
    · exact h
    · exact refsStand_of_ledger rfl h
    · exact refsStand_of_ledger (disciplineOut_ledger ..) h

/-! ## Decisions (R82 to R89) -/

theorem State.RefsStand.refusePunch {s : State} (h : s.RefsStand) (g : Nat) (p : Passage) (reason : Denial) (see : Bool) :
    (refusePunch g p reason see s).state.RefsStand := by
  unfold Machine.refusePunch
  dsimp only
  split
  · exact refsStand_of_ledger (journalDirect_ledger ..) h
  · exact h

/-- A claim leaves the table and the counts as they are, with every record in its place. -/
theorem State.RefsStand.journalClaim {s : State} (h : s.RefsStand) {w : WorkerRecord} (member : w ∈ s.workers) :
    (journalClaim s).RefsStand ∧ w ∈ (journalClaim s).workers := by
  refine ⟨refsStand_of_ledger (journalClaim_ledger s) h, ?_⟩
  rw [(State.ledger_eq (journalClaim_ledger s)).2]
  exact member

theorem State.RefsStand.acceptPunch {s : State} (h : s.RefsStand) {w : WorkerRecord} (member : w ∈ s.workers) (display g : Nat)
    (p : Passage) : (acceptPunch display g p w s).state.RefsStand := by
  obtain ⟨claimed, member'⟩ := h.journalClaim member
  unfold Machine.acceptPunch
  dsimp only
  split
  · split
    · exact claimed.commitPunch member' ..
    · exact refsStand_of_ledger (takePassage_ledger ..) (claimed.setWorker member' _ rfl rfl)
  · exact refsStand_of_ledger (State.setGate_ledger ..) (claimed.commitPunch member' g p (some .passed) false)

theorem State.RefsStand.fireExit {s : State} (h : s.RefsStand) {w : WorkerRecord} (member : w ∈ s.workers) (g : Nat) (p : Passage) :
    (fireExit g p w s).state.RefsStand := by
  obtain ⟨claimed, member'⟩ := h.journalClaim member
  unfold Machine.fireExit
  split
  · exact claimed.commitPunch member' ..
  · exact h.commitPunch member ..

theorem State.RefsStand.exitPunch {s : State} (h : s.RefsStand) {w : WorkerRecord} (member : w ∈ s.workers) (g : Nat) (p : Passage) :
    (exitPunch g p w s).state.RefsStand := by
  unfold Machine.exitPunch
  split
  · exact h.acceptPunch member ..
  · exact refsStand_of_ledger (untrackedRelease_ledger ..) (h.commitPunch member g p none false)

theorem State.RefsStand.entryPunch {s : State} (h : s.RefsStand) {w : WorkerRecord} (member : w ∈ s.workers) (g : Nat) (p : Passage) :
    (entryPunch g p w s).state.RefsStand := by
  unfold Machine.entryPunch
  split
  · exact h.refusePunch ..
  · split
    · exact h.acceptPunch member ..
    · exact h.refusePunch ..

theorem State.RefsStand.releaseUntimed {s : State} (h : s.RefsStand) {w : WorkerRecord} (member : w ∈ s.workers) (g : Nat) :
    (releaseUntimed g w s).state.RefsStand :=
  refsStand_of_ledger (untrackedRelease_ledger ..) (h.setWorker member { w with presence := .outside, changed := true } rfl rfl)

theorem State.RefsStand.decidePunch {s : State} (h : s.RefsStand) (g : Nat) (p : Passage) : (decidePunch g p s).state.RefsStand := by
  unfold Machine.decidePunch
  split
  · exact h.refusePunch ..
  · rename_i w found
    have member := (mem_of_worker found).1
    split
    · split
      · exact h.refusePunch ..
      · exact h.releaseUntimed member g
    · split
      · split
        · exact h.refusePunch ..
        · exact h.fireExit member ..
      · split
        · exact h
        · split
          · exact h.entryPunch member ..
          · exact h.exitPunch member ..

theorem State.RefsStand.takePunch {s : State} (h : s.RefsStand) : (takePunch s).RefsStand := by
  unfold Machine.takePunch
  split
  · exact h
  · rename_i l o _
    split
    · exact h
    · rename_i b _
      have inHand : ({ s with punch := ⟨some o, l⟩ } : State).RefsStand := refsStand_of_ledger rfl h
      exact refsStand_of_ledger rfl (inHand.decidePunch b.gate (o.passage l b.direction))

/-! ## Starts (R165, R166) -/

theorem State.RefsStand.restartVoid {s : State} (h : s.RefsStand) (g : Nat) : (restartVoid s g).RefsStand := by
  unfold Machine.restartVoid
  split
  · exact (refsStand_of_ledger (State.setGate_ledger ..) h).resolvePassage ..
  · exact h

theorem State.RefsStand.warmStart {s : State} (h : s.RefsStand) (cause : StartCause) (duration : Nat) (v : InputLevels) :
    (warmStart cause duration v s).RefsStand := by
  have begun : (s.warmBegun cause duration v).RefsStand := refsStand_of_ledger rfl h
  have voided := State.RefsStand.foldl (fun _ g stand => stand.restartVoid g) allGates _ begun
  unfold Machine.warmStart
  refine refsStand_of_ledger ?_ voided
  dsimp only
  rw [applyStandings_ledger, State.ledger_mk, State.ledger_fold, readyIfDue_ledger]
  rfl

/-- A cold start leaves no record and no count above 0 (R31, R53). -/
theorem coldStart_refsCounted (cause : StartCause) (v : InputLevels) (s : State) : (coldStart cause v s).RefsCounted := by
  have blank : (coldStart cause v s).ledger = (Calendar.cold, []) := rfl
  obtain ⟨calendar, table⟩ := Prod.mk.inj blank
  rw [refsCounted_iff, calendar, table]
  exact ⟨fun i => by simp [Calendar.cold, Calendar.openRef, Vector.getD], by simp⟩

theorem State.RefsStand.restoreStart {s : State} (h : s.RefsStand) (v : InputLevels) : (restoreStart v s).RefsCounted := by
  unfold Machine.restoreStart
  split
  · exact (h.warmStart ..).2
  · exact coldStart_refsCounted ..

theorem State.RefsStand.startAfter {s : State} (h : s.RefsStand) (kind : Nat) (v : InputLevels) : (startAfter kind v s).RefsCounted := by
  unfold Machine.startAfter
  split
  · exact (h.warmStart ..).2
  · split
    · exact coldStart_refsCounted ..
    · exact h.2

/-! ## Requests of the calendar (R18 to R20) -/

/-- The definition a code holds after one code's place in the shift table has been written. -/
theorem Calendar.shiftOf_set (c : Calendar) {code : Nat} (o : Option ShiftDef) {j : Nat} (other : j ≠ code) (low : 1 ≤ code) :
    ({ c with shifts := c.shifts.setIfInBounds (code - 1) o } : Calendar).shiftOf j = c.shiftOf j := by
  unfold Calendar.shiftOf
  split
  · rename_i inRange
    obtain ⟨positive, -⟩ := (within_iff 1 j 15).mp inRange
    have apart : ¬ (j - 1 = code - 1 ∧ code - 1 < 15) := by omega
    rw [vector_getD_setIfInBounds, if_neg apart]
  · rfl

/-- A code without references may be defined anew or deleted: no attendance is open under it (R19, R20, R21). -/
theorem refsCounted_setShift {s : State} (h : s.RefsCounted) {code : Nat} (inRange : 1 ≤ code ∧ code ≤ 15)
    (unused : s.calendar.openRef code = 0) (o : Option ShiftDef) :
    State.RefsCounted { s with calendar := { s.calendar with shifts := s.calendar.shifts.setIfInBounds (code - 1) o } } := by
  rw [refsCounted_iff] at *
  obtain ⟨counted, defined⟩ := h
  refine ⟨counted, fun shown member x hx => ?_⟩
  obtain ⟨low, high, d, holds, length⟩ := defined shown member x hx
  have other : x.1 ≠ code := fun same => by
    have none_under := counted ⟨code - 1, by omega⟩
    rw [show code - 1 + 1 = code by omega, unused, eq_comm, List.countP_eq_zero] at none_under
    refine none_under shown member ?_
    rw [Option.mem_def.mp hx]
    simp [shiftUnder, same]
  exact ⟨low, high, d, (Calendar.shiftOf_set s.calendar o other inRange.1).symm ▸ holds, length⟩

/-! ## Requests of the worker table (R48, R50) -/

/-- A record that joins or leaves a table without an attendance changes no count (R48, R50). -/
theorem Calendar.Counts.drop_none {c : Calendar} {before after : List (Option OpenShift)} :
    c.Counts (before ++ none :: after) ↔ c.Counts (before ++ after) := by
  simp [Calendar.Counts, shiftUnder, List.countP_append, or_imp, forall_and]

/-- A new record stands somewhere in the table (R33). -/
theorem installWorker_eq (w : WorkerRecord) (ws : List WorkerRecord) :
    ∃ before after, ws = before ++ after ∧ installWorker w ws = before ++ w :: after := by
  induction ws with
  | nil => exact ⟨[], [], rfl, rfl⟩
  | cons x rest ih =>
    unfold installWorker
    split
    · exact ⟨[], x :: rest, rfl, rfl⟩
    · obtain ⟨before, after, e, installed⟩ := ih
      exact ⟨x :: before, after, by rw [e]; rfl, by rw [installed]; rfl⟩

theorem refsCounted_install {s : State} (h : s.RefsCounted) {w : WorkerRecord} (absent : w.openShift = none) :
    State.RefsCounted { s with workers := installWorker w s.workers } := by
  obtain ⟨before, after, whole, installed⟩ := installWorker_eq w s.workers
  rw [refsCounted_iff] at *
  rw [whole, List.map_append] at h
  dsimp only
  rw [installed, List.map_append, List.map_cons, absent]
  exact Calendar.Counts.drop_none.mpr h

/-- A record without an attendance removed from an ordered table (R50). -/
theorem State.RefsStand.remove {s : State} (h : s.RefsStand) {w : WorkerRecord} (member : w ∈ s.workers) (absent : w.openShift = none) :
    State.RefsCounted { s with workers := s.workers.filter fun x => x.badge != w.badge } := by
  obtain ⟨ordered, counts⟩ := h
  obtain ⟨before, after, whole⟩ := List.append_of_mem member
  rw [whole] at ordered
  obtain ⟨-, tail, cross⟩ := List.pairwise_append.mp ordered
  have early : ∀ x ∈ before, x.badge ≠ w.badge := fun x hx => Nat.ne_of_lt (cross x hx w List.mem_cons_self)
  have late : ∀ x ∈ after, x.badge ≠ w.badge := fun x hx => Nat.ne_of_gt ((List.pairwise_cons.mp tail).1 x hx)
  have removed : s.workers.filter (fun x => x.badge != w.badge) = before ++ after := by
    rw [whole, List.filter_append, List.filter_cons_of_neg (by simp), List.filter_eq_self.mpr (by simpa using early),
      List.filter_eq_self.mpr (by simpa using late)]
  rw [refsCounted_iff] at *
  rw [whole, List.map_append, List.map_cons, absent] at counts
  dsimp only
  rw [removed, List.map_append]
  exact Calendar.Counts.drop_none.mp counts

theorem markStepped_openShift (w : WorkerRecord) : (markStepped w).openShift = w.openShift := by
  unfold markStepped
  split
  · rfl
  · exact raise_openShift ..

/-- The close retags an attendance and keeps its shift (R141). -/
theorem closeRecord_openShift (boundary : Nat) (w : WorkerRecord) : (closeRecord boundary w).openShift = w.openShift := by
  have kept : ∀ a : Attendance, (a.retag boundary).shift = a.shift := fun a => by
    unfold Attendance.retag
    split <;> rfl
  rw [WorkerRecord.openShift_eq, WorkerRecord.openShift_eq, closeRecord]
  cases w.attendance with
  | none => rfl
  | some a => exact kept a

/-! ## Every command -/

/-- A request keeps the law where its block does. -/
theorem refs_serve {f : State → State × Reply} {s : State} (k tag : Nat) (h : s.RefsCounted) (acts : (f s).1.RefsCounted) :
    Leaves State.RefsCounted (serve k tag f s) :=
  leaves_serve k tag (fun _ _ => refsCounted_of_ledger) h acts

section
variable {s : State} (stand : s.RefsStand)
include stand

theorem execShiftDefine_refs (tag code : Nat) (fields : ShiftDef) : Leaves State.RefsCounted (execShiftDefine tag code fields s) := by
  have h := stand.2
  unfold execShiftDefine
  refine refs_serve 0x10 tag h ?_
  split
  · exact h
  · rename_i valid
    obtain ⟨inRange, -⟩ : within 1 code 15 = true ∧ shiftDefValid fields = true := by simpa using valid
    split
    · exact h
    · exact refsCounted_setShift h ((within_iff ..).mp inRange) (not_not.mp ‹_›) _

theorem execShiftDelete_refs (tag code : Nat) : Leaves State.RefsCounted (execShiftDelete tag code s) := by
  have h := stand.2
  unfold execShiftDelete
  refine refs_serve 0x11 tag h ?_
  split
  · exact h
  · rename_i valid
    have inRange : within 1 code 15 = true := by simpa using valid
    split
    · exact h
    · split
      · exact h
      · exact refsCounted_setShift h ((within_iff ..).mp inRange) (not_not.mp ‹_›) none

theorem execWorkerPut_refs (tag : Nat) (fields : WorkerFields) : Leaves State.RefsCounted (execWorkerPut tag fields s) := by
  have h := stand.2
  unfold execWorkerPut
  refine refs_serve 0x20 tag h ?_
  split
  · exact h
  · split
    · rename_i w found
      obtain ⟨member, badge⟩ := mem_of_worker found
      exact (stand.setWorker member (w.withFields fields _) badge.symm rfl).2
    · split
      · exact refsCounted_install h (WorkerRecord.openShift_none rfl)
      · exact h

theorem execWorkerRemove_refs (tag badge : Nat) : Leaves State.RefsCounted (execWorkerRemove tag badge s) := by
  have h := stand.2
  unfold execWorkerRemove
  refine refs_serve 0x22 tag h ?_
  split
  · exact h
  · split
    · exact h
    · rename_i w found
      obtain ⟨member, rfl⟩ := mem_of_worker found
      split
      · exact h
      · rename_i free
        obtain ⟨absent, -⟩ : w.attendance = none ∧ w.pendingGate = none := by simpa using free
        split
        · exact h
        · exact stand.remove member (WorkerRecord.openShift_none absent)

theorem execWorkerPresence_refs (tag badge presence : Nat) : Leaves State.RefsCounted (execWorkerPresence tag badge presence s) := by
  have h := stand.2
  unfold execWorkerPresence
  refine refs_serve 0x23 tag h ?_
  split
  · split
    · exact h
    · rename_i p _ _ _ w found
      split
      · exact h
      · exact (stand.setWorker (mem_of_worker found).1 { w with presence := p, changed := true } rfl rfl).2
  · exact h

theorem execCollectChanged_refs (tag cursor k : Nat) : Leaves State.RefsCounted (execCollectChanged tag cursor k s) := by
  have h := stand.2
  unfold execCollectChanged
  refine refs_serve 0x24 tag h ?_
  split
  · exact h
  · exact refsCounted_map h rfl rfl fun w => by split <;> rfl

theorem execClockSet_refs (tag day second : Nat) : Leaves State.RefsCounted (execClockSet tag day second s) := by
  have h := stand.2
  unfold execClockSet
  refine refs_serve 0x01 tag h ?_
  split
  · exact h
  · refine refsCounted_of_ledger (followerClockSet_ledger _) ?_
    unfold timeStep
    dsimp only
    split
    · exact refsCounted_map h rfl rfl markStepped_openShift
    · exact refsCounted_of_ledger rfl h

theorem execGateCommandLockdown_refs (tag gate : Nat) : Leaves State.RefsCounted (execGateCommandLockdown tag gate s) := by
  have h := stand.2
  unfold execGateCommandLockdown
  refine refs_serve 0x41 tag h ?_
  unfold orderMode
  split
  · exact h
  · split
    · exact h
    · exact ((refsStand_of_ledger (setMode_ledger ..) stand).lockdownPassage gate).2

theorem execPeriodClose_refs (tag number : Nat) : Leaves State.RefsCounted (execPeriodClose tag number s) := by
  have h := stand.2
  unfold execPeriodClose
  refine refs_serve 0x50 tag h ?_
  repeat' split
  · exact h
  · exact h
  · exact h
  · refine refsCounted_of_ledger (readyIfDue_ledger _) ?_
    exact refsCounted_map h rfl rfl (closeRecord_openShift s.plantMinute)

theorem execCloseRelease_refs (tag : Nat) : Leaves State.RefsCounted (execCloseRelease tag s) := by
  have h := stand.2
  unfold execCloseRelease
  refine refs_serve 0x52 tag h ?_
  split
  · exact h
  · exact refsCounted_map h rfl rfl fun _ => rfl

theorem execReplySent_refs (levels : InputLevels) : Leaves State.RefsCounted (execReplySent levels s) := by
  have h := stand.2
  unfold execReplySent
  refine leaves_whileLive h ?_
  split
  · exact h
  · have sent : State.RefsStand { s with link := { s.link with held := none } } := refsStand_of_ledger rfl stand
    dsimp only
    split
    · exact sent.startAfter ..
    · exact sent.2

theorem execSecondEvent_refs : Leaves State.RefsCounted (execSecondEvent s) := by
  have h := stand.2
  unfold execSecondEvent
  refine leaves_next ?_
  split
  · exact stand.secondEvent.2
  · exact h

theorem execImpulseEvent_refs (line : ActiveLine) : Leaves State.RefsCounted (execImpulseEvent line s) := by
  have h := stand.2
  unfold execImpulseEvent
  refine leaves_whileLive h ?_
  obtain ⟨-, -, same⟩ | ⟨-, taken⟩ := qualifyImpulse_cases line s
  · rw [same]
    exact h
  · rw [taken]
    have held : State.RefsStand { s with follower := s.follower.hold line.line } := refsStand_of_ledger rfl stand
    exact (held.takeImpulse line.line).2

theorem execPunchTaken_refs : Leaves State.RefsCounted (execPunchTaken s) := by
  have h := stand.2
  unfold execPunchTaken
  refine leaves_whileLive h ?_
  split
  · exact h
  · exact stand.takePunch.2

theorem execPassagePulse_refs (gate : Fin 16) (input : ActiveInput) : Leaves State.RefsCounted (execPassagePulse gate input s) := by
  have h := stand.2
  unfold execPassagePulse
  refine leaves_whileLive h ?_
  dsimp only
  split
  · exact h
  · exact ((refsStand_of_ledger (State.setGate_ledger ..) stand).passagePulse gate input.direction).2

theorem execTurnstileReleaseExpired_refs (gate : Fin 16) : Leaves State.RefsCounted (execTurnstileReleaseExpired gate s) := by
  have h := stand.2
  unfold execTurnstileReleaseExpired
  refine leaves_whileLive h ?_
  dsimp only
  split
  · exact (stand.endArming ..).2
  · exact h

theorem execFireTaken_refs : Leaves State.RefsCounted (execFireTaken s) := by
  have h := stand.2
  unfold execFireTaken
  refine leaves_whileLive h ?_
  split
  · exact h
  · have reported : (queueReport (.fireEvent true s.plantSecond) { s with fire := true }).RefsStand := refsStand_of_ledger rfl stand
    exact (refsStand_of_ledger (by simp) (State.RefsStand.foldl (fun _ g k => k.gateFire g) allGates _ reported)).2

theorem execMainRestored_refs (levels : InputLevels) : Leaves State.RefsCounted (execMainRestored levels s) := by
  have h := stand.2
  unfold execMainRestored
  refine leaves_next ?_
  split
  · exact h
  · dsimp only
    split
    · exact (refsStand_of_ledger rfl stand).restoreStart levels
    · exact refsCounted_of_ledger rfl h

theorem execResetnReleased_refs (levels : InputLevels) : Leaves State.RefsCounted (execResetnReleased levels s) := by
  have h := stand.2
  unfold execResetnReleased
  refine leaves_next ?_
  split
  · exact h
  · have released : State.RefsStand { s with supply := { s.supply with resetnHigh := true } } := refsStand_of_ledger rfl stand
    dsimp only
    split
    · exact released.2
    · split
      · exact released.restoreStart levels
      · exact (released.warmStart ..).2

end

/-- Every command keeps the law: those that may write the calendar or the table one by one, and the others by what they leave (R21). -/
theorem exec_refsCounted {s : State} (stand : s.RefsStand) (i : Instr) : Leaves State.RefsCounted (exec i s) := by
  have h := stand.2
  by_cases reads : writesLedger i = false
  · exact fun t next => refsCounted_of_ledger (exec_ledger reads s t next) h
  cases i with
  | shiftDefine tag code fields => exact execShiftDefine_refs stand tag code fields
  | shiftDelete tag code => exact execShiftDelete_refs stand tag code
  | crewDefine | tallyConfig | rateSet =>
    simp only [exec, execCrewDefine, execTallyConfig, execRateSet]
    refine refs_serve _ _ h ?_
    split
    · exact h
    · exact refsCounted_congr h rfl rfl rfl
  | workerPut tag fields => exact execWorkerPut_refs stand tag fields
  | workerRemove tag badge => exact execWorkerRemove_refs stand tag badge
  | workerPresence tag badge presence => exact execWorkerPresence_refs stand tag badge presence
  | collectChanged tag cursor k => exact execCollectChanged_refs stand tag cursor k
  | clockSet tag day second => exact execClockSet_refs stand tag day second
  | gateCommandLockdown tag gate => exact execGateCommandLockdown_refs stand tag gate
  | periodClose tag number => exact execPeriodClose_refs stand tag number
  | closeRelease tag => exact execCloseRelease_refs stand tag
  | replySent levels => exact execReplySent_refs stand levels
  | secondEvent => exact execSecondEvent_refs stand
  | impulseEvent line => exact execImpulseEvent_refs stand line
  | punchTaken => exact execPunchTaken_refs stand
  | passagePulse gate input => exact execPassagePulse_refs stand gate input
  | turnstileReleaseExpired gate => exact execTurnstileReleaseExpired_refs stand gate
  | fireTaken => exact execFireTaken_refs stand
  | mainRestored levels => exact execMainRestored_refs stand levels
  | resetnReleased levels => exact execResetnReleased_refs stand levels
  | _ => exact absurd rfl reads

/-- Settles O56: a crystal period or a command, on a table in badge order. -/
theorem everyStepKeepsTheReferences : Obligations.EveryStepKeepsTheReferences := by
  intro s ordered h t next
  have stand : s.RefsStand := ⟨ordered.2.1, h⟩
  unfold step at next
  split at next
  · obtain rfl := Host.Outcome.next.inj next
    exact stand.crystalPeriod.2
  · exact exec_refsCounted (refsStand_of_ledger (State.withPending_ledger ..) stand) _ t next

end Sys2Proof.Machine
end

section
/-! PROOFS. The operations of a reader loop (Sections 4.2 to 4.4) as two acts: a turn of the loop that no gate can tell, and a change made
known to the gates bound to it. -/

namespace Sys2Proof.Machine

/-! ## The two acts (R54, R64, R69) -/

/-- The bindings of a loop: each configured address with its gate (R54). -/
def LoopState.wiring (l : LoopState) : List (Nat × Nat) := l.positions.map fun p => (p.address, p.gate)

/-- No address is configured twice (R54). -/
abbrev LoopState.AddressesApart (l : LoopState) : Prop := (l.positions.map (·.address)).Nodup

/-- The loop `y` in place of `x` is no change to any gate: the same bindings and, where no address is configured twice, the same gates
reached (R69, R98). -/
structure LoopState.SameToGates (x y : LoopState) : Prop where
  wiring : y.wiring = x.wiring
  reaches : x.AddressesApart → ∀ g, y.reaches g = x.reaches g

theorem LoopState.binds_wiring (l : LoopState) (g : Nat) : l.binds g = l.wiring.any (·.2 == g) := by
  simp [LoopState.binds, LoopState.wiring, List.any_map, Function.comp_def]

theorem LoopState.addresses_wiring (l : LoopState) : l.positions.map (·.address) = l.wiring.map (·.1) := by
  simp [LoopState.wiring, Function.comp_def]

theorem LoopState.binds_of_wiring {x y : LoopState} (same : y.wiring = x.wiring) (g : Nat) : y.binds g = x.binds g := by
  rw [binds_wiring, binds_wiring, same]

theorem LoopState.apart_of_wiring {x y : LoopState} (same : y.wiring = x.wiring) (apart : x.AddressesApart) : y.AddressesApart := by
  unfold LoopState.AddressesApart at *
  rwa [addresses_wiring, same, ← addresses_wiring]

/-- A gate that a loop reaches is bound to it (R98). -/
theorem LoopState.binds_of_reaches {l : LoopState} {g : Nat} (reached : l.reaches g = true) : l.binds g = true := by
  obtain ⟨-, p, member, gate, -⟩ : l.mode = .up ∧ ∃ p ∈ l.positions, p.gate = g ∧ p.present = true := by
    simpa [LoopState.reaches] using reached
  exact List.any_eq_true.mpr ⟨p, member, by simpa using gate⟩

/-- A loop with its mode and its positions as they were. -/
theorem LoopState.SameToGates.of_eq {x y : LoopState} (mode : y.mode = x.mode) (positions : y.positions = x.positions) : x.SameToGates y :=
  ⟨by rw [LoopState.wiring, LoopState.wiring, positions], fun _ g => by rw [LoopState.reaches, LoopState.reaches, mode, positions]⟩

/-- What an operation of a loop does at the part, but for the link: one of these acts after another. -/
inductive LoopAct : State → State → Prop
  /-- reports queued -/
  | linked (s : State) (k : StationLink) : LoopAct s { s with link := k }
  /-- the loop turned, of which no gate can tell -/
  | turned (s : State) (l : Fin 4) (y : LoopState) (same : (s.loopAt l).SameToGates y) : LoopAct s (s.setLoop l y)
  /-- the loop changed, its bindings as they were, and the change made known to the gates bound to it -/
  | moved (s : State) (l : Fin 4) (y : LoopState) (k : StationLink) (same : y.wiring = (s.loopAt l).wiring) :
    LoopAct s (deliverToGates l { s.setLoop l y with link := k })

/-- From one part to a later one by acts of the loops. -/
abbrev LoopPath : State → State → Prop := Relation.ReflTransGen LoopAct

theorem loopPath_queueReport (r : Report) (s : State) : LoopPath s (queueReport r s) := .single (.linked s _)

theorem loopPath_setLoop {s : State} {l : Fin 4} {y : LoopState} (same : (s.loopAt l).SameToGates y) : LoopPath s (s.setLoop l y) :=
  .single (.turned s l y same)

/-- The loop with its exchange, its runs and its counts changed. -/
theorem loopPath_setLoop_of_eq {s : State} {l : Fin 4} {y : LoopState} (mode : y.mode = (s.loopAt l).mode)
    (positions : y.positions = (s.loopAt l).positions) : LoopPath s (s.setLoop l y) :=
  loopPath_setLoop (.of_eq mode positions)

theorem loopPath_readerEvent (l address : Nat) (cause : ReaderCause) (code : Nat) (s : State) :
    LoopPath s (readerEvent l address cause code s) := loopPath_queueReport _ s

theorem loopPath_setExchange (l : Fin 4) (e : Exchange) (s : State) : LoopPath s (setExchange l e s) := loopPath_setLoop_of_eq rfl rfl

theorem loopPath_changeMode {s : State} (l : Fin 4) (cause : LoopCause) {y : LoopState} (same : y.wiring = (s.loopAt l).wiring) :
    LoopPath s (changeMode l cause y s) := .single (.moved s l y _ same)

/-! ## Exchanges (R60, R62, R65 to R71) -/

theorem loopPath_finishExchange (l : Fin 4) (answer : Answer) (s : State) : LoopPath s (finishExchange l answer s) := by
  unfold finishExchange
  dsimp only
  split
  · exact .refl
  · exact .refl
  all_goals
    split
    · exact loopPath_changeMode l _ rfl
    · exact loopPath_setLoop_of_eq rfl rfl

theorem Position.settled_binding (p : Position) (nmiss : Nat) (answer : Answer) :
    (p.settled nmiss answer).address = p.address ∧ (p.settled nmiss answer).gate = p.gate := by
  unfold Position.settled
  split <;> exact ⟨rfl, rfl⟩

theorem LoopState.settled_wiring (l : LoopState) (address : Nat) (answer : Answer) : (l.settled address answer).wiring = l.wiring := by
  unfold LoopState.wiring LoopState.settled
  rw [List.map_map]
  refine List.map_congr_left fun p _ => ?_
  dsimp only [Function.comp_apply]
  split
  · obtain ⟨address, gate⟩ := p.settled_binding l.config.nmiss answer
    rw [address, gate]
  · rfl

/-- The one position of an address, where no address is configured twice. -/
theorem LoopState.positionOf_eq {l : LoopState} (apart : l.AddressesApart) {p : Position} (member : p ∈ l.positions) :
    l.positionOf p.address = some p := by
  obtain ⟨q, found⟩ : ∃ q, l.positionOf p.address = some q :=
    Option.isSome_iff_exists.mp (List.find?_isSome.mpr ⟨p, member, by simp⟩)
  have address : q.address = p.address := by simpa using List.find?_some found
  rw [found, List.inj_on_of_nodup_map apart (List.mem_of_find?_eq_some found) member address]

/-- A settled answer that leaves its address as PRESENT, or as ABSENT, as it was changes the reach of no gate (R68, R69). -/
theorem LoopState.settled_same {l : LoopState} {address : Nat} {answer : Answer}
    (still : (l.settled address answer).isPresent address = l.isPresent address) : l.SameToGates (l.settled address answer) := by
  refine ⟨l.settled_wiring address answer, fun apart g => ?_⟩
  have apart' := apart_of_wiring (l.settled_wiring address answer) apart
  have present : ∀ p ∈ l.positions, (if p.address = address then p.settled l.config.nmiss answer else p).present = p.present := by
    intro p member
    split
    · rename_i here
      have there : p.settled l.config.nmiss answer ∈ (l.settled address answer).positions :=
        List.mem_map.mpr ⟨p, member, if_pos here⟩
      have before := positionOf_eq apart member
      have after := positionOf_eq apart' there
      rw [(p.settled_binding l.config.nmiss answer).1, here] at after
      rw [here] at before
      simpa [LoopState.isPresent, before, after] using still
    · rfl
  have gate : ∀ p : Position, (if p.address = address then p.settled l.config.nmiss answer else p).gate = p.gate := by
    intro p
    split
    · exact (p.settled_binding l.config.nmiss answer).2
    · rfl
  have reached : (l.settled address answer).positions.any (fun p => p.gate == g && p.present) =
      l.positions.any fun p => p.gate == g && p.present := by
    rw [LoopState.settled, List.any_map, Bool.eq_iff_iff, List.any_eq_true, List.any_eq_true]
    exact exists_congr fun p => and_congr_right fun member => by rw [Function.comp_apply, present p member, gate p]
  exact congrArg (l.mode == LoopMode.up && ·) reached

theorem loopPath_settleAnswer (l : Fin 4) (address : Nat) (answer : Answer) (s : State) : LoopPath s (settleAnswer l address answer s) := by
  have told : ∀ k, LoopPath s (deliverToGates l { s.setLoop l ((s.loopAt l).settled address answer) with link := k }) := fun k =>
    .single (.moved s l _ k (LoopState.settled_wiring ..))
  unfold settleAnswer
  dsimp only
  split
  · split
    · exact told s.link
    · exact told _
  · exact told _
  · rename_i notUp notDown
    refine loopPath_setLoop (LoopState.settled_same ?_)
    cases before : (s.loopAt l).isPresent address <;> cases after : ((s.loopAt l).settled address answer).isPresent address
    · rfl
    · exact absurd after (notUp before)
    · exact absurd after (notDown before)
    · rfl

theorem loopPath_takePunchAnswer (l : Fin 4) (address sequence badge : Nat) (s : State) :
    LoopPath s (takePunchAnswer l address sequence badge s) := by
  unfold takePunchAnswer
  dsimp only
  split
  · exact loopPath_finishExchange ..
  · split
    · split <;> exact loopPath_setExchange ..
    · exact loopPath_setExchange ..

theorem loopPath_actOnAnswer (l : Fin 4) (address : Nat) (answer : Answer) (s : State) : LoopPath s (actOnAnswer l address answer s) := by
  have settled := loopPath_settleAnswer l address answer s
  unfold actOnAnswer
  dsimp only
  split
  · exact settled.trans (loopPath_finishExchange ..)
  · exact settled.trans (loopPath_finishExchange ..)
  · exact settled.trans (loopPath_finishExchange ..)
  · exact (settled.trans (loopPath_readerEvent ..)).trans (loopPath_finishExchange ..)
  · exact settled.trans (loopPath_takePunchAnswer ..)

theorem loopPath_latch (l : Fin 4) (r : Receiver) (s : State) : LoopPath s (s.setLoop l ((s.loopAt l).latch r)) :=
  loopPath_setLoop_of_eq rfl rfl

theorem loopPath_abortAnswer (l : Fin 4) (address : Nat) (r : Receiver) (s : State) : LoopPath s (abortAnswer l address r s) :=
  (((loopPath_latch ..).trans (loopPath_settleAnswer ..)).trans (loopPath_finishExchange ..)).trans (loopPath_setExchange ..)

theorem loopPath_endTest {s : State} (l : Fin 4) (k : Nat) {y : LoopState} (mode : y.mode = (s.loopAt l).mode)
    (positions : y.positions = (s.loopAt l).positions) : LoopPath s (endTest l k y s) := by
  have counted : LoopPath s (s.setLoop l y) := loopPath_setLoop_of_eq mode positions
  refine (counted.trans (loopPath_queueReport ..)).trans (loopPath_changeMode l _ ?_)
  have at_l : (queueReport (.loopTestDone l k y.good y.checkFailed y.aborted) (s.setLoop l y)).loopAt l = y := State.loopAt_setLoop_self ..
  rw [at_l]
  rfl

/-! ## Commands of the loops (R60 to R63, R74 to R76) -/

/-- The requests and events of a loop that leave its bindings as they are: all but LOOP_CONFIG. -/
def turnsLoop : Instr → Bool
  | .loopStart .. | .loopStop .. | .loopTest .. | .loopStatus .. | .pollSent .. | .wakeSent .. | .verdictSent ..
  | .responseWindowExpired .. | .loopAnswerReceived .. | .loopFrameAborted .. | .huntBoundExpired .. | .abortQuietEnded ..
  | .testFrameSettled .. => true
  | _ => false

/-- A request ends where its block's decision does, but for the link (R168). -/
theorem loopPath_serve {f : State → State × Reply} {s : State} (k tag : Nat) (acts : LoopPath s (f s).1) :
    Leaves (LoopPath s) (serve k tag f s) := by
  obtain ⟨-, e⟩ | ⟨-, -, e⟩ | ⟨-, e⟩ := serve_cases k tag f s
  · rw [e]; exact leaves_next .refl
  · rw [e]; exact leaves_next (.single (.linked s _))
  · rw [e]; exact leaves_next (acts.tail (.linked _ _))

theorem loopPath_whileLive {f : State → State} {s : State} (acts : LoopPath s (f s)) : Leaves (LoopPath s) (whileLive f s) :=
  leaves_whileLive .refl acts

theorem loopPath_whileAwaiting {l : Fin 4} {f : Nat → State → State} {s : State} (acts : ∀ address, LoopPath s (f address s)) :
    Leaves (LoopPath s) (whileAwaiting l f s) := by
  refine loopPath_whileLive ?_
  split
  · exact acts _
  · exact .refl

/-- The number of a loop that a request names is a loop's (R61, R63, R74, R76). -/
theorem loop_of_within {loop : Nat} (inRange : ¬ (!within 0 loop 3) = true) : ∃ l : Fin 4, l.val = loop := by
  have ⟨_, high⟩ := (within_iff 0 loop 3).mp (by simpa using inRange)
  exact ⟨⟨loop, by omega⟩, rfl⟩

theorem execLoopStart_path (tag loop : Nat) (s : State) : Leaves (LoopPath s) (execLoopStart tag loop s) := by
  unfold execLoopStart
  refine loopPath_serve _ _ ?_
  split
  · exact .refl
  · obtain ⟨l, rfl⟩ := loop_of_within ‹_›
    dsimp only
    split
    · exact .refl
    · refine loopPath_changeMode l .start ?_
      simp [LoopState.wiring, LoopState.started, LoopState.train, Position.cleared, Position.absent, Function.comp_def]

theorem execLoopStop_path (tag loop : Nat) (s : State) : Leaves (LoopPath s) (execLoopStop tag loop s) := by
  unfold execLoopStop
  refine loopPath_serve _ _ ?_
  split
  · exact .refl
  · obtain ⟨l, rfl⟩ := loop_of_within ‹_›
    dsimp only
    split
    · exact loopPath_setLoop_of_eq rfl rfl
    · exact loopPath_changeMode l .stop rfl

theorem execLoopTest_path (tag loop k : Nat) (s : State) : Leaves (LoopPath s) (execLoopTest tag loop k s) := by
  unfold execLoopTest
  refine loopPath_serve _ _ ?_
  split
  · exact .refl
  · rename_i inRange
    obtain ⟨isLoop, -⟩ : within 0 loop 3 = true ∧ within 1 k 255 = true := by simpa using inRange
    obtain ⟨l, rfl⟩ := loop_of_within (loop := loop) (by simpa using isLoop)
    dsimp only
    split
    · exact .refl
    · exact loopPath_changeMode l .test rfl

theorem execLoopStatus_path (tag loop : Nat) (clear : Bool) (s : State) : Leaves (LoopPath s) (execLoopStatus tag loop clear s) := by
  unfold execLoopStatus
  refine loopPath_serve _ _ ?_
  split
  · exact .refl
  · obtain ⟨l, rfl⟩ := loop_of_within ‹_›
    dsimp only [okayWith]
    split
    · exact loopPath_setLoop_of_eq rfl rfl
    · exact .refl

theorem execWakeSent_path (loop : Fin 4) (s : State) : Leaves (LoopPath s) (execWakeSent loop s) := by
  unfold execWakeSent
  refine loopPath_whileLive ?_
  dsimp only
  split
  · exact loopPath_setLoop_of_eq rfl rfl
  · exact loopPath_changeMode loop .trained rfl
  · exact .refl

theorem LoopState.count_same (x : LoopState) (r : Receiver) (outcome : TestOutcome) :
    ((x.latch r).count outcome).mode = x.mode ∧ ((x.latch r).count outcome).positions = x.positions := by
  cases outcome <;> exact ⟨rfl, rfl⟩

theorem execTestFrameSettled_path (loop : Fin 4) (line : List Bool) (s : State) :
    Leaves (LoopPath s) (execTestFrameSettled loop line s) := by
  unfold execTestFrameSettled
  refine loopPath_whileLive ?_
  dsimp only
  split
  · obtain ⟨mode, positions⟩ := (s.loopAt loop).count_same _ _
    split
    · exact loopPath_setLoop_of_eq mode positions
    · exact loopPath_endTest loop _ mode positions
  · exact .refl

/-- Every command of the loops but LOOP_CONFIG is made of the two acts. -/
theorem exec_loopPath {i : Instr} (turns : turnsLoop i = true) (s : State) : Leaves (LoopPath s) (exec i s) := by
  cases i with
  | loopStart tag loop => exact execLoopStart_path tag loop s
  | loopStop tag loop => exact execLoopStop_path tag loop s
  | loopTest tag loop k => exact execLoopTest_path tag loop k s
  | loopStatus tag loop clear => exact execLoopStatus_path tag loop clear s
  | wakeSent loop => exact execWakeSent_path loop s
  | testFrameSettled loop line => exact execTestFrameSettled_path loop line s
  | pollSent loop =>
    simp only [exec, execPollSent]
    refine loopPath_whileLive ?_
    split
    · exact loopPath_setLoop_of_eq rfl rfl
    · exact .refl
  | abortQuietEnded loop =>
    simp only [exec, execAbortQuietEnded]
    refine loopPath_whileLive ?_
    split
    · exact loopPath_setLoop_of_eq rfl rfl
    · exact .refl
  | verdictSent loop =>
    simp only [exec, execVerdictSent]
    refine loopPath_whileLive ?_
    split
    · exact loopPath_finishExchange ..
    · exact .refl
  | responseWindowExpired loop => exact loopPath_whileAwaiting fun address => loopPath_actOnAnswer ..
  | loopAnswerReceived loop line =>
    simp only [exec, execLoopAnswerReceived]
    refine loopPath_whileAwaiting fun address => ?_
    split
    · exact (loopPath_latch ..).trans (loopPath_actOnAnswer ..)
    · exact .refl
  | loopFrameAborted loop line | huntBoundExpired loop line =>
    simp only [exec, execLoopFrameAborted, execHuntBoundExpired]
    refine loopPath_whileAwaiting fun address => ?_
    split
    · exact loopPath_abortAnswer ..
    · exact .refl
  | _ => exact Bool.noConfusion turns

end Sys2Proof.Machine
end

section
/-! PROOFS. Which commands leave the loops, the gates, the fire state and the time validity as they are. -/

namespace Sys2Proof.Machine

/-! ## The site: loops, gates, fire and time validity -/

/-- What the laws of the gates and of the worker table read besides the table: the loops, the gates, fire, and whether the time is set. -/
def State.site (s : State) : Vector LoopState 4 × Vector Gate 16 × Bool × Validity := (s.loops, s.gates, s.fire, s.time.validity)

theorem State.site_eq {s t : State} (same : t.site = s.site) :
    t.loops = s.loops ∧ t.gates = s.gates ∧ t.fire = s.fire ∧ t.time.validity = s.time.validity := by
  simpa [State.site] using same

/-- A part written field by field, whatever its other blocks. -/
@[simp] theorem State.site_mk (time : Timebase) (follower : Follower) (calendar : Calendar) (workers : List WorkerRecord)
    (loops : Vector LoopState 4) (punch : PunchProcessor) (gates : Vector Gate 16) (fire : Bool) (journal : Journal)
    (period : PeriodUnit) (bells : Bells) (supply : SupplyMonitor) (link : StationLink) (pending : List Instr) :
    (State.mk time follower calendar workers loops punch gates fire journal period bells supply link pending).site =
      (loops, gates, fire, time.validity) := rfl

@[simp] theorem State.site_fold (s : State) : (s.loops, s.gates, s.fire, s.time.validity) = s.site := rfl

/-- A request leaves what its block's decision leaves, of whatever the link has no part in (R168). -/
theorem leaves_serve_of_linked {P : State → Prop} {f : State → State × Reply} {s : State} (k tag : Nat)
    (blind : ∀ (u : State) (l : StationLink), P u → P { u with link := l }) (stays : P s) (acts : P (f s).1) :
    Leaves P (serve k tag f s) := by
  obtain ⟨-, e⟩ | ⟨-, -, e⟩ | ⟨-, e⟩ := serve_cases k tag f s
  · rw [e]; exact leaves_next stays
  · rw [e]; exact leaves_next (blind s _ stays)
  · rw [e]; exact leaves_next (blind (f s).1 _ acts)

/-- An outcome that leaves the site as it is in `s`. -/
abbrev KeepsSite (s : State) (o : Host.Outcome State Fault Refusal) : Prop := Leaves (fun t => t.site = s.site) o

theorem keepsSite_serve {f : State → State × Reply} {s : State} (k tag : Nat) (acts : (f s).1.site = s.site) :
    KeepsSite s (serve k tag f s) :=
  leaves_serve_of_linked k tag (fun _ _ same => same) rfl acts

theorem keepsSite_whileLive {f : State → State} {s : State} (acts : (f s).site = s.site) : KeepsSite s (whileLive f s) :=
  leaves_whileLive rfl acts

/-! ## Operations that leave the site -/

@[simp] theorem setWorker_site (w : WorkerRecord) (s : State) : (setWorker w s).site = s.site := rfl

@[simp] theorem queueReport_site (r : Report) (s : State) : (queueReport r s).site = s.site := rfl

@[simp] theorem overrun_site (s : State) : (overrun s).site = s.site := rfl

@[simp] theorem setEnable_site (enable : Bool) (s : State) : (setEnable enable s).site = s.site := by
  unfold setEnable
  split <;> rfl

@[simp] theorem readyIfDue_site (s : State) : (readyIfDue s).site = s.site := by
  rw [readyIfDue_frame]
  rfl

@[simp] theorem rewindStream_site (s : State) : (rewindStream s).site = s.site := rfl

@[simp] theorem deliver_site (k : Nat) (s : State) : (deliver k s).1.site = s.site := by
  rw [(deliver_frame k s).1]
  rfl

@[simp] theorem tenthTick_site (s : State) : (tenthTick s).site = s.site := by
  unfold tenthTick
  split <;> rfl

@[simp] theorem tickPeriod_site (s : State) : (tickPeriod s).site = s.site := by
  unfold tickPeriod
  split
  · rfl
  · exact tenthTick_site _

@[simp] theorem windowWatch_site (s : State) : (windowWatch s).site = s.site := by
  unfold windowWatch windowCheck missImpulse
  dsimp only
  repeat' split
  all_goals rfl

@[simp] theorem backupSecond_site (s : State) : (backupSecond s).site = s.site := by
  unfold backupSecond
  split <;> rfl

@[simp] theorem followerClockSet_site (s : State) : (followerClockSet s).site = s.site := by
  unfold followerClockSet
  split <;> rfl

@[simp] theorem minuteEvent_site (s : State) : (minuteEvent s).site = s.site := by
  rw [minuteEvent_frame]
  rfl

@[simp] theorem noteMinute_site (before : Nat) (s : State) : (noteMinute before s).site = s.site := by
  unfold noteMinute
  dsimp only
  repeat' split
  · rfl
  · exact minuteEvent_site _
  · rfl

theorem Timebase.count_validity (t : Timebase) : t.count.validity = t.validity := by
  unfold Timebase.count
  split
  · exact t.advance_validity 1
  · split <;> exact t.advance_validity 1
  · rfl
  · split
    · exact t.advance_validity 2
    · exact t.advance_validity 1

/-- Counting never sets the time or takes its validity away (R4). -/
theorem Timebase.secondEvent_validity (t : Timebase) (working : Bool) : (t.secondEvent working).validity = t.validity := by
  unfold Timebase.secondEvent
  cases working
  · exact t.advance_validity 1
  · exact t.count_validity

theorem Timebase.align_validity (t : Timebase) : t.align.validity = t.validity := by
  unfold Timebase.align
  dsimp only [Timebase.restart]
  split
  · rfl
  · exact t.advance_validity _

@[simp] theorem disciplineOut_site (f : Follower) (s : State) : (disciplineOut f s).site = s.site := by
  unfold disciplineOut
  dsimp only
  split <;> rfl

@[simp] theorem alignTo_site (f : Follower) (s : State) : (alignTo f s).site = s.site := by
  unfold alignTo
  dsimp only
  rw [noteMinute_site]
  simp only [followerEvent, queueReport_site, State.site_mk, s.time.align_validity, State.site_fold]

@[simp] theorem qualifyImpulse_site (l : ActiveLine) (s : State) : (qualifyImpulse l s).site = s.site := by
  unfold qualifyImpulse takeImpulse
  dsimp only
  repeat' split
  · rfl
  · rfl
  · exact alignTo_site _ _
  · exact alignTo_site _ _
  · rfl
  · rfl
  · exact disciplineOut_site _ _

/-! ## Commands that leave the site -/

/-- The commands that may change the loops, the gates, fire or the time validity. -/
def writesSite : Instr → Bool
  | .clockSet .. | .loopConfig .. | .loopStart .. | .loopStop .. | .loopTest .. | .loopStatus .. | .gateConfig ..
  | .gateCommandNormal .. | .gateCommandFree .. | .gateCommandLockdown .. | .gateCommandRelease .. | .replySent .. | .secondEvent
  | .pollSent .. | .wakeSent .. | .verdictSent .. | .responseWindowExpired .. | .loopAnswerReceived .. | .loopFrameAborted ..
  | .huntBoundExpired .. | .abortQuietEnded .. | .testFrameSettled .. | .punchTaken | .passagePulse .. | .turnstileReleaseExpired ..
  | .hingedReleaseExpired .. | .heldOpenExpired .. | .contactOpens .. | .contactCloses .. | .fireTaken | .fireCleared | .mainLoss ..
  | .mainRestored .. | .resetnLow | .resetnReleased .. | .firstPower => true
  | _ => false

/-- Every other command leaves the site as it is. -/
theorem exec_site {i : Instr} (reads : writesSite i = false) (s : State) : KeepsSite s (exec i s) := by
  cases i with
  | clockSet | loopConfig | loopStart | loopStop | loopTest | loopStatus | gateConfig | gateCommandNormal | gateCommandFree
  | gateCommandLockdown | gateCommandRelease | replySent | secondEvent | pollSent | wakeSent | verdictSent | responseWindowExpired
  | loopAnswerReceived | loopFrameAborted | huntBoundExpired | abortQuietEnded | testFrameSettled | punchTaken | passagePulse
  | turnstileReleaseExpired | hingedReleaseExpired | heldOpenExpired | contactOpens | contactCloses | fireTaken | fireCleared | mainLoss
  | mainRestored | resetnLow | resetnReleased | firstPower => exact Bool.noConfusion reads
  | clockConfig | clockRead | shiftDefine | shiftDelete | crewDefine | tallyConfig | rateSet | calendarReadShift | calendarReadCrew
  | calendarReadDay | calendarReadTally | calendarReadRates | workerPut | workerGet | workerRemove | workerPresence | collectChanged
  | gateRead | musterRead | journalRead | journalRelease | periodClose | closeRead | closeRelease | periodRead | cadenceDefine
  | bellEntryPut | bellEntryRemove | zoneConfig | bellManual | bellSilence | bellRead | restart | factoryClear | status | reportFetch =>
    simp only [exec, execClockConfig, execClockRead, execShiftDefine, execShiftDelete, execCrewDefine, execTallyConfig, execRateSet,
      execCalendarReadShift, execCalendarReadCrew, execCalendarReadDay, execCalendarReadTally, execCalendarReadRates, execWorkerPut,
      execWorkerGet, execWorkerRemove, execWorkerPresence, execCollectChanged, execGateRead, execMusterRead, execJournalRead,
      execJournalRelease, execPeriodClose, closePeriod, execCloseRead, execCloseRelease, execPeriodRead, execCadenceDefine,
      execBellEntryPut, execBellEntryRemove, execZoneConfig, execBellManual, execBellSilence, execBellRead, execRestart,
      execFactoryClear, execStatus, execReportFetch]
    refine keepsSite_serve _ _ ?_
    repeat' split
    all_goals simp
  | unknownKind kind tag body =>
    simp only [exec, execUnknownKind]
    split
    · exact keepsSite_serve _ _ rfl
    · split
      · exact leaves_next rfl
      · exact keepsSite_serve _ _ rfl
  | requestOverrun | stationFrameDiscarded | byteGapTimeout | impulseEvent | readyEvent | cadenceStepEnded =>
    simp only [exec, execRequestOverrun, execStationFrameDiscarded, execByteGapTimeout, execImpulseEvent, execReadyEvent,
      execCadenceStepEnded]
    refine keepsSite_whileLive ?_
    repeat' split
    all_goals simp
  | backupLow | tenthTick =>
    simp only [exec, execBackupLow, execTenthTick]
    refine leaves_next ?_
    repeat' split
    all_goals simp

end Sys2Proof.Machine
end

section
/-! PROOFS. What a step can do to the worker table, the pending passages and the partnerships: one relation of acts, and every command as a
sequence of them. -/

namespace Sys2Proof.Machine

/-! ## The staff: time validity, worker table, passages and partners -/

/-- What the laws of the worker table and of the passages read of the part. -/
structure Staff where
  validity : Validity
  workers : List WorkerRecord
  passage : Nat → Option Passage
  partner : Nat → Option Nat

/-- The staff of the part. -/
def State.staff (s : State) : Staff :=
  ⟨s.time.validity, s.workers, fun g => (s.gateAt g).passage, fun g => (s.gateAt g).config.partner⟩

/-- The record that the end of a commit puts into the table (R92). -/
def CommitWork.completed (x : CommitWork) (gate : Nat) (p : Passage) (ofPassage : Bool) : WorkerRecord :=
  { x.worker with
    lastPunch := some ⟨p.second, gate⟩, pendingSet := AnomalySet.empty
    pendingGate := if ofPassage then none else x.worker.pendingGate, changed := true }

/-- The record of `w` after one act of the part on it that gives up no passage and takes none, while the time validity is as given. -/
inductive Revised (v : Validity) (w : WorkerRecord) : WorkerRecord → Prop
  /-- left as it is -/
  | same : Revised v w w
  /-- the changed mark cleared (R52) -/
  | collected : Revised v w { w with changed := false }
  /-- a large step marked (R47) -/
  | stepped : Revised v w (markStepped w)
  /-- the close of a period (R141) -/
  | closed (boundary : Nat) : Revised v w (closeRecord boundary w)
  /-- the release of a close (R149) -/
  | released : Revised v w { w with closing := Bank.empty }
  /-- the host-set fields replaced (R48) -/
  | put (f : WorkerFields) (status : WorkerStatus) (valid : workerFieldsValid f = some status) : Revised v w (w.withFields f status)
  /-- presence set by the host (R51) -/
  | seen (p : Presence) (free : w.attendance = none) : Revised v w { w with presence := p, changed := true }
  /-- let out without a time (R82) -/
  | untimed (unset : v = .unset) : Revised v w { w with presence := .outside, changed := true }
  /-- auto-closed (R44, R45) -/
  | overdue (c : Calendar) (a : Attendance) (attended : w.attendance = some a) : Revised v w (autoCloseRecord c a w)
  /-- a punch committed at once (R83, R87, R88) -/
  | punched (set : v = .set) (s : State) (g : Nat) (p : Passage) (unrecorded : Bool) :
    Revised v w ((commitWork g p unrecorded ⟨s, w⟩).completed g p false)

/-- The record of `w` after its pending passage has been resolved (R93, R94). -/
inductive Resolved (w : WorkerRecord) : WorkerRecord → Prop
  | voided : Resolved w { w with pendingGate := none }
  | committed (s : State) (g : Nat) (p : Passage) : Resolved w ((commitWork g p false ⟨s, w⟩).completed g p true)

/-- The record of `w` where the passage of a badge has been resolved: no other badge's record is touched (R93). -/
def ResolvedFor (badge : Nat) (w v : WorkerRecord) : Prop := if w.badge = badge then Resolved w v else v = w

/-- The second table holds the badges of the first, and each of its records is made by the relation of one of its badge. -/
structure Follows (R : WorkerRecord → WorkerRecord → Prop) (ws vs : List WorkerRecord) : Prop where
  badges : vs.map (·.badge) = ws.map (·.badge)
  records : ∀ v ∈ vs, ∃ w ∈ ws, v.badge = w.badge ∧ R w v

/-- A gate's new partner where `g` is given the partner `p` (R96). -/
def partnered (g : Nat) (p : Option Nat) (partner : Nat → Option Nat) (i : Nat) : Option Nat :=
  if i = g then p
  else if some i = p then some g
  else if partner i = some g ∨ (p.isSome ∧ partner i = p) then none
  else partner i

/-- The acts of the part on its staff. -/
inductive StaffAct : Staff → Staff → Prop
  /-- the time set (R5) -/
  | timed (u : Staff) : StaffAct u { u with validity := .set }
  /-- records revised -/
  | revised (u : Staff) (ws : List WorkerRecord) (follows : Follows (Revised u.validity) u.workers ws) :
    StaffAct u { u with workers := ws }
  /-- a new record in its place (R48) -/
  | installed (u : Staff) (f : WorkerFields) (status : WorkerStatus) (valid : workerFieldsValid f = some status)
    (absent : ∀ w ∈ u.workers, w.badge ≠ f.badge) (room : u.workers.length < 4096) :
    StaffAct u { u with workers := installWorker (WorkerRecord.fresh f status) u.workers }
  /-- a record without attendance and passage removed (R50) -/
  | removed (u : Staff) (w : WorkerRecord) (member : w ∈ u.workers) (idle : w.pendingGate = none) :
    StaffAct u { u with workers := u.workers.filter fun x => x.badge != w.badge }
  /-- a passage taken by a gate, and its gate noted in the record (R88) -/
  | pended (u : Staff) (w : WorkerRecord) (g : Nat) (p : Passage) (member : w ∈ u.workers) (badge : w.badge = p.badge)
    (idle : w.pendingGate = none) (isGate : g < 16) (free : u.passage g = none) (set : u.validity = .set) :
    StaffAct u { u with
      workers := replaceWorker { w with pendingGate := some g } u.workers, passage := Function.update u.passage g (some p) }
  /-- a passage given up by its gate and resolved in its record (R93) -/
  | resolved (u : Staff) (g : Nat) (p : Passage) (ws : List WorkerRecord) (held : u.passage g = some p)
    (follows : Follows (ResolvedFor p.badge) u.workers ws) :
    StaffAct u { u with workers := ws, passage := Function.update u.passage g none }
  /-- partnerships changed (R96) -/
  | partnered (u : Staff) (g : Nat) (p : Option Nat) (isGate : g < 16) (other : ∀ q ∈ p, q < 16 ∧ q ≠ g) :
    StaffAct u { u with partner := partnered g p u.partner }
  /-- a cold start (R53, R115) -/
  | blank (u : Staff) : StaffAct u ⟨.unset, [], fun _ => none, fun _ => none⟩

/-- From one staff to a later one by acts of the part. -/
abbrev StaffPath : Staff → Staff → Prop := Relation.ReflTransGen StaffAct

theorem staffPath_of_eq {s t : State} (same : t.staff = s.staff) : StaffPath s.staff t.staff := same ▸ .refl

theorem staff_of_site {s t : State} (site : t.site = s.site) (workers : t.workers = s.workers) : t.staff = s.staff := by
  obtain ⟨-, gates, -, validity⟩ := State.site_eq site
  simp only [State.staff, State.gateAt, gates, validity, workers]

/-! ## Tables that follow -/

theorem Follows.refl {R : WorkerRecord → WorkerRecord → Prop} (same : ∀ w, R w w) (ws : List WorkerRecord) : Follows R ws ws :=
  ⟨rfl, fun v member => ⟨v, member, rfl, same v⟩⟩

/-- Every record changed by a function that keeps its badge. -/
theorem Follows.map {R : WorkerRecord → WorkerRecord → Prop} {ws : List WorkerRecord} {f : WorkerRecord → WorkerRecord}
    (badge : ∀ w ∈ ws, (f w).badge = w.badge) (acts : ∀ w ∈ ws, R w (f w)) : Follows R ws (ws.map f) := by
  refine ⟨?_, fun v member => ?_⟩
  · rw [List.map_map]
    exact List.map_congr_left badge
  · obtain ⟨w, member', rfl⟩ := List.mem_map.mp member
    exact ⟨w, member', badge w member', acts w member'⟩

/-- The record of a badge replaced by one made of a record of that badge, every other left as it is. -/
theorem Follows.replace {R : WorkerRecord → WorkerRecord → Prop} {ws : List WorkerRecord} {w v : WorkerRecord} (member : w ∈ ws)
    (badge : v.badge = w.badge) (acts : R w v) (others : ∀ x ∈ ws, x.badge ≠ w.badge → R x x) : Follows R ws (replaceWorker v ws) := by
  refine ⟨replaceWorker_badges v ws, fun x hx => ?_⟩
  obtain ⟨y, member', rfl⟩ := List.mem_map.mp hx
  split
  · exact ⟨w, member, badge, acts⟩
  · rename_i apart
    exact ⟨y, member', rfl, others y member' fun e => apart (e.trans badge.symm)⟩

/-- A record of the part revised in the table. -/
theorem staffPath_setWorker {s : State} {w v : WorkerRecord} (member : w ∈ s.workers) (badge : v.badge = w.badge)
    (acts : Revised s.time.validity w v) : StaffPath s.staff (setWorker v s).staff :=
  .single (.revised s.staff _ (.replace member badge acts fun _ _ _ => .same))

/-- Every record of the part revised. -/
theorem staffPath_map {s t : State} {f : WorkerRecord → WorkerRecord} (site : t.site = s.site) (table : t.workers = s.workers.map f)
    (badge : ∀ w ∈ s.workers, (f w).badge = w.badge) (acts : ∀ w ∈ s.workers, Revised s.time.validity w (f w)) :
    StaffPath s.staff t.staff := by
  have e : t.staff = ({ s with workers := s.workers.map f } : State).staff := staff_of_site site table
  rw [e]
  exact .single (.revised s.staff _ (.map badge acts))

/-! ## Gates and loops -/

/-- A gate replaced by one with its passage and its partner. -/
theorem State.setGate_staff {s : State} {g : Nat} {y : Gate} (passage : y.passage = (s.gateAt g).passage)
    (partner : y.config.partner = (s.gateAt g).config.partner) : (s.setGate g y).staff = s.staff := by
  have at_h : ∀ h, ((s.setGate g y).gateAt h).passage = (s.gateAt h).passage ∧
      ((s.setGate g y).gateAt h).config.partner = (s.gateAt h).config.partner := fun h => by
    rw [State.gateAt_setGate]
    split
    · rename_i here
      rw [here.1]
      exact ⟨passage, partner⟩
    · exact ⟨rfl, rfl⟩
  simp only [State.staff, State.setGate_time, State.setGate_workers, fun h => (at_h h).1, fun h => (at_h h).2]

/-- A gate beyond the sixteen is none. -/
theorem State.gateAt_beyond (s : State) {g : Nat} (beyond : ¬ g < 16) : s.gateAt g = Gate.cold := by
  simp [State.gateAt, Vector.getD, beyond]

/-- The gates all replaced, each by what a function makes of it. -/
theorem State.gateAt_of_units {s t : State} {f : Nat → Gate → Gate} (made : t.gates = mapUnits f s.gates) {h : Nat} (isGate : h < 16) :
    t.gateAt h = f h (s.gateAt h) := by
  unfold State.gateAt
  rw [made]
  exact vector_getD_mapUnits f s.gates h Gate.cold isGate

/-- Where every gate keeps its passage and its partner, so does the staff. -/
theorem staff_of_units {s t : State} {f : Nat → Gate → Gate} (time : t.time = s.time) (workers : t.workers = s.workers)
    (made : t.gates = mapUnits f s.gates) (passage : ∀ g, (f g (s.gateAt g)).passage = (s.gateAt g).passage)
    (partner : ∀ g, (f g (s.gateAt g)).config.partner = (s.gateAt g).config.partner) : t.staff = s.staff := by
  simp only [State.staff, time, workers, Staff.mk.injEq, true_and]
  refine ⟨funext fun g => ?_, funext fun g => ?_⟩
  · by_cases isGate : g < 16
    · rw [State.gateAt_of_units made isGate, passage]
    · rw [t.gateAt_beyond isGate, s.gateAt_beyond isGate]
  · by_cases isGate : g < 16
    · rw [State.gateAt_of_units made isGate, partner]
    · rw [t.gateAt_beyond isGate, s.gateAt_beyond isGate]

/-- A gate replaced by one with its partner. -/
theorem State.setGate_staff_passage {s : State} {g : Nat} (isGate : g < 16) {y : Gate}
    (partner : y.config.partner = (s.gateAt g).config.partner) :
    (s.setGate g y).staff = { s.staff with passage := Function.update s.staff.passage g y.passage } := by
  simp only [State.staff, State.setGate_time, State.setGate_workers, State.gateAt_setGate, isGate, and_true, Staff.mk.injEq, true_and]
  refine ⟨funext fun h => ?_, funext fun h => ?_⟩
  · by_cases here : h = g
    · rw [here, Function.update_self, if_pos rfl]
    · rw [Function.update_of_ne here, if_neg here]
  · by_cases here : h = g
    · rw [here, if_pos rfl, partner]
    · rw [if_neg here]

/-- A gate disarmed holds no passage (R105, R106). -/
theorem State.disarm_staff (s : State) (g : Nat) :
    (s.setGate g (s.gateAt g).disarm).staff = { s.staff with passage := Function.update s.staff.passage g none } := by
  by_cases isGate : g < 16
  · exact State.setGate_staff_passage isGate rfl
  · have cold := s.gateAt_beyond isGate
    have none_held : s.staff.passage g = none := congrArg Gate.passage cold
    have kept : (s.setGate g (s.gateAt g).disarm).staff = s.staff := State.setGate_staff (by rw [cold]; rfl) (by rfl)
    rw [kept, ← none_held, Function.update_eq_self]

theorem Gate.under_passage (x : Gate) (d : Standing) : (x.under d).passage = x.passage := by
  unfold Gate.under
  repeat' split
  all_goals rfl

@[simp] theorem applyStanding_staff (g : Nat) (s : State) : (applyStanding g s).staff = s.staff := by
  have under : (s.setGate g ((s.gateAt g).under (s.standing g))).staff = s.staff :=
    State.setGate_staff (Gate.under_passage ..) (by rw [Gate.under_config])
  rw [applyStanding_eq]
  exact under

@[simp] theorem applyStandings_staff (gs : List Nat) (s : State) : (applyStandings gs s).staff = s.staff := by
  induction gs generalizing s with
  | nil => rfl
  | cons g rest ih => exact (ih (applyStanding g s)).trans (applyStanding_staff g s)

theorem LoopAct.staff {s t : State} (act : LoopAct s t) : t.staff = s.staff := by
  cases act with
  | linked => rfl
  | turned => rfl
  | moved => exact applyStandings_staff _ _

/-- The acts of the loops leave the staff. -/
theorem LoopPath.staff {s t : State} (path : LoopPath s t) : t.staff = s.staff := by
  induction path with
  | refl => rfl
  | tail _ act ih => exact act.staff.trans ih

@[simp] theorem setMode_staff (g : Nat) (m : ControlMode) (s : State) : (setMode g m s).staff = s.staff :=
  (applyStanding_staff ..).trans (State.setGate_staff (by rfl) (by rfl))

theorem Gate.hingedRelease_frame (x : Gate) (cause : ReleaseCause) :
    x.hingedRelease cause = { x with
      hinged := (x.hingedRelease cause).hinged, releaseTimer := (x.hingedRelease cause).releaseTimer
      heldTimer := (x.hingedRelease cause).heldTimer } := by
  unfold Gate.hingedRelease
  split <;> rfl

@[simp] theorem untrackedRelease_staff (g : Nat) (s : State) : (untrackedRelease g s).staff = s.staff := by
  unfold untrackedRelease
  dsimp only
  split
  · exact State.setGate_staff (by rw [Gate.hingedRelease_frame]) (by rw [Gate.hingedRelease_frame])
  · split
    all_goals
      split
      · rfl
      · exact State.setGate_staff (by rfl) (by rfl)

@[simp] theorem contactOpens_staff (g : Nat) (s : State) : (contactOpens g s).staff = s.staff := by
  unfold contactOpens
  dsimp only
  split
  all_goals exact State.setGate_staff (s := s) (g := g) (by rfl) (by rfl)

@[simp] theorem contactCloses_staff (g : Nat) (s : State) : (contactCloses g s).staff = s.staff := by
  unfold contactCloses
  dsimp only
  split
  all_goals exact State.setGate_staff (s := s) (g := g) (by rfl) (by rfl)

/-! ## Passages resolved (R93, R94, R100, R105, R106, R112, R116) -/

theorem completeCommit_workers (g : Nat) (p : Passage) (entry : Option JournalOutcome) (ofPassage : Bool) (x : CommitWork) :
    (completeCommit g p entry ofPassage x).workers = replaceWorker (x.completed g p ofPassage) x.state.workers := by
  cases entry <;> rfl

/-- A commit puts the completed record into the table as it stood (R92). -/
theorem commitPunch_workers (g : Nat) (p : Passage) (entry : Option JournalOutcome) (ofPassage : Bool) (w : WorkerRecord) (s : State) :
    (commitPunch g p entry ofPassage w s).workers =
      replaceWorker ((commitWork g p entry.isNone ⟨s, w⟩).completed g p ofPassage) s.workers := by
  rw [commitPunch, completeCommit_workers, commitWork_frame]

theorem commitPunch_site (g : Nat) (p : Passage) (entry : Option JournalOutcome) (ofPassage : Bool) (w : WorkerRecord) (s : State) :
    (commitPunch g p entry ofPassage w s).site = s.site := by
  rw [commitPunch_frame]
  rfl

@[simp] theorem resolvePassage_site (g : Nat) (p : Passage) (cause : Resolution) (s : State) :
    (resolvePassage g p cause s).site = s.site := by
  rw [resolvePassage_frame]
  rfl

theorem completed_badge (g : Nat) (p : Passage) (unrecorded ofPassage : Bool) (x : CommitWork) :
    ((commitWork g p unrecorded x).completed g p ofPassage).badge = x.worker.badge := (commitWork_leads g p unrecorded x).badge

/-- What a passage resolved does to the table: the record of its badge resolved, every other left (R93). -/
theorem resolvePassage_follows (g : Nat) (p : Passage) (cause : Resolution) (s : State) :
    Follows (ResolvedFor p.badge) s.workers (resolvePassage g p cause s).workers := by
  have one : ∀ (w v : WorkerRecord), s.worker p.badge = some w → v.badge = w.badge → Resolved w v →
      Follows (ResolvedFor p.badge) s.workers (replaceWorker v s.workers) := by
    intro w v found badge acts
    obtain ⟨member, at_badge⟩ := mem_of_worker found
    refine .replace member badge ?_ fun x _ apart => ?_
    · rwa [ResolvedFor, if_pos at_badge]
    · rw [ResolvedFor, if_neg fun e => apart (e.trans at_badge.symm)]
  have absent : s.worker p.badge = none →
      Follows (ResolvedFor p.badge) s.workers s.workers := by
    intro none_found
    have apart : ∀ w ∈ s.workers, w.badge ≠ p.badge := by simpa [State.worker] using none_found
    exact ⟨rfl, fun v member => ⟨v, member, rfl, by rw [ResolvedFor, if_neg (apart v member)]⟩⟩
  have void : ∀ restart, Follows (ResolvedFor p.badge) s.workers
      (voidPassage g p restart s).workers := by
    intro restart
    unfold voidPassage
    dsimp only
    split
    · rename_i w found
      exact one w _ found rfl .voided
    · exact absent ‹_›
  have commit : ∀ outcome, Follows (ResolvedFor p.badge) s.workers
      (commitPassage g p outcome s).workers := by
    intro outcome
    unfold commitPassage
    split
    · rename_i w found
      rw [commitPunch_workers]
      exact one w _ found (completed_badge ..) (.committed s g p)
    · exact absent ‹_›
  unfold resolvePassage
  split
  · exact commit _
  · exact void _
  · exact void _
  · exact void _
  · exact commit _
  · exact void _

/-- A gate gives up its passage, and the passage is resolved (R93). -/
theorem staffPath_resolve {s : State} {g : Nat} {p : Passage} (held : (s.gateAt g).passage = some p) (cause : Resolution) :
    StaffPath s.staff (resolvePassage g p cause (s.setGate g (s.gateAt g).disarm)).staff := by
  let d := s.setGate g (s.gateAt g).disarm
  have follows := resolvePassage_follows g p cause d
  have e : (resolvePassage g p cause d).staff =
      { s.staff with
        workers := (resolvePassage g p cause d).workers, passage := Function.update s.staff.passage g none } := by
    have site := staff_of_site (t := resolvePassage g p cause d)
      (s := { d with workers := (resolvePassage g p cause d).workers }) (resolvePassage_site ..) rfl
    rw [site]
    have disarmed := s.disarm_staff g
    exact congrArg (fun u : Staff => { u with workers := (resolvePassage g p cause d).workers }) disarmed
  rw [e]
  exact .single (.resolved s.staff g p _ held follows)

theorem staffPath_endArming (g : Nat) (cause : Resolution) (s : State) : StaffPath s.staff (endArming g cause s).staff := by
  unfold endArming
  dsimp only
  split
  · exact staffPath_resolve ‹_› cause
  · rename_i free
    exact staffPath_of_eq (State.setGate_staff free.symm rfl)

theorem staffPath_lockdownPassage (g : Nat) (s : State) : StaffPath s.staff (lockdownPassage g s).staff := by
  unfold lockdownPassage
  split
  · split
    · exact staffPath_endArming ..
    · exact .refl
  · exact .refl

theorem staffPath_passagePulse (g : Nat) (d : Direction) (s : State) : StaffPath s.staff (passagePulse g d s).staff := by
  unfold passagePulse
  split
  · exact staffPath_endArming ..
  · split <;> exact .refl

theorem staffPath_gateFire (g : Nat) (s : State) : StaffPath s.staff (gateFire g s).staff := by
  unfold gateFire
  rw [applyStanding_staff]
  split
  · exact staffPath_endArming ..
  · exact .refl

/-- An act at each gate of a list. -/
theorem staffPath_foldl {act : State → Nat → State} (one : ∀ s g, StaffPath s.staff (act s g).staff) (gs : List Nat) :
    ∀ s : State, StaffPath s.staff (gs.foldl act s).staff := by
  induction gs with
  | nil => exact fun _ => .refl
  | cons g rest ih => exact fun s => (one s g).trans (ih (act s g))

/-! ## The second event (R1, R3, R44) -/

/-- The walk of auto-close: each record of the table as it was, or auto-closed from one as it was at the start (R44). -/
theorem autoClose_follows (now : Nat) (s : State) : Follows (Revised s.time.validity) s.workers (autoClose now s).workers := by
  have walk : ∀ (todo : List WorkerRecord), (∀ w ∈ todo, w ∈ s.workers) → ∀ u : State,
      Follows (Revised s.time.validity) s.workers u.workers →
      Follows (Revised s.time.validity) s.workers (todo.foldl (autoCloseOne now) u).workers := by
    intro todo
    induction todo with
    | nil => exact fun _ _ h => h
    | cons w rest ih =>
      intro members u ⟨badges, records⟩
      refine ih (fun x hx => members x (List.mem_cons_of_mem w hx)) _ ?_
      unfold autoCloseOne
      split
      · exact ⟨badges, records⟩
      · rename_i a attended
        split
        · rw [setWorker_workers, releaseFinalized_frame]
          refine ⟨(replaceWorker_badges ..).trans badges, fun v hv => ?_⟩
          obtain ⟨y, member, rfl⟩ := List.mem_map.mp hv
          split
          · exact ⟨w, members w List.mem_cons_self, autoCloseRecord_badge .., .overdue _ a attended⟩
          · exact records y member
        · exact ⟨badges, records⟩
  exact walk s.workers (fun _ h => h) s (.refl (fun _ => .same) _)

theorem staffPath_minuteEvent (s : State) : StaffPath s.staff (minuteEvent s).staff := by
  by_cases set : s.time.validity = .set
  · have e : (minuteEvent s).staff = ({ s with workers := (autoClose s.plantMinute s).workers } : State).staff := by
      refine staff_of_site (minuteEvent_site s) ?_
      simp only [minuteEvent, if_pos set]
    rw [e]
    exact .single (.revised s.staff _ (autoClose_follows _ s))
  · refine staffPath_of_eq (staff_of_site (minuteEvent_site s) ?_)
    simp only [minuteEvent, if_neg set]

theorem staffPath_noteMinute (before : Nat) (s : State) : StaffPath s.staff (noteMinute before s).staff := by
  unfold noteMinute
  dsimp only
  split
  · exact .refl
  · split
    · exact staffPath_minuteEvent { s with follower := { s.follower with minuteWindow := s.follower.window } }
    · exact .refl

@[simp] theorem gateSeconds_staff (s : State) : (gateSeconds s).staff = s.staff := by
  unfold gateSeconds
  split
  · exact staff_of_units (f := fun _ g => g.countDown) rfl rfl rfl (fun _ => rfl) fun _ => rfl
  · rfl

theorem staffPath_secondEvent (s : State) : StaffPath s.staff (secondEvent s).staff := by
  let counted : State := { s with time := s.time.secondEvent s.live }
  have same : counted.staff = s.staff := by
    simp only [State.staff, counted, Timebase.secondEvent_validity]
    rfl
  have noted := staffPath_noteMinute s.plantMinute counted
  have watched : (windowWatch (noteMinute s.plantMinute counted)).staff = (noteMinute s.plantMinute counted).staff :=
    staff_of_site (windowWatch_site _) (State.ledger_eq (windowWatch_ledger _)).2
  unfold secondEvent
  dsimp only
  rw [staff_of_site (backupSecond_site _) (State.ledger_eq (backupSecond_ledger _)).2, gateSeconds_staff, watched, ← same]
  exact noted

theorem staffPath_crystalPeriod (s : State) : StaffPath s.staff (crystalPeriod s).staff := by
  have divided : StaffPath s.staff (dividerPeriod s).staff := by
    unfold dividerPeriod
    split
    · exact staffPath_secondEvent s
    · exact .refl
  unfold crystalPeriod
  split
  · rw [staff_of_site (tickPeriod_site _) (State.ledger_eq (tickPeriod_ledger _)).2]
    exact divided
  · exact .refl

theorem staffPath_qualifyImpulse (l : ActiveLine) (s : State) : StaffPath s.staff (qualifyImpulse l s).staff := by
  have aligned : ∀ (f : Follower) (u : State), StaffPath u.staff (alignTo f u).staff := fun f u => by
    let v := followerEvent .align { f with windowFlag := true, missingRun := 0, wideRun := 0, state := .locked }
      { u with time := u.time.align }
    have same : v.staff = u.staff := by
      simp only [State.staff, v, followerEvent, queueReport_time, Timebase.align_validity]
      rfl
    rw [← same]
    exact staffPath_noteMinute u.plantMinute v
  unfold qualifyImpulse takeImpulse
  dsimp only
  repeat' split
  · exact .refl
  · exact .refl
  · exact aligned _ { s with follower := s.follower.hold l.line }
  · exact aligned _ { s with follower := s.follower.hold l.line }
  · exact .refl
  · exact .refl
  · exact staffPath_of_eq (staff_of_site (disciplineOut_site ..) (State.ledger_eq (disciplineOut_ledger ..)).2)

end Sys2Proof.Machine
end

section
/-! PROOFS. Every command as acts on the staff: the decisions, the starts, the requests of the worker table and of the gates, and the whole
dispatch. -/

namespace Sys2Proof.Machine

/-! ## Decisions (R82 to R89) -/

@[simp] theorem journalClaim_staff (s : State) : (journalClaim s).staff = s.staff := by
  rw [journalClaim_frame]
  rfl

theorem refusePunch_staff (g : Nat) (p : Passage) (reason : Denial) (see : Bool) (s : State) :
    (refusePunch g p reason see s).state.staff = s.staff := by
  unfold refusePunch
  dsimp only
  split
  · rw [journalDirect_frame]
    rfl
  · rfl

/-- A punch committed at once revises its record (R87, R88). -/
theorem staffPath_commitPunch {s : State} {w : WorkerRecord} (member : w ∈ s.workers) (set : s.time.validity = .set) (g : Nat) (p : Passage)
    (entry : Option JournalOutcome) : StaffPath s.staff (commitPunch g p entry false w s).staff := by
  have e : (commitPunch g p entry false w s).staff =
      (setWorker ((commitWork g p entry.isNone ⟨s, w⟩).completed g p false) s).staff :=
    staff_of_site (commitPunch_site ..) (commitPunch_workers ..)
  rw [e]
  exact staffPath_setWorker member (completed_badge ..) (.punched set s g p _)

/-- A claim leaves the record where it stood. -/
theorem mem_journalClaim {s : State} {w : WorkerRecord} (member : w ∈ s.workers) : w ∈ (journalClaim s).workers := by
  rwa [(State.ledger_eq (journalClaim_ledger s)).2]

theorem journalClaim_validity (s : State) : (journalClaim s).time.validity = s.time.validity := by
  rw [journalClaim_frame]

section
variable {s : State} {w : WorkerRecord} (member : w ∈ s.workers) (set : s.time.validity = .set)
include member set

theorem staffPath_commitNow (display g : Nat) (p : Passage) (entry : Option JournalOutcome) :
    StaffPath s.staff (commitNow display g p entry w s).state.staff ∧
      StaffPath s.staff (commitNow display g p entry w (journalClaim s)).state.staff := by
  refine ⟨staffPath_commitPunch member set g p entry, ?_⟩
  rw [← journalClaim_staff s]
  exact staffPath_commitPunch (mem_journalClaim member) ((journalClaim_validity s).trans set) g p entry

/-- A turnstile is one of the sixteen gates. -/
theorem staffPath_pend {g : Nat} {p : Passage} (badge : w.badge = p.badge) (idle : w.pendingGate = none)
    (turnstile : (s.gateAt g).config.kind = .turnstile) (free : (s.gateAt g).passage = none) :
    StaffPath s.staff (takePassage g p (setWorker { w with pendingGate := some g } s)).staff := by
  have isGate : g < 16 := by
    by_contra beyond
    rw [s.gateAt_beyond beyond] at turnstile
    exact GateKind.noConfusion turnstile
  have e : (takePassage g p (setWorker { w with pendingGate := some g } s)).staff =
      { s.staff with
        workers := replaceWorker { w with pendingGate := some g } s.workers
        passage := Function.update s.staff.passage g (some p) } :=
    State.setGate_staff_passage isGate (by rfl)
  rw [e]
  exact .single (.pended s.staff w g p member badge idle isGate free set)

theorem staffPath_acceptPunch (display : Nat) {g : Nat} {p : Passage} (badge : w.badge = p.badge) (goes : waits g w s = false) :
    StaffPath s.staff (acceptPunch display g p w s).state.staff := by
  obtain ⟨⟨⟨free, -⟩, -⟩, idle⟩ : (((s.gateAt g).passage = none ∧ (s.gateAt g).servesHost = false) ∧ s.heldByPartner g = false) ∧
      w.pendingGate = none := by simpa [waits] using goes
  have gates : ∀ h, (journalClaim s).gateAt h = s.gateAt h := fun h => by
    rw [journalClaim_frame]
    rfl
  have now := (staffPath_commitNow member set display g p (some .passed)).2
  unfold acceptPunch
  dsimp only
  split
  · rename_i turnstile
    split
    · exact now
    · rw [← journalClaim_staff s]
      refine staffPath_pend (mem_journalClaim member) ((journalClaim_validity s).trans set) badge idle ?_ ?_
      · rw [gates, turnstile]
      · rw [gates, free]
  · refine now.trans (staffPath_of_eq (State.setGate_staff ?_ ?_))
    all_goals rw [Gate.hingedRelease_frame]

theorem staffPath_fireExit (g : Nat) (p : Passage) : StaffPath s.staff (fireExit g p w s).state.staff := by
  unfold fireExit
  split
  · exact (staffPath_commitNow member set 4 g p (some .fireExit)).2
  · exact (staffPath_commitNow member set 5 g p none).1

theorem staffPath_exitPunch {g : Nat} {p : Passage} (badge : w.badge = p.badge) (goes : waits g w s = false) :
    StaffPath s.staff (exitPunch g p w s).state.staff := by
  unfold exitPunch
  split
  · exact staffPath_acceptPunch member set 3 badge goes
  · exact (staffPath_commitNow member set 5 g p none).1.trans (staffPath_of_eq (untrackedRelease_staff ..))

theorem staffPath_entryPunch {g : Nat} {p : Passage} (badge : w.badge = p.badge) (goes : waits g w s = false) :
    StaffPath s.staff (entryPunch g p w s).state.staff := by
  unfold entryPunch
  split
  · exact staffPath_of_eq (refusePunch_staff ..)
  · split
    · exact staffPath_acceptPunch member set _ badge goes
    · exact staffPath_of_eq (refusePunch_staff ..)

end

theorem staffPath_releaseUntimed {s : State} {w : WorkerRecord} (member : w ∈ s.workers) (unset : s.time.validity = .unset) (g : Nat) :
    StaffPath s.staff (releaseUntimed g w s).state.staff := by
  unfold releaseUntimed
  dsimp only
  rw [untrackedRelease_staff]
  exact staffPath_setWorker member (v := { w with presence := .outside, changed := true }) rfl (.untimed unset)

theorem staffPath_decidePunch (g : Nat) (p : Passage) (s : State) : StaffPath s.staff (decidePunch g p s).state.staff := by
  unfold decidePunch
  split
  · exact staffPath_of_eq (refusePunch_staff ..)
  · rename_i w found
    obtain ⟨member, badge⟩ := mem_of_worker found
    split
    · rename_i unset
      split
      · exact staffPath_of_eq (refusePunch_staff ..)
      · exact staffPath_releaseUntimed member unset g
    · rename_i timed
      have set : s.time.validity = .set := by
        cases h : s.time.validity
        · exact absurd h timed
        · rfl
      split
      · split
        · exact staffPath_of_eq (refusePunch_staff ..)
        · exact staffPath_fireExit member set g p
      · split
        · exact .refl
        · rename_i goes
          have goes' : waits g w s = false := by simpa using goes
          split
          · exact staffPath_entryPunch member set badge goes'
          · exact staffPath_exitPunch member set badge goes'

theorem staffPath_takePunch (s : State) : StaffPath s.staff (takePunch s).staff := by
  unfold takePunch
  split
  · exact .refl
  · rename_i l o _
    split
    · exact .refl
    · rename_i b _
      exact staffPath_decidePunch b.gate (o.passage l b.direction) { s with punch := ⟨some o, l⟩ }

/-! ## Starts (R165, R166) -/

/-- A restart void takes the passage of its gate away, where it holds one (R116, R125). -/
theorem restartVoid_passage (s : State) (g h : Nat) :
    ((restartVoid s g).gateAt h).passage = if h = g then none else (s.gateAt h).passage := by
  unfold restartVoid
  split
  · rename_i p held
    have isGate : g < 16 := by
      by_contra beyond
      rw [s.gateAt_beyond beyond] at held
      exact absurd held (by simp [Gate.cold])
    have gates := (State.site_eq (resolvePassage_site g p .restart (s.setGate g (s.gateAt g).disarm))).2.1
    have same : (resolvePassage g p .restart (s.setGate g (s.gateAt g).disarm)).gateAt h =
        (s.setGate g (s.gateAt g).disarm).gateAt h := congrArg (fun gates : Vector Gate 16 => gates.getD h Gate.cold) gates
    rw [same, State.gateAt_setGate]
    simp only [isGate, and_true]
    split
    · rfl
    · rfl
  · rename_i free
    split
    · rename_i here
      rw [here, free]
    · rfl

theorem staffPath_restartVoid (s : State) (g : Nat) : StaffPath s.staff (restartVoid s g).staff := by
  unfold restartVoid
  split
  · exact staffPath_resolve ‹_› .restart
  · exact .refl

/-- After the restart voids of a list of gates none of them holds a passage (R116). -/
theorem foldl_restartVoid_passage (gs : List Nat) : ∀ (s : State) (h : Nat), h ∈ gs ∨ (s.gateAt h).passage = none →
    ((gs.foldl restartVoid s).gateAt h).passage = none := by
  induction gs with
  | nil => exact fun s h free => free.resolve_left List.not_mem_nil
  | cons g rest ih =>
    intro s h free
    refine ih (restartVoid s g) h ?_
    rw [restartVoid_passage]
    obtain member | free := free
    · obtain rfl | later := List.mem_cons.mp member
      · exact .inr (if_pos rfl)
      · exact .inl later
    · right
      split
      · rfl
      · exact free

theorem Gate.begin_staff (x : Gate) (g : Nat) (v : InputLevels) :
    (x.begin g v).passage = none ∧ (x.begin g v).config = x.config := by
  unfold Gate.begin Gate.rest
  dsimp only
  split
  · exact ⟨rfl, rfl⟩
  · split <;> exact ⟨rfl, rfl⟩

theorem warmBegun_staff (s : State) (cause : StartCause) (duration : Nat) (v : InputLevels) :
    (s.warmBegun cause duration v).staff = s.staff := rfl

theorem staffPath_warmStart (cause : StartCause) (duration : Nat) (v : InputLevels) (s : State) :
    StaffPath s.staff (warmStart cause duration v s).staff := by
  have begun := warmBegun_staff s cause duration v
  have path := staffPath_foldl staffPath_restartVoid allGates (s.warmBegun cause duration v)
  have free := foldl_restartVoid_passage allGates (s.warmBegun cause duration v)
  have whole : warmStart cause duration v s =
      let r := readyIfDue (allGates.foldl restartVoid (s.warmBegun cause duration v))
      applyStandings allGates { r with
        loops := mapUnits (fun _ l => l.warm) r.loops, gates := mapUnits (fun g x => x.begin g v) r.gates } := rfl
  rw [whole, applyStandings_staff]
  generalize allGates.foldl restartVoid (s.warmBegun cause duration v) = voided at path free
  have free' : ∀ h, ((readyIfDue voided).gateAt h).passage = none := fun h => by
    rw [readyIfDue_frame]
    refine free h ?_
    by_cases isGate : h < 16
    · exact .inl (List.mem_range.mpr isGate)
    · exact .inr (congrArg Gate.passage (State.gateAt_beyond _ isGate))
  have ready : (readyIfDue voided).staff = voided.staff :=
    staff_of_site (readyIfDue_site _) (State.ledger_eq (readyIfDue_ledger _)).2
  have restarted := staff_of_units (s := readyIfDue voided) (t := { readyIfDue voided with
      loops := mapUnits (fun _ l => l.warm) (readyIfDue voided).loops
      gates := mapUnits (fun g x => x.begin g v) (readyIfDue voided).gates }) (f := fun g x => x.begin g v) rfl rfl rfl
    (fun g => (Gate.begin_staff ..).1.trans (free' g).symm) fun g => congrArg GateConfig.partner (Gate.begin_staff ..).2
  rw [← begun]
  exact path.trans (staffPath_of_eq (restarted.trans ready))

/-- A cold start leaves no record, no passage and no partner (R53, R115). -/
theorem coldStart_staff (cause : StartCause) (v : InputLevels) (s : State) :
    (coldStart cause v s).staff = ⟨.unset, [], fun _ => none, fun _ => none⟩ := by
  have cold : ∀ h, State.reset.gateAt h = Gate.cold := fun h => by
    by_cases isGate : h < 16
    · simp [State.gateAt, State.reset, Vector.getD, isGate]
    · exact State.gateAt_beyond _ isGate
  have begun : (coldStart cause v s).staff = State.reset.staff := staff_of_units (s := State.reset)
    (f := fun g x => x.begin g v) rfl rfl rfl
    (fun g => by rw [(Gate.begin_staff ..).1, cold]; rfl) fun g => congrArg GateConfig.partner (Gate.begin_staff ..).2
  rw [begun]
  simp only [State.staff, cold]
  rfl

theorem staffPath_coldStart (cause : StartCause) (v : InputLevels) (s : State) :
    StaffPath s.staff (coldStart cause v s).staff := by
  rw [coldStart_staff]
  exact .single (.blank _)

theorem staffPath_restoreStart (v : InputLevels) (s : State) : StaffPath s.staff (restoreStart v s).staff := by
  unfold restoreStart
  split
  · exact staffPath_warmStart ..
  · exact staffPath_coldStart ..

theorem staffPath_startAfter (kind : Nat) (v : InputLevels) (s : State) : StaffPath s.staff (startAfter kind v s).staff := by
  unfold startAfter
  split
  · exact staffPath_warmStart ..
  · split
    · exact staffPath_coldStart ..
    · exact .refl

/-! ## Requests of the worker table (R48, R50 to R52, R141, R149) -/

/-- An outcome whose next state is led to by acts on the staff of `s`. -/
abbrev LeadsStaff (s : State) (o : Host.Outcome State Fault Refusal) : Prop := Leaves (fun t => StaffPath s.staff t.staff) o

theorem leadsStaff_serve {f : State → State × Reply} {s : State} (k tag : Nat) (acts : StaffPath s.staff (f s).1.staff) :
    LeadsStaff s (serve k tag f s) :=
  leaves_serve_of_linked k tag (fun _ _ path => path) .refl acts

theorem leadsStaff_whileLive {f : State → State} {s : State} (acts : StaffPath s.staff (f s).staff) : LeadsStaff s (whileLive f s) :=
  leaves_whileLive .refl acts

theorem workerFieldsValid_badge {f : WorkerFields} {status : WorkerStatus} (valid : workerFieldsValid f = some status) :
    isBadge f.badge = true ∧ withinOpt 1 f.crew 8 = true := by
  unfold workerFieldsValid at valid
  split at valid
  · rename_i inRange
    simp only [Bool.and_eq_true] at inRange
    obtain ⟨⟨⟨badge, -⟩, crew⟩, -⟩ := inRange
    exact ⟨badge, crew⟩
  · cases valid

theorem execWorkerPut_staff (tag : Nat) (f : WorkerFields) (s : State) : LeadsStaff s (execWorkerPut tag f s) := by
  unfold execWorkerPut
  refine leadsStaff_serve _ _ ?_
  split
  · exact .refl
  · rename_i status valid
    split
    · rename_i w found
      obtain ⟨member, badge⟩ := mem_of_worker found
      exact staffPath_setWorker member (v := w.withFields f status) badge.symm (.put f status valid)
    · rename_i none_found
      split
      · rename_i room
        have absent : ∀ w ∈ s.workers, w.badge ≠ f.badge := by simpa [State.worker] using none_found
        exact .single (.installed s.staff f status valid absent room)
      · exact .refl

theorem execWorkerRemove_staff (tag badge : Nat) (s : State) : LeadsStaff s (execWorkerRemove tag badge s) := by
  unfold execWorkerRemove
  refine leadsStaff_serve _ _ ?_
  split
  · exact .refl
  · split
    · exact .refl
    · rename_i w found
      obtain ⟨member, rfl⟩ := mem_of_worker found
      split
      · exact .refl
      · rename_i free
        obtain ⟨-, idle⟩ : w.attendance = none ∧ w.pendingGate = none := by simpa using free
        split
        · exact .refl
        · exact .single (.removed s.staff w member idle)

theorem execWorkerPresence_staff (tag badge presence : Nat) (s : State) : LeadsStaff s (execWorkerPresence tag badge presence s) := by
  unfold execWorkerPresence
  refine leadsStaff_serve _ _ ?_
  split
  · split
    · exact .refl
    · rename_i p _ _ _ w found
      split
      · exact .refl
      · rename_i free
        obtain ⟨absent, -⟩ : w.attendance = none ∧ w.pendingGate = none := by simpa using free
        exact staffPath_setWorker (mem_of_worker found).1 (v := { w with presence := p, changed := true }) rfl (.seen p absent)
  · exact .refl

theorem execCollectChanged_staff (tag cursor k : Nat) (s : State) : LeadsStaff s (execCollectChanged tag cursor k s) := by
  unfold execCollectChanged
  refine leadsStaff_serve _ _ ?_
  split
  · exact .refl
  · refine staffPath_map rfl rfl (fun w _ => ?_) fun w _ => ?_
    · split <;> rfl
    · split
      · exact .collected
      · exact .same

theorem markStepped_badge (w : WorkerRecord) : (markStepped w).badge = w.badge := by
  unfold markStepped
  split
  · rfl
  · exact raise_badge ..

theorem execClockSet_staff (tag day second : Nat) (s : State) : LeadsStaff s (execClockSet tag day second s) := by
  unfold execClockSet
  refine leadsStaff_serve _ _ ?_
  split
  · exact .refl
  · dsimp only [okay]
    let timed : State := { s with
      time := { { s.time with day := day, second := second }.restart with validity := .set }
      follower := { s.follower with minuteWindow := s.follower.window } }
    have set : StaffPath s.staff timed.staff := .single (.timed s.staff)
    have stepped : StaffPath timed.staff (timeStep s.plantSecond timed).staff := by
      unfold timeStep
      dsimp only
      split
      · exact staffPath_map (s := timed) rfl rfl (fun w _ => markStepped_badge w) fun w _ => .stepped
      · exact .refl
    refine (set.trans stepped).trans (staffPath_of_eq ?_)
    exact staff_of_site (followerClockSet_site _) (State.ledger_eq (followerClockSet_ledger _)).2

theorem execPeriodClose_staff (tag number : Nat) (s : State) : LeadsStaff s (execPeriodClose tag number s) := by
  unfold execPeriodClose
  refine leadsStaff_serve _ _ ?_
  repeat' split
  · exact .refl
  · exact .refl
  · exact .refl
  · have closed : StaffPath s.staff (closePeriod number s).staff :=
      staffPath_map rfl rfl (fun _ _ => rfl) fun w _ => .closed s.plantMinute
    exact closed.trans (staffPath_of_eq (staff_of_site (readyIfDue_site _) (State.ledger_eq (readyIfDue_ledger _)).2))

theorem execCloseRelease_staff (tag : Nat) (s : State) : LeadsStaff s (execCloseRelease tag s) := by
  unfold execCloseRelease
  refine leadsStaff_serve _ _ ?_
  split
  · exact .refl
  · exact staffPath_map (f := fun w => { w with closing := Bank.empty }) rfl rfl (fun _ _ => rfl) fun w _ => .released

/-! ## Gates (R96, R100, R101, R105, R106, R108, R111, R112) -/

theorem gateConfigOf_partner {g : Nat} {f : GateFields} {c : GateConfig} (valid : gateConfigOf g f = some c) :
    ∀ q ∈ c.partner, q < 16 ∧ q ≠ g := by
  unfold gateConfigOf at valid
  split at valid
  · split at valid
    · rename_i inRange
      obtain rfl := Option.some.inj valid
      intro q named
      obtain ⟨⟨-, high⟩, other⟩ : (_ ∧ withinOpt 0 f.partner 15 = true) ∧ (f.partner != some g) = true := by
        simpa only [Bool.and_eq_true] using inRange
      rw [show f.partner = some q from named] at high other
      refine ⟨?_, by simpa using other⟩
      have := (within_iff 0 q 15).mp high
      omega
    · cases valid
  · cases valid

/-- What becomes of each gate where `g` is given the partner `p` (R96). -/
theorem repartner_gate (g : Nat) (p : Option Nat) (s : State) {h : Nat} (isGate : h < 16) :
    ({ s with gates := repartner g p s.gates } : State).gateAt h =
      { s.gateAt h with config := { (s.gateAt h).config with
        partner := partnered g p (fun i => (s.gateAt i).config.partner) h } } := by
  have made : repartner g p s.gates = mapUnits (fun i (x : Gate) =>
      { x with config := { x.config with partner := partnered g p (fun _ => x.config.partner) i } }) s.gates := rfl
  exact State.gateAt_of_units (t := { s with gates := repartner g p s.gates }) made isGate

theorem Gate.restartKind_frame (x : Gate) (in0 in1 : Bool) :
    (x.restartKind in0 in1).passage = none ∧ (x.restartKind in0 in1).config = x.config := by
  unfold Gate.restartKind Gate.rest
  dsimp only
  split
  · exact ⟨rfl, rfl⟩
  · split <;> exact ⟨rfl, rfl⟩

/-- The CLEARED report touches the link alone (R110). -/
theorem clearAlarm_frame (g : Nat) (x : Gate) (s : State) : clearAlarm g x s = { s with link := (clearAlarm g x s).link } := by
  unfold clearAlarm
  split <;> rfl

/-- The partnerships of an accepted GATE_CONFIG (R96). -/
theorem repartner_staff {g : Nat} {c : GateConfig} (isGate : g < 16) (other : ∀ q ∈ c.partner, q < 16 ∧ q ≠ g) (s : State) :
    ({ s with gates := repartner g c.partner s.gates } : State).staff =
      { s.staff with partner := partnered g c.partner s.staff.partner } := by
  simp only [State.staff, Staff.mk.injEq, true_and]
  refine ⟨funext fun h => ?_, funext fun h => ?_⟩
  · by_cases isGate' : h < 16
    · rw [repartner_gate g c.partner s isGate']
    · rw [State.gateAt_beyond _ isGate', s.gateAt_beyond isGate']
  · by_cases isGate' : h < 16
    · rw [repartner_gate g c.partner s isGate']
    · have apart : h ≠ g := fun e => isGate' (e ▸ isGate)
      have apart' : ¬ some h = c.partner := fun e => isGate' (other h e.symm).1
      rw [State.gateAt_beyond _ isGate']
      simp [partnered, apart, apart', s.gateAt_beyond isGate', Gate.cold, GateConfig.cold]

/-- A gate without a passage, its partnership already in force, takes its configuration (R96). -/
theorem reconfigured_staff (old : Gate) {g : Nat} {c : GateConfig} (in0 in1 : Bool) {u : State} (free : (u.gateAt g).passage = none)
    (partner : (u.gateAt g).config.partner = c.partner) :
    (applyStanding g (if old.config.kind = c.kind then u.setGate g { u.gateAt g with config := c }
      else (clearAlarm g old u).setGate g (({ u.gateAt g with config := c } : Gate).restartKind in0 in1))).staff = u.staff := by
  rw [applyStanding_staff]
  split
  · exact State.setGate_staff (by rfl) partner.symm
  · have frame := Gate.restartKind_frame { u.gateAt g with config := c } in0 in1
    rw [clearAlarm_frame]
    refine State.setGate_staff (s := { u with link := (clearAlarm g old u).link }) ?_ ?_
    · rw [frame.1]
      exact free.symm
    · rw [frame.2]
      exact partner.symm

theorem staffPath_configureGate {g : Nat} {c : GateConfig} (isGate : g < 16) (other : ∀ q ∈ c.partner, q < 16 ∧ q ≠ g) (in0 in1 : Bool)
    {s : State} (free : (s.gateAt g).passage = none) : StaffPath s.staff (configureGate g c in0 in1 s).staff := by
  have at_g := repartner_gate g c.partner s isGate
  have paired := repartner_staff isGate other s
  have configured := reconfigured_staff (s.gateAt g) (g := g) (c := c) in0 in1
    (u := { s with gates := repartner g c.partner s.gates }) (by rw [at_g, free]) (by rw [at_g]; exact if_pos rfl)
  have path : StaffPath s.staff { s.staff with partner := partnered g c.partner s.staff.partner } :=
    .single (.partnered s.staff g c.partner isGate other)
  rw [← paired, ← configured] at path
  exact path

theorem execGateConfig_staff (tag gate : Nat) (fields : GateFields) (in0 in1 : Bool) (s : State) :
    LeadsStaff s (execGateConfig tag gate fields in0 in1 s) := by
  unfold execGateConfig
  refine leadsStaff_serve _ _ ?_
  split
  · rename_i c inRange valid
    split
    · exact .refl
    · rename_i free
      have isGate := (within_iff 0 gate 15).mp inRange
      exact staffPath_configureGate (by omega) (gateConfigOf_partner valid) in0 in1 (by simpa using free)
  · exact .refl

theorem leadsStaff_orderMode {gate : Nat} {m : ControlMode} {act : State → State} (tag : Nat) (s : State)
    (acts : ∀ u : State, StaffPath u.staff (act u).staff) : LeadsStaff s (serve 0x41 tag (orderMode gate m act) s) := by
  refine leadsStaff_serve _ _ ?_
  unfold orderMode
  split
  · exact .refl
  · split
    · exact .refl
    · have moded := acts (setMode gate m s)
      rw [setMode_staff] at moded
      exact moded

theorem execGateCommandRelease_staff (tag gate direction : Nat) (s : State) :
    LeadsStaff s (execGateCommandRelease tag gate direction s) := by
  unfold execGateCommandRelease
  refine leadsStaff_serve _ _ ?_
  split
  · split
    · exact .refl
    · split
      · exact .refl
      · refine staffPath_of_eq (State.setGate_staff ?_ ?_)
        · split
          · rfl
          · rw [Gate.hingedRelease_frame]
        · split
          · rfl
          · rw [Gate.hingedRelease_frame]
  · exact .refl

theorem execPassagePulse_staff (gate : Fin 16) (input : ActiveInput) (s : State) : LeadsStaff s (execPassagePulse gate input s) := by
  unfold execPassagePulse
  refine leadsStaff_whileLive ?_
  dsimp only
  split
  · exact .refl
  · have held : (s.setGate gate ((s.gateAt gate).holdPulse input.direction)).staff = s.staff := by
      cases input.direction <;> exact State.setGate_staff (by rfl) (by rfl)
    rw [← held]
    exact staffPath_passagePulse ..

theorem staffPath_bells {s u : State} (b : Bells) (path : StaffPath s.staff u.staff) :
    StaffPath s.staff ({ u with bells := b } : State).staff := path

theorem execFireTaken_staff (s : State) : LeadsStaff s (execFireTaken s) := by
  unfold execFireTaken
  refine leadsStaff_whileLive ?_
  split
  · exact .refl
  · have path := staffPath_foldl (fun u g => staffPath_gateFire g u) allGates
      (queueReport (.fireEvent true s.plantSecond) { s with fire := true })
    exact staffPath_bells _ path

theorem execFireCleared_staff (s : State) : LeadsStaff s (execFireCleared s) := by
  unfold execFireCleared
  refine leadsStaff_whileLive ?_
  split
  · exact .refl
  · have path := staffPath_of_eq (applyStandings_staff allGates (queueReport (.fireEvent false s.plantSecond) { s with fire := false }))
    exact staffPath_bells _ path

theorem execLoopConfig_staff (tag loop : Nat) (fields : LoopFields) (s : State) : LeadsStaff s (execLoopConfig tag loop fields s) := by
  unfold execLoopConfig
  refine leadsStaff_serve _ _ ?_
  repeat' split
  · exact .refl
  · exact .refl
  · exact .refl
  · exact staffPath_of_eq (applyStandings_staff _ _)

/-! ## Every command -/

/-- Every command is a sequence of acts on the staff. -/
theorem exec_staff (i : Instr) (s : State) : LeadsStaff s (exec i s) := by
  by_cases turns : turnsLoop i = true
  · exact fun t next => staffPath_of_eq (exec_loopPath turns s t next).staff
  by_cases still : writesSite i = false ∧ writesLedger i = false
  · exact fun t next => staffPath_of_eq
      (staff_of_site (exec_site still.1 s t next) (State.ledger_eq (exec_ledger still.2 s t next)).2)
  cases i with
  | clockSet tag day second => exact execClockSet_staff tag day second s
  | shiftDefine | shiftDelete | crewDefine | tallyConfig | rateSet =>
    simp only [exec, execShiftDefine, execShiftDelete, execCrewDefine, execTallyConfig, execRateSet]
    refine leadsStaff_serve _ _ ?_
    repeat' split
    all_goals exact .refl
  | workerPut tag f => exact execWorkerPut_staff tag f s
  | workerRemove tag badge => exact execWorkerRemove_staff tag badge s
  | workerPresence tag badge presence => exact execWorkerPresence_staff tag badge presence s
  | collectChanged tag cursor k => exact execCollectChanged_staff tag cursor k s
  | loopConfig tag loop fields => exact execLoopConfig_staff tag loop fields s
  | gateConfig tag gate fields in0 in1 => exact execGateConfig_staff tag gate fields in0 in1 s
  | gateCommandNormal tag gate => exact leadsStaff_orderMode tag s fun _ => .refl
  | gateCommandFree tag gate => exact leadsStaff_orderMode tag s fun _ => .refl
  | gateCommandLockdown tag gate => exact leadsStaff_orderMode tag s (staffPath_lockdownPassage gate)
  | gateCommandRelease tag gate direction => exact execGateCommandRelease_staff tag gate direction s
  | periodClose tag number => exact execPeriodClose_staff tag number s
  | closeRelease tag => exact execCloseRelease_staff tag s
  | replySent levels =>
    simp only [exec, execReplySent]
    refine leadsStaff_whileLive ?_
    split
    · exact .refl
    · split
      · exact staffPath_startAfter _ levels { s with link := { s.link with held := none } }
      · exact .refl
  | secondEvent =>
    refine leaves_next ?_
    split
    · exact staffPath_secondEvent s
    · exact .refl
  | impulseEvent line => exact leadsStaff_whileLive (staffPath_qualifyImpulse line s)
  | punchTaken =>
    simp only [exec, execPunchTaken]
    refine leadsStaff_whileLive ?_
    split
    · exact .refl
    · exact staffPath_takePunch s
  | passagePulse gate input => exact execPassagePulse_staff gate input s
  | turnstileReleaseExpired gate =>
    simp only [exec, execTurnstileReleaseExpired]
    refine leadsStaff_whileLive ?_
    split
    · exact staffPath_endArming ..
    · exact .refl
  | hingedReleaseExpired gate | heldOpenExpired gate =>
    simp only [exec, execHingedReleaseExpired, execHeldOpenExpired]
    refine leadsStaff_whileLive ?_
    split
    · exact staffPath_of_eq (State.setGate_staff (s := s) (g := gate) (by rfl) (by rfl))
    · exact .refl
  | contactOpens gate =>
    simp only [exec, execContactOpens]
    refine leadsStaff_whileLive ?_
    split
    · exact staffPath_of_eq (contactOpens_staff ..)
    · exact .refl
  | contactCloses gate =>
    simp only [exec, execContactCloses]
    refine leadsStaff_whileLive ?_
    split
    · exact staffPath_of_eq (contactCloses_staff ..)
    · exact .refl
  | fireTaken => exact execFireTaken_staff s
  | fireCleared => exact execFireCleared_staff s
  | mainLoss vbakLow =>
    refine leaves_next ?_
    split <;> exact .refl
  | resetnLow | firstPower => exact leaves_next .refl
  | mainRestored levels =>
    refine leaves_next ?_
    split
    · exact .refl
    · dsimp only
      split
      · exact staffPath_restoreStart levels { s with supply := { s.supply with state := .run } }
      · exact .refl
  | resetnReleased levels =>
    refine leaves_next ?_
    split
    · exact .refl
    · let released : State := { s with supply := { s.supply with resetnHigh := true } }
      dsimp only
      split
      · exact .refl
      · split
        · exact staffPath_restoreStart levels released
        · exact staffPath_warmStart .resetn 0 levels released
  | _ => simp [turnsLoop, writesSite, writesLedger] at turns still

/-- Every step is a sequence of acts on the staff. -/
theorem step_staff {s t : State} (next : step s = .next t) : StaffPath s.staff t.staff := by
  unfold step at next
  split at next
  · obtain rfl := Host.Outcome.next.inj next
    exact staffPath_crystalPeriod s
  · have path := exec_staff _ _ t next
    exact path

end Sys2Proof.Machine
end

section
/-! PROOFS. The laws of one worker record (R33, R35, R38, R138) under the acts of the part: what a raise, a finalization, an auto-close and a
commit leave of its banks and of its attendance. -/

namespace Sys2Proof.Machine

/-! ## What the work of a commit never touches -/

/-- The badge, the crew and the pending gate of a record. -/
def WorkerRecord.holder (w : WorkerRecord) : Nat × Option Nat × Option Nat := (w.badge, w.crew, w.pendingGate)

theorem WorkerRecord.holder_eq {v w : WorkerRecord} (same : v.holder = w.holder) :
    v.badge = w.badge ∧ v.crew = w.crew ∧ v.pendingGate = w.pendingGate := by
  simpa [WorkerRecord.holder] using same

@[simp] theorem raise_holder (a : Anomaly) (owner : Option BankTag) (w : WorkerRecord) : (raise a owner w).holder = w.holder := by
  rw [raise_frame]
  rfl

@[simp] theorem raiseIf_holder (c : Bool) (a : Anomaly) (owner : Option BankTag) (w : WorkerRecord) :
    (raiseIf c a owner w).holder = w.holder := by
  cases c
  · rfl
  · exact raise_holder a owner w

@[simp] theorem finalizeRecord_holder (c : Calendar) (a : Attendance) (w : WorkerRecord) : (finalizeRecord c a w).holder = w.holder := by
  rw [finalizeRecord_frame]
  rfl

@[simp] theorem autoCloseRecord_holder (c : Calendar) (a : Attendance) (w : WorkerRecord) : (autoCloseRecord c a w).holder = w.holder := by
  rw [autoCloseRecord_frame]
  rfl

@[simp] theorem openEntry_holder (tm : Nat) (soft : Bool) (x : CommitWork) : (openEntry tm soft x).worker.holder = x.worker.holder := by
  unfold openEntry
  split
  · exact raiseIf_holder ..
  · split
    · exact raiseIf_holder ..
    · exact (raiseIf_holder ..).trans (raise_holder ..)

@[simp] theorem finalizeLate_holder (a : Attendance) (x : CommitWork) : (finalizeLate a x).worker.holder = x.worker.holder := by
  unfold finalizeLate
  split
  · exact (finalizeRecord_holder ..).trans (raise_holder ..)
  · exact finalizeRecord_holder ..

@[simp] theorem reenter_holder (tm : Nat) (a : Attendance) (w : WorkerRecord) : (reenter tm a w).holder = w.holder := by
  unfold reenter
  split
  · rfl
  · exact raise_holder ..

theorem commitEntry_holder (tm : Nat) (softMode : Bool) (x : CommitWork) :
    (commitEntry tm softMode x).worker.holder = x.worker.holder := by
  unfold commitEntry
  cases x.worker.attendance with
  | none => exact openEntry_holder ..
  | some a =>
    dsimp only
    split
    · exact (openEntry_holder ..).trans (finalizeLate_holder ..)
    · split
      · exact raiseIf_holder ..
      · exact reenter_holder ..

theorem commitExit_holder (tm : Nat) (unrecorded : Bool) (x : CommitWork) :
    (commitExit tm unrecorded x).worker.holder = x.worker.holder := by
  unfold commitExit
  cases x.worker.attendance with
  | none => exact (raiseIf_holder ..).trans (raiseIf_holder ..)
  | some a =>
    dsimp only
    split
    · split
      · exact (finalizeRecord_holder ..).trans (raiseIf_holder ..)
      · exact raiseIf_holder ..
    · exact (raiseIf_holder ..).trans (raise_holder ..)

/-- The work of a commit keeps the badge, the crew and the pending gate (R90, R91). -/
theorem commitWork_holder (g : Nat) (p : Passage) (unrecorded : Bool) (x : CommitWork) :
    (commitWork g p unrecorded x).worker.holder = x.worker.holder := by
  unfold commitWork
  cases p.direction with
  | inward => exact commitEntry_holder ..
  | outward => exact commitExit_holder ..

/-! ## Banks (R137, R138) -/

/-- The two banks within their limits, and the crews that they and the attendance carry crews of the table (R138). -/
def WorkerRecord.BanksFit (w : WorkerRecord) : Prop :=
  w.current.Bounded ∧ w.closing.Bounded ∧ CrewOk w.crew ∧ CrewOk (w.attendance.bind (·.crew))

theorem Bank.Bounded.empty : Bank.empty.Bounded := by simp [Bank.empty, Bank.Bounded, CrewOk]

/-- An anomaly is no total of the bank. -/
theorem Bank.Bounded.addAnomaly {b : Bank} (h : b.Bounded) (a : Anomaly) : (b.addAnomaly a).Bounded := h

/-- A credit stops at each limit (R138). -/
theorem Bank.Bounded.credit {b : Bank} (h : b.Bounded) (t : TallyResult) {crew : Option Nat} (ok : CrewOk crew) :
    (b.credit t crew).Bounded := by
  refine ⟨fun c named => ?_, Nat.min_le_left .., Nat.min_le_left .., Nat.min_le_left .., Nat.min_le_left .., Nat.min_le_left ..⟩
  obtain own | ⟨-, given⟩ := Option.or_eq_some_iff.mp named
  · exact h.1 c own
  · exact ok c given

theorem WorkerRecord.BanksFit.onBank {w : WorkerRecord} (h : w.BanksFit) {f : Bank → Bank} (keeps : ∀ b : Bank, b.Bounded → (f b).Bounded)
    (tag : BankTag) : (w.onBank tag f).BanksFit := by
  obtain ⟨current, closing, rest⟩ := h
  cases tag
  · exact ⟨keeps _ current, closing, rest⟩
  · exact ⟨current, keeps _ closing, rest⟩

theorem WorkerRecord.BanksFit.raise {w : WorkerRecord} (h : w.BanksFit) (a : Anomaly) (owner : Option BankTag) :
    (raise a owner w).BanksFit := by
  cases owner with
  | none => exact h
  | some tag =>
    have marked : ({ w with pendingSet := w.pendingSet.add a, changed := true } : WorkerRecord).BanksFit := h
    exact marked.onBank (fun b bounded => bounded.addAnomaly a) tag

theorem WorkerRecord.BanksFit.raiseIf {w : WorkerRecord} (h : w.BanksFit) (c : Bool) (a : Anomaly) (owner : Option BankTag) :
    (raiseIf c a owner w).BanksFit := by
  cases c
  · exact h
  · exact h.raise a owner

theorem WorkerRecord.BanksFit.finalize {w : WorkerRecord} (h : w.BanksFit) (c : Calendar) {a : Attendance} (ok : CrewOk a.crew) :
    (finalizeRecord c a w).BanksFit := by
  have credited : (creditAttendance c a w).BanksFit := by
    obtain ⟨cut, parts⟩ := creditAttendance_parts c a w
    rw [parts]
    have credit := (h.raiseIf (tally c w.grade a).stepped .timeStepped (some a.tag)).onBank
      (fun b bounded => bounded.credit (tally c w.grade a) ok) a.tag
    exact WorkerRecord.BanksFit.raiseIf (w := WorkerRecord.credited _ _ _ _) credit _ _ _
  obtain ⟨current, closing, crew, -⟩ := credited
  exact ⟨current, closing, crew, by simp [finalizeRecord, CrewOk]⟩

theorem WorkerRecord.BanksFit.autoClose {w : WorkerRecord} (h : w.BanksFit) (c : Calendar) {a : Attendance} (ok : CrewOk a.crew) :
    (autoCloseRecord c a w).BanksFit := by
  unfold autoCloseRecord
  split
  · have unseen : ({ w with presence := .unknown } : WorkerRecord).BanksFit := h
    exact (unseen.raise .missedOut (some a.tag)).finalize c (a := a.closeUnseen) ok
  · exact h.finalize c ok

theorem WorkerRecord.BanksFit.crew_of_attendance {w : WorkerRecord} (h : w.BanksFit) {a : Attendance} (attended : w.attendance = some a) :
    CrewOk a.crew := by
  obtain ⟨-, -, -, ok⟩ := h
  rwa [attended] at ok

/-- The record with an attendance of a crew of the table. -/
theorem WorkerRecord.BanksFit.attending {w : WorkerRecord} (h : w.BanksFit) {a : Attendance} (ok : CrewOk a.crew) :
    ({ w with attendance := some a } : WorkerRecord).BanksFit := by
  obtain ⟨current, closing, crew, -⟩ := h
  exact ⟨current, closing, crew, ok⟩

theorem WorkerRecord.BanksFit.openEntry {x : CommitWork} (h : x.worker.BanksFit) (tm : Nat) (soft : Bool) :
    (openEntry tm soft x).worker.BanksFit := by
  have opening : ∀ kind start, (x.worker.opening kind start tm).BanksFit := fun _ _ => h.attending h.2.2.1
  unfold Machine.openEntry
  split
  · exact (opening ..).raiseIf ..
  · split
    · exact (opening ..).raiseIf ..
    · exact (h.raise ..).raiseIf ..

theorem WorkerRecord.BanksFit.finalizeLate {x : CommitWork} (h : x.worker.BanksFit) {a : Attendance} (ok : CrewOk a.crew) :
    (finalizeLate a x).worker.BanksFit := by
  unfold Machine.finalizeLate
  split
  · exact (h.raise ..).finalize _ (a := a.closeUnseen) ok
  · exact h.finalize _ ok

theorem WorkerRecord.BanksFit.reenter {w : WorkerRecord} (h : w.BanksFit) (tm : Nat) {a : Attendance} (ok : CrewOk a.crew) :
    (reenter tm a w).BanksFit := by
  unfold Machine.reenter
  split
  · exact h.attending (a := a.append tm) ok
  · exact (h.attending (a := a.reopenLast) ok).raise ..

/-- Presence is no matter of the banks. -/
theorem WorkerRecord.BanksFit.withPresence {w : WorkerRecord} (h : w.BanksFit) (presence : Presence) :
    ({ w with presence := presence } : WorkerRecord).BanksFit := h

theorem WorkerRecord.BanksFit.commitEntry {x : CommitWork} (h : x.worker.BanksFit) (tm : Nat) (softMode : Bool) :
    (commitEntry tm softMode x).worker.BanksFit := by
  unfold Machine.commitEntry
  refine WorkerRecord.BanksFit.withPresence ?_ .inside
  cases attended : x.worker.attendance with
  | none => exact h.openEntry ..
  | some a =>
    have ok := h.crew_of_attendance attended
    dsimp only
    split
    · exact (h.finalizeLate ok).openEntry ..
    · split
      · exact h.raiseIf ..
      · exact h.reenter tm ok

theorem WorkerRecord.BanksFit.commitExit {x : CommitWork} (h : x.worker.BanksFit) (tm : Nat) (unrecorded : Bool) :
    (commitExit tm unrecorded x).worker.BanksFit := by
  unfold Machine.commitExit
  refine WorkerRecord.BanksFit.withPresence ?_ .outside
  cases attended : x.worker.attendance with
  | none => exact (h.raiseIf ..).raiseIf ..
  | some a =>
    have ok := h.crew_of_attendance attended
    dsimp only
    split
    · have closed := (h.attending (a := a.closeAt tm) ok).raiseIf unrecorded .unrecordedExit (some a.tag)
      split
      · exact closed.finalize _ (a := a.closeAt tm) ok
      · exact closed
    · exact (h.raise ..).raiseIf ..

theorem WorkerRecord.BanksFit.completed {w : WorkerRecord} (h : w.BanksFit) (s : State) (g : Nat) (p : Passage)
    (unrecorded ofPassage : Bool) : ((commitWork g p unrecorded ⟨s, w⟩).completed g p ofPassage).BanksFit := by
  have work : (commitWork g p unrecorded ⟨s, w⟩).worker.BanksFit := by
    unfold commitWork
    cases p.direction with
    | inward => exact WorkerRecord.BanksFit.commitEntry (x := ⟨s, w⟩) h ..
    | outward => exact WorkerRecord.BanksFit.commitExit (x := ⟨s, w⟩) h ..
  exact work

/-- A crew that WORKER_PUT accepts is a crew of the table (R48). -/
theorem crewOk_of_valid {f : WorkerFields} {status : WorkerStatus} (valid : workerFieldsValid f = some status) : CrewOk f.crew := by
  intro c named
  have inRange := (workerFieldsValid_badge valid).2
  rw [Option.mem_def.mp named] at inRange
  exact (within_iff 1 c 8).mp inRange

/-- Every act on a record keeps its banks within their limits (R138). -/
theorem Revised.banksFit {v : Validity} {w x : WorkerRecord} (act : Revised v w x) (h : w.BanksFit) : x.BanksFit := by
  obtain ⟨current, closing, crew, attendance⟩ := id h
  cases act with
  | same => exact h
  | collected => exact h
  | stepped =>
    unfold markStepped
    split
    · exact h
    · exact h.raise ..
  | closed boundary =>
    refine ⟨Bank.Bounded.empty, current, crew, ?_⟩
    have kept : ∀ a : Attendance, (a.retag boundary).crew = a.crew := fun a => by
      unfold Attendance.retag
      split <;> rfl
    simpa [closeRecord, Option.bind_map, Function.comp_def, kept] using attendance
  | released => exact ⟨current, Bank.Bounded.empty, crew, attendance⟩
  | put f status valid => exact ⟨current, closing, crewOk_of_valid valid, attendance⟩
  | seen => exact h
  | untimed => exact h
  | overdue c a attended => exact h.autoClose c (h.crew_of_attendance attended)
  | punched _ s g p unrecorded => exact h.completed s g p unrecorded false

theorem Resolved.banksFit {w x : WorkerRecord} (act : Resolved w x) (h : w.BanksFit) : x.BanksFit := by
  cases act with
  | voided => exact h
  | committed s g p => exact h.completed s g p false true

/-! ## Presence and attendance (R35, R38) -/

/-- One to four segments, all but the last closed (R38). -/
structure Attendance.Formed (a : Attendance) : Prop where
  some_segment : a.segments ≠ []
  four : a.segments.length ≤ 4
  closed : ∀ g ∈ a.segments.dropLast, g.outMinute.isSome = true

/-- R35: the attendance is well formed, and its last segment open exactly while presence is IN. -/
def WorkerRecord.Attends (w : WorkerRecord) : Prop :=
  ∀ a ∈ w.attendance, a.Formed ∧ (a.isOpen = true ↔ w.presence = .inside) ∧ w.presence ≠ .unknown

theorem WorkerRecord.agrees_iff (w : WorkerRecord) : w.agrees = true ↔ w.Attends := by
  unfold WorkerRecord.agrees WorkerRecord.Attends
  cases w.attendance with
  | none => simp
  | some a =>
    simp only [Bool.and_eq_true, within_iff, List.all_eq_true, beq_iff_eq, bne_iff_ne, ne_eq, Option.mem_def, Option.some.injEq,
      forall_eq', Bool.eq_iff_iff (b := w.presence == Presence.inside)]
    constructor
    · rintro ⟨⟨⟨⟨positive, four⟩, closed⟩, isOpen⟩, known⟩
      exact ⟨⟨List.ne_nil_of_length_pos positive, four, closed⟩, isOpen, known⟩
    · rintro ⟨⟨nonempty, four, closed⟩, isOpen, known⟩
      exact ⟨⟨⟨⟨List.length_pos_of_ne_nil nonempty, four⟩, closed⟩, isOpen⟩, known⟩

theorem WorkerRecord.attends_none {w : WorkerRecord} (absent : w.attendance = none) : w.Attends := by
  simp [WorkerRecord.Attends, absent]

/-- The law reads the attendance and the presence alone. -/
theorem WorkerRecord.Attends.congr {v w : WorkerRecord} (h : w.Attends) (attendance : v.attendance = w.attendance)
    (presence : v.presence = w.presence) : v.Attends := by
  unfold WorkerRecord.Attends
  rwa [attendance, presence]

/-- The last segment of an attendance replaced: the others stay, and the new last one says whether it is open. -/
theorem Attendance.Formed.onLast {a : Attendance} (h : a.Formed) (f : Segment → Segment) :
    (a.onLast f).Formed ∧ ∃ g, (a.onLast f).isOpen = (f g).outMinute.isNone := by
  obtain ⟨nonempty, four, closed⟩ := h
  have last := List.getLast?_eq_some_getLast nonempty
  have segments : (a.onLast f).segments = a.segments.dropLast ++ [f (a.segments.getLast nonempty)] := by
    simp [Attendance.onLast, last]
  have positive := List.length_pos_of_ne_nil nonempty
  refine ⟨⟨?_, ?_, ?_⟩, a.segments.getLast nonempty, ?_⟩
  · rw [segments]
    exact List.append_ne_nil_of_right_ne_nil _ (List.cons_ne_nil _ _)
  · rw [segments, List.length_append, List.length_dropLast]
    simp only [List.length_singleton]
    omega
  · rw [segments, List.dropLast_concat]
    exact closed
  · exact isOpen_eq (by rw [segments, List.getLast?_concat])

/-- A new attendance has one segment, which is open (R37). -/
theorem formed_opening (kind : AttendanceKind) (start tm : Nat) (crew : Option Nat) :
    (⟨kind, start, .current, crew, [⟨tm, none⟩]⟩ : Attendance).Formed ∧
      (⟨kind, start, .current, crew, [⟨tm, none⟩]⟩ : Attendance).isOpen = true :=
  ⟨⟨List.cons_ne_nil _ _, by simp, by simp⟩, rfl⟩

/-- A new open segment on an attendance whose last one is closed (R38). -/
theorem Attendance.Formed.append {a : Attendance} (h : a.Formed) (shut : a.isOpen = false) (room : a.segments.length < 4) (tm : Nat) :
    (a.append tm).Formed ∧ (a.append tm).isOpen = true := by
  obtain ⟨nonempty, -, closed⟩ := h
  have last := List.getLast?_eq_some_getLast nonempty
  have lastClosed : (a.segments.getLast nonempty).outMinute.isSome = true := by
    rw [isOpen_eq last] at shut
    simpa using shut
  refine ⟨⟨List.append_ne_nil_of_right_ne_nil _ (List.cons_ne_nil _ _), ?_, fun g member => ?_⟩, ?_⟩
  · simp only [Attendance.append, List.length_append, List.length_singleton]
    omega
  · have member' : g ∈ a.segments := by simpa [Attendance.append, List.dropLast_concat] using member
    rw [← List.dropLast_append_getLast nonempty] at member'
    obtain early | rfl := by simpa using member'
    · exact closed g early
    · exact lastClosed
  · exact isOpen_eq (g := ⟨tm, none⟩) (by simp [Attendance.append])

/-- A record with a well-formed attendance whose last segment is open, and presence IN (R35). -/
theorem attends_inside {w : WorkerRecord} {a : Attendance} (attended : w.attendance = some a) (formed : a.Formed) (isOpen : a.isOpen = true)
    (presence : w.presence = .inside) : w.Attends := by
  intro b hb
  obtain rfl := Option.some.inj (attended.symm.trans hb)
  simp [formed, isOpen, presence]

/-- A record with a well-formed attendance whose last segment is closed, and presence OUT (R35). -/
theorem attends_outside {w : WorkerRecord} {a : Attendance} (attended : w.attendance = some a) (formed : a.Formed) (shut : a.isOpen = false)
    (presence : w.presence = .outside) : w.Attends := by
  intro b hb
  obtain rfl := Option.some.inj (attended.symm.trans hb)
  simp [formed, shut, presence]

/-- An entry that finds no attendance leaves none, or a new one with its segment open (R37, R90). -/
theorem attends_openEntry (tm : Nat) (soft : Bool) {x : CommitWork} (absent : x.worker.attendance = none) :
    ({ (openEntry tm soft x).worker with presence := .inside } : WorkerRecord).Attends := by
  have opened : ∀ kind start owner, ({ raiseIf soft .softPassback owner (x.worker.opening kind start tm) with
      presence := .inside } : WorkerRecord).Attends := fun kind start owner =>
    attends_inside (raiseIf_attendance ..) (formed_opening ..).1 (formed_opening ..).2 rfl
  unfold openEntry
  split
  · exact opened _ _ _
  · split
    · exact opened _ _ _
    · exact WorkerRecord.attends_none ((raiseIf_attendance ..).trans ((raise_attendance ..).trans absent))

theorem finalizeLate_attendance (a : Attendance) (x : CommitWork) : (finalizeLate a x).worker.attendance = none := by
  unfold finalizeLate
  split <;> rfl

/-- A re-entry opens the last segment, new or again (R38). -/
theorem attends_reenter (tm : Nat) {a : Attendance} {w : WorkerRecord} (formed : a.Formed) (shut : a.isOpen = false) :
    ({ reenter tm a w with presence := .inside } : WorkerRecord).Attends := by
  unfold reenter
  split
  · rename_i room
    obtain ⟨formed', isOpen⟩ := formed.append shut room tm
    exact attends_inside rfl formed' isOpen rfl
  · obtain ⟨formed', g, isOpen⟩ := formed.onLast fun g => { g with outMinute := none }
    exact attends_inside (raise_attendance ..) formed' isOpen rfl

theorem WorkerRecord.Attends.commitEntry {x : CommitWork} (h : x.worker.Attends) (tm : Nat) (softMode : Bool) :
    (commitEntry tm softMode x).worker.Attends := by
  unfold Machine.commitEntry
  cases attended : x.worker.attendance with
  | none => exact attends_openEntry tm _ attended
  | some a =>
    obtain ⟨formed, isOpen, -⟩ := h a attended
    dsimp only
    split
    · exact attends_openEntry tm _ (finalizeLate_attendance a x)
    · split
      · rename_i present
        exact attends_inside ((raiseIf_attendance ..).trans attended) formed (isOpen.mpr present) rfl
      · rename_i away
        exact attends_reenter tm formed (by simpa using mt isOpen.mp away)

theorem WorkerRecord.Attends.commitExit {x : CommitWork} (h : x.worker.Attends) (tm : Nat) (unrecorded : Bool) :
    (commitExit tm unrecorded x).worker.Attends := by
  unfold Machine.commitExit
  cases attended : x.worker.attendance with
  | none => exact WorkerRecord.attends_none ((raiseIf_attendance ..).trans ((raiseIf_attendance ..).trans attended))
  | some a =>
    obtain ⟨formed, -, -⟩ := h a attended
    dsimp only
    split
    · split
      · exact WorkerRecord.attends_none rfl
      · obtain ⟨formed', g, shut⟩ := formed.onLast fun g => { g with outMinute := some tm }
        exact attends_outside (raiseIf_attendance ..) formed' shut rfl
    · rename_i shut
      exact attends_outside ((raiseIf_attendance ..).trans ((raise_attendance ..).trans attended)) formed (by simpa using shut) rfl

theorem WorkerRecord.Attends.completed {w : WorkerRecord} (h : w.Attends) (s : State) (g : Nat) (p : Passage)
    (unrecorded ofPassage : Bool) : ((commitWork g p unrecorded ⟨s, w⟩).completed g p ofPassage).Attends := by
  have work : (commitWork g p unrecorded ⟨s, w⟩).worker.Attends := by
    unfold commitWork
    cases p.direction with
    | inward => exact WorkerRecord.Attends.commitEntry (x := ⟨s, w⟩) h _ _
    | outward => exact WorkerRecord.Attends.commitExit (x := ⟨s, w⟩) h _ _
  exact work.congr rfl rfl

theorem autoCloseRecord_attendance (c : Calendar) (a : Attendance) (w : WorkerRecord) : (autoCloseRecord c a w).attendance = none := by
  rw [autoCloseRecord_frame]

theorem markStepped_attends (w : WorkerRecord) : (markStepped w).attendance = w.attendance ∧ (markStepped w).presence = w.presence := by
  unfold markStepped
  split
  · exact ⟨rfl, rfl⟩
  · rw [raise_frame]
    exact ⟨rfl, rfl⟩

theorem Attendance.retag_segments (boundary : Nat) (a : Attendance) : (a.retag boundary).segments = a.segments := by
  unfold Attendance.retag
  split <;> rfl

/-- The close retags an attendance and leaves its segments (R141). -/
theorem WorkerRecord.Attends.close {w : WorkerRecord} (h : w.Attends) (boundary : Nat) : (closeRecord boundary w).Attends := by
  intro b hb
  obtain ⟨a, attended, rfl⟩ := Option.map_eq_some_iff.mp hb
  obtain ⟨⟨nonempty, four, closed⟩, isOpen, known⟩ := h a attended
  have same := a.retag_segments boundary
  have openSame : (a.retag boundary).isOpen = a.isOpen := by rw [Attendance.isOpen, same, Attendance.isOpen]
  exact ⟨⟨same ▸ nonempty, same ▸ four, same ▸ closed⟩, openSame ▸ isOpen, known⟩

/-- Every act on a record keeps presence in agreement with its attendance; without a time, on a record without attendance (R35). -/
theorem Revised.attends {v : Validity} {w x : WorkerRecord} (act : Revised v w x) (h : w.Attends)
    (untimed : v = .unset → w.attendance = none) : x.Attends := by
  cases act with
  | same => exact h
  | collected => exact h.congr rfl rfl
  | stepped => exact h.congr (markStepped_attends w).1 (markStepped_attends w).2
  | closed boundary => exact h.close boundary
  | released => exact h.congr rfl rfl
  | put f status valid => exact h.congr rfl rfl
  | seen p free => exact WorkerRecord.attends_none free
  | untimed unset => exact WorkerRecord.attends_none (untimed unset)
  | overdue c a _ => exact WorkerRecord.attends_none (autoCloseRecord_attendance c a w)
  | punched _ s g p unrecorded => exact h.completed s g p unrecorded false

theorem Resolved.attends {w x : WorkerRecord} (act : Resolved w x) (h : w.Attends) : x.Attends := by
  cases act with
  | voided => exact h.congr rfl rfl
  | committed s g p => exact h.completed s g p false true

/-- Without a time no act opens an attendance (R82). -/
theorem Revised.attendance_none {w x : WorkerRecord} (act : Revised .unset w x) (absent : w.attendance = none) : x.attendance = none := by
  cases act with
  | same => exact absent
  | collected => exact absent
  | stepped => exact (markStepped_attends w).1.trans absent
  | closed boundary => simp [closeRecord, absent]
  | released => exact absent
  | put => exact absent
  | seen => exact absent
  | untimed => exact absent
  | overdue c a _ => exact autoCloseRecord_attendance c a w
  | punched set => cases set

/-- No act but a resolution changes the gate where a passage of the record pends (R36). -/
theorem Revised.pendingGate {v : Validity} {w x : WorkerRecord} (act : Revised v w x) : x.pendingGate = w.pendingGate := by
  cases act with
  | stepped =>
    unfold markStepped
    split
    · rfl
    · exact (WorkerRecord.holder_eq (raise_holder ..)).2.2
  | overdue c a _ => exact (WorkerRecord.holder_eq (autoCloseRecord_holder ..)).2.2
  | punched _ s g p unrecorded => exact (WorkerRecord.holder_eq (commitWork_holder g p unrecorded ⟨s, w⟩)).2.2
  | _ => rfl

theorem Resolved.pendingGate {w x : WorkerRecord} (act : Resolved w x) : x.pendingGate = none := by
  cases act <;> rfl

end Sys2Proof.Machine
end

section
/-! PROOFS. The laws of the worker table, of presence, of the passages and of the partnerships (R33, R35, R36, R96, R138): each kept by every
act on the staff, and so by every step; with two of the statements. -/

namespace Sys2Proof.Machine

/-- What every act on the staff keeps, every step keeps. -/
theorem StaffPath.keeps {P : Staff → Prop} (act : ∀ {u v : Staff}, StaffAct u v → P u → P v) {u v : Staff} (path : StaffPath u v)
    (h : P u) : P v := by
  induction path with
  | refl => exact h
  | tail _ one ih => exact act one ih

/-! ## The table in badge order (R33) -/

/-- At most 4,096 records, in ascending badge order, each badge in its range (R33). -/
def Staff.Ordered (u : Staff) : Prop :=
  u.workers.length ≤ 4096 ∧ BadgesAscend u.workers ∧ ∀ w ∈ u.workers, 1 ≤ w.badge ∧ w.badge ≤ 16777215

/-- The order of a table is read from its badges. -/
theorem badgesAscend_iff (ws : List WorkerRecord) : BadgesAscend ws ↔ (ws.map (·.badge)).Pairwise (· < ·) := by
  rw [List.pairwise_map]

theorem Staff.Ordered.follows {u v : Staff} (h : u.Ordered) {R : WorkerRecord → WorkerRecord → Prop}
    (follows : Follows R u.workers v.workers) : v.Ordered := by
  obtain ⟨size, ascend, range⟩ := h
  refine ⟨?_, ?_, fun x member => ?_⟩
  · have length := congrArg List.length follows.badges
    rw [List.length_map, List.length_map] at length
    rwa [length]
  · rwa [badgesAscend_iff, follows.badges, ← badgesAscend_iff]
  · obtain ⟨w, member', badge, -⟩ := follows.records x member
    rw [badge]
    exact range w member'

theorem installWorker_ascends {w : WorkerRecord} {ws : List WorkerRecord} (ascend : BadgesAscend ws)
    (absent : ∀ x ∈ ws, x.badge ≠ w.badge) : BadgesAscend (installWorker w ws) := by
  induction ws with
  | nil => exact List.pairwise_singleton _ w
  | cons x rest ih =>
    obtain ⟨above, ascend'⟩ := List.pairwise_cons.mp ascend
    unfold installWorker
    split
    · rename_i below
      refine List.pairwise_cons.mpr ⟨fun y member => ?_, ascend⟩
      obtain rfl | later := List.mem_cons.mp member
      · exact below
      · exact below.trans (above y later)
    · rename_i notBelow
      refine List.pairwise_cons.mpr ⟨fun y member => ?_, ih ascend' fun y later => absent y (List.mem_cons_of_mem x later)⟩
      obtain rfl | later := (installWorker_mem w y rest).mp member
      · exact Nat.lt_of_le_of_ne (Nat.le_of_not_lt notBelow) (absent x List.mem_cons_self)
      · exact above y later

theorem StaffAct.ordered {u v : Staff} (act : StaffAct u v) (h : u.Ordered) : v.Ordered := by
  obtain ⟨size, ascend, range⟩ := id h
  cases act with
  | timed => exact h
  | revised ws follows => exact h.follows (v := { u with workers := ws }) follows
  | installed f status valid absent room =>
    obtain ⟨before, after, whole, installed⟩ := installWorker_eq (WorkerRecord.fresh f status) u.workers
    refine ⟨?_, installWorker_ascends ascend absent, fun w member => ?_⟩
    · have length := congrArg List.length whole
      simp only [installed, List.length_append, List.length_cons] at length ⊢
      omega
    · obtain rfl | old := (installWorker_mem ..).mp member
      · exact (within_iff ..).mp (workerFieldsValid_badge valid).1
      · exact range w old
  | removed w member idle =>
    have fewer := List.filter_sublist (p := fun x : WorkerRecord => x.badge != w.badge) (l := u.workers)
    exact ⟨fewer.length_le.trans size, ascend.sublist fewer, fun x kept => range x (fewer.subset kept)⟩
  | pended w g p member badge idle isGate free set =>
    exact h.follows (Follows.replace (R := fun _ _ => True) member rfl trivial fun _ _ _ => trivial)
  | resolved g p ws held follows => exact h.follows (v := ⟨u.validity, ws, _, _⟩) follows
  | partnered => exact h
  | blank => exact ⟨Nat.zero_le _, List.Pairwise.nil, by simp⟩

/-! ## Laws of every record (R138) -/

theorem StaffAct.banksFit {u v : Staff} (act : StaffAct u v) (h : ∀ w ∈ u.workers, w.BanksFit) : ∀ w ∈ v.workers, w.BanksFit := by
  cases act with
  | timed => exact h
  | revised ws follows =>
    intro x member
    obtain ⟨w, member', -, act⟩ := follows.records x member
    exact act.banksFit (h w member')
  | installed f status valid absent room =>
    intro x member
    obtain rfl | old := (installWorker_mem ..).mp member
    · exact ⟨Bank.Bounded.empty, Bank.Bounded.empty, crewOk_of_valid valid, by simp [WorkerRecord.fresh, CrewOk]⟩
    · exact h x old
  | removed w member idle => exact fun x kept => h x (List.mem_of_mem_filter kept)
  | pended w g p member badge idle isGate free set =>
    intro x hx
    obtain ⟨y, member', rfl⟩ := List.mem_map.mp hx
    split
    · exact h w member
    · exact h y member'
  | resolved g p ws held follows =>
    intro x member
    obtain ⟨w, member', -, act⟩ := follows.records x member
    unfold ResolvedFor at act
    split at act
    · exact act.banksFit (h w member')
    · exact act ▸ h w member'
  | partnered => exact h
  | blank => simp

/-- Settles O54: the table's badges change by an installation, a removal and a cold start alone, and every act on a record keeps its
banks. -/
theorem everyStepKeepsTheWorkerTable : Obligations.EveryStepKeepsTheWorkerTable :=
  ⟨fun _ ordered _ next => (step_staff next).keeps (P := Staff.Ordered) StaffAct.ordered ordered,
    fun _ bounded _ next => (step_staff next).keeps (P := fun u => ∀ w ∈ u.workers, w.BanksFit) StaffAct.banksFit bounded⟩

/-! ## Presence (R35, R44, R82) -/

/-- R35 of every record; and without a time no attendance is open and no passage pends. -/
def Staff.Present (u : Staff) : Prop :=
  (∀ w ∈ u.workers, w.Attends) ∧
    (u.validity = .unset → (∀ w ∈ u.workers, w.attendance = none) ∧ ∀ g, u.passage g = none)

theorem passages_eq_zero (s : State) : s.passages = 0 ↔ ∀ g, (s.gateAt g).passage = none := by
  rw [State.passages, List.length_eq_zero_iff, List.filter_eq_nil_iff]
  constructor
  · intro free g
    by_cases isGate : g < 16
    · simpa using free g (List.mem_range.mpr isGate)
    · exact congrArg Gate.passage (s.gateAt_beyond isGate)
  · intro free g _
    simp [free g]

/-- The law of presence is one of the staff. -/
theorem presenceAgrees_iff (s : State) : s.PresenceAgrees ↔ s.staff.Present := by
  simp only [State.PresenceAgrees, Staff.Present, WorkerRecord.agrees_iff, passages_eq_zero, State.staff]

theorem StaffAct.present {u v : Staff} (act : StaffAct u v) (h : u.Present) : v.Present := by
  obtain ⟨attends, untimed⟩ := id h
  cases act with
  | timed => exact ⟨attends, fun unset => by cases unset⟩
  | revised ws follows =>
    refine ⟨fun x member => ?_, fun unset => ⟨fun x member => ?_, (untimed unset).2⟩⟩
    · obtain ⟨w, member', -, act⟩ := follows.records x member
      exact act.attends (attends w member') fun unset => (untimed unset).1 w member'
    · obtain ⟨w, member', -, act⟩ := follows.records x member
      rw [show u.validity = .unset from unset] at act
      exact act.attendance_none ((untimed unset).1 w member')
  | installed f status valid absent room =>
    refine ⟨fun x member => ?_, fun unset => ⟨fun x member => ?_, (untimed unset).2⟩⟩
    · obtain rfl | old := (installWorker_mem ..).mp member
      · exact WorkerRecord.attends_none rfl
      · exact attends x old
    · obtain rfl | old := (installWorker_mem ..).mp member
      · rfl
      · exact (untimed unset).1 x old
  | removed w member idle =>
    exact ⟨fun x kept => attends x (List.mem_of_mem_filter kept),
      fun unset => ⟨fun x kept => (untimed unset).1 x (List.mem_of_mem_filter kept), (untimed unset).2⟩⟩
  | pended w g p member badge idle isGate free set =>
    refine ⟨fun x hx => ?_, fun unset => absurd (set.symm.trans unset) (by decide)⟩
    obtain ⟨y, member', rfl⟩ := List.mem_map.mp hx
    split
    · exact (attends w member).congr rfl rfl
    · exact attends y member'
  | resolved g p ws held follows =>
    refine ⟨fun x member => ?_, fun unset => absurd (held.symm.trans ((untimed unset).2 g)) (by simp)⟩
    obtain ⟨w, member', -, act⟩ := follows.records x member
    unfold ResolvedFor at act
    split at act
    · exact act.attends (attends w member')
    · exact act ▸ attends w member'
  | partnered => exact h
  | blank => exact ⟨by simp, fun _ => ⟨by simp, fun _ => rfl⟩⟩

/-- Settles O55: each act keeps presence in agreement with the attendance, and only a set time lets an attendance open or a passage pend. -/
theorem everyStepKeepsPresence : Obligations.EveryStepKeepsPresence := by
  intro s _ agrees t next
  rw [presenceAgrees_iff] at *
  exact (step_staff next).keeps (P := Staff.Present) StaffAct.present agrees

/-! ## Passages (R36, R93) -/

/-- In a table of ascending badges: R36 and R93 of every record and every passage. -/
structure Staff.Named (u : Staff) : Prop where
  ordered : u.Ordered
  pending : ∀ w ∈ u.workers, ∀ g ∈ w.pendingGate, g < 16 ∧ (u.passage g).map (·.badge) = some w.badge
  held : ∀ g, ∀ p ∈ u.passage g, ∃ w ∈ u.workers, w.badge = p.badge ∧ w.pendingGate = some g

theorem named_iff {s : State} (ordered : s.WorkersOrdered) : s.PassagesNamed ↔ s.staff.Named := by
  constructor
  · rintro ⟨pending, held⟩
    refine ⟨ordered, pending, fun g p member => ?_⟩
    have isGate : g < 16 := by
      by_contra beyond
      have none_held := congrArg Gate.passage (s.gateAt_beyond beyond)
      exact absurd (none_held.symm.trans member) (by simp [Gate.cold])
    exact held ⟨g, isGate⟩ p member
  · rintro ⟨-, pending, held⟩
    exact ⟨pending, fun g => held g⟩

/-- Under the law a record names the gate of its own passage: the record of the passage's badge, and no other, waits at the gate. -/
theorem Staff.Named.unique {u : Staff} (h : u.Named) {g : Nat} {p : Passage} (held : u.passage g = some p) {w : WorkerRecord}
    (member : w ∈ u.workers) : w.badge = p.badge ↔ w.pendingGate = some g := by
  obtain ⟨x, member', badge, pending⟩ := h.held g p held
  constructor
  · intro same
    rw [h.ordered.2.1.unique member member' (same.trans badge.symm), pending]
  · intro waits
    have own := (h.pending w member g waits).2
    rw [held] at own
    exact (Option.some.inj own).symm

/-- Every record of a table in badge order has its successor. -/
theorem Follows.successor {R : WorkerRecord → WorkerRecord → Prop} {ws vs : List WorkerRecord} (h : Follows R ws vs)
    (ascend : BadgesAscend ws) {w : WorkerRecord} (member : w ∈ ws) : ∃ x ∈ vs, x.badge = w.badge ∧ R w x := by
  have listed : w.badge ∈ ws.map (·.badge) := List.mem_map_of_mem member
  rw [← h.badges] at listed
  obtain ⟨x, member', same⟩ := List.mem_map.mp listed
  obtain ⟨w', member'', badge, acts⟩ := h.records x member'
  rw [ascend.unique member'' member (badge.symm.trans same)] at acts
  exact ⟨x, member', same, acts⟩

/-- A table whose records keep their badges and their pending gates keeps the law. -/
theorem Staff.Named.follows {u v : Staff} (h : u.Named) (passage : v.passage = u.passage)
    (follows : Follows (fun w x => x.pendingGate = w.pendingGate) u.workers v.workers) : v.Named := by
  refine ⟨h.ordered.follows follows, fun x member g waits => ?_, fun g p held => ?_⟩
  · obtain ⟨w, member', badge, same⟩ := follows.records x member
    rw [passage, badge]
    exact h.pending w member' g (same ▸ waits)
  · rw [passage] at held
    obtain ⟨w, member, badge, pending⟩ := h.held g p held
    obtain ⟨x, member', same, kept⟩ := follows.successor h.ordered.2.1 member
    exact ⟨x, member', same.trans badge, kept.trans pending⟩

theorem Follows.mono {R S : WorkerRecord → WorkerRecord → Prop} {ws vs : List WorkerRecord} (h : Follows R ws vs)
    (weaker : ∀ w v, R w v → S w v) : Follows S ws vs :=
  ⟨h.badges, fun v member => by
    obtain ⟨w, member', badge, acts⟩ := h.records v member
    exact ⟨w, member', badge, weaker w v acts⟩⟩

/-- A passage taken by a free gate, for a record that waits at none (R88). -/
theorem Staff.Named.pend {u v : Staff} (h : u.Named) {w : WorkerRecord} {g : Nat} {p : Passage} (member : w ∈ u.workers)
    (badge : w.badge = p.badge) (idle : w.pendingGate = none) (isGate : g < 16) (free : u.passage g = none)
    (ordered : v.Ordered) (workers : v.workers = replaceWorker { w with pendingGate := some g } u.workers)
    (passage : v.passage = Function.update u.passage g (some p)) : v.Named := by
  refine ⟨ordered, ?_, ?_⟩
  all_goals rw [passage, workers]
  · intro x hx h' waits
    obtain ⟨y, member', rfl⟩ := List.mem_map.mp hx
    split at waits
    · rename_i same
      obtain rfl := Option.some.inj (Option.mem_def.mp waits)
      rw [if_pos same]
      exact ⟨isGate, by rw [Function.update_self, Option.map_some, badge]⟩
    · rename_i apart
      obtain ⟨isGate', own⟩ := h.pending y member' h' waits
      have elsewhere : h' ≠ g := fun e => by
        rw [e, free] at own
        cases own
      rw [if_neg apart]
      exact ⟨isGate', by rw [Function.update_of_ne elsewhere]; exact own⟩
  · intro h' q held
    by_cases here : h' = g
    · rw [here, Function.update_self] at held
      obtain rfl := Option.some.inj held
      exact ⟨{ w with pendingGate := some g }, List.mem_map.mpr ⟨w, member, if_pos rfl⟩, badge, by rw [here]⟩
    · rw [Function.update_of_ne here] at held
      obtain ⟨y, member', badge', pending⟩ := h.held h' q held
      have apart : y.badge ≠ w.badge := fun same => by
        rw [h.ordered.2.1.unique member' member same, idle] at pending
        cases pending
      exact ⟨y, List.mem_map.mpr ⟨y, member', if_neg apart⟩, badge', pending⟩

/-- A passage given up by its gate, its record waiting no longer (R93). -/
theorem Staff.Named.resolve {u v : Staff} (h : u.Named) {g : Nat} {p : Passage} (held : u.passage g = some p)
    (follows : Follows (ResolvedFor p.badge) u.workers v.workers) (passage : v.passage = Function.update u.passage g none) : v.Named := by
  refine ⟨h.ordered.follows follows, ?_, ?_⟩
  all_goals rw [passage]
  · intro x member h' waits
    obtain ⟨w, member', badge, act⟩ := follows.records x member
    unfold ResolvedFor at act
    split at act
    · rw [act.pendingGate] at waits
      cases waits
    · rename_i apart
      subst act
      have elsewhere : h' ≠ g := fun e => apart ((h.unique held member').mpr (e ▸ waits))
      obtain ⟨isGate, own⟩ := h.pending x member' h' waits
      exact ⟨isGate, by rw [Function.update_of_ne elsewhere]; exact own⟩
  · intro h' q held'
    by_cases here : h' = g
    · rw [here, Function.update_self] at held'
      cases held'
    · rw [Function.update_of_ne here] at held'
      obtain ⟨w, member, badge, pending⟩ := h.held h' q held'
      have apart : w.badge ≠ p.badge := fun same => by
        have waits := (h.unique held member).mp same
        rw [pending] at waits
        exact here (Option.some.inj waits)
      obtain ⟨x, member', same, act⟩ := follows.successor h.ordered.2.1 member
      rw [ResolvedFor, if_neg apart] at act
      exact ⟨x, member', same.trans badge, act ▸ pending⟩

theorem StaffAct.named {u v : Staff} (act : StaffAct u v) (h : u.Named) : v.Named := by
  have ordered := act.ordered h.ordered
  cases act with
  | timed => exact ⟨h.ordered, h.pending, h.held⟩
  | revised ws follows => exact h.follows rfl (follows.mono fun w x act => act.pendingGate)
  | installed f status valid absent room =>
    refine ⟨ordered, fun x member g waits => ?_, fun g p held => ?_⟩
    · obtain rfl | old := (installWorker_mem ..).mp member
      · cases waits
      · exact h.pending x old g waits
    · obtain ⟨w, member, named⟩ := h.held g p held
      exact ⟨w, (installWorker_mem ..).mpr (.inr member), named⟩
  | removed w member idle =>
    refine ⟨ordered, fun x kept => h.pending x (List.mem_of_mem_filter kept), fun g p held => ?_⟩
    obtain ⟨x, member', badge, pending⟩ := h.held g p held
    have apart : x.badge ≠ w.badge := fun same => by
      rw [h.ordered.2.1.unique member' member same, idle] at pending
      cases pending
    exact ⟨x, List.mem_filter.mpr ⟨member', by simpa using apart⟩, badge, pending⟩
  | pended w g p member badge idle isGate free set => exact h.pend member badge idle isGate free ordered rfl rfl
  | resolved g p ws held follows => exact h.resolve (v := ⟨u.validity, ws, _, _⟩) held follows rfl
  | partnered => exact ⟨h.ordered, h.pending, h.held⟩
  | blank => exact ⟨ordered, by simp, by simp⟩

/-- R36 and R93 through a step. -/
theorem step_passagesNamed {s t : State} (ordered : s.WorkersOrdered) (named : s.PassagesNamed) (next : step s = .next t) :
    t.PassagesNamed := by
  have path := step_staff next
  rw [named_iff ordered] at named
  rw [named_iff (path.keeps (P := Staff.Ordered) StaffAct.ordered ordered)]
  exact path.keeps (P := Staff.Named) StaffAct.named named

/-! ## Partnerships (R96) -/

/-- R96: partnership is symmetric, no gate is its own partner, and partners are gates. -/
def Staff.Paired (u : Staff) : Prop := ∀ g, ∀ p ∈ u.partner g, p < 16 ∧ p ≠ g ∧ u.partner p = some g

theorem paired_iff (s : State) : s.PartnersSymmetric ↔ s.staff.Paired := by
  constructor
  · intro symmetric g p named
    by_cases isGate : g < 16
    · exact symmetric ⟨g, isGate⟩ p named
    · have none_named := congrArg (fun x : Gate => x.config.partner) (s.gateAt_beyond isGate)
      exact absurd (none_named.symm.trans named) (by simp [Gate.cold, GateConfig.cold])
  · exact fun paired g => paired g

/-- A new partnership of a gate ends those of both its ends, and no other (R96). -/
theorem Staff.Paired.partner {u : Staff} (h : u.Paired) {g : Nat} {p : Option Nat} (isGate : g < 16) (other : ∀ q ∈ p, q < 16 ∧ q ≠ g) :
    Staff.Paired { u with partner := partnered g p u.partner } := by
  have at_g : partnered g p u.partner g = p := if_pos rfl
  have at_p : ∀ q ∈ p, partnered g p u.partner q = some g := fun q named => by
    rw [partnered, if_neg (other q named).2, if_pos named.symm]
  intro i q named
  dsimp only at named ⊢
  unfold partnered at named
  split at named
  · rename_i here
    obtain ⟨isGate', apart⟩ := other q named
    exact ⟨isGate', here ▸ apart, by rw [at_p q named, here]⟩
  · rename_i notHere
    split at named
    · rename_i there
      obtain rfl := Option.some.inj named
      exact ⟨isGate, Ne.symm notHere, at_g.trans there.symm⟩
    · rename_i notThere
      split at named
      · cases named
      · rename_i kept
        obtain ⟨notG, notP⟩ := not_or.mp kept
        obtain ⟨isGate', apart, back⟩ := h i q named
        have qg : q ≠ g := fun e => notG (e ▸ named)
        have qp : ¬ some q = p := fun e => notP ⟨e ▸ rfl, named.trans e⟩
        refine ⟨isGate', apart, ?_⟩
        have stays : ¬ (some i = some g ∨ (p.isSome = true ∧ some i = p)) :=
          not_or.mpr ⟨fun e => notHere (Option.some.inj e), fun e => notThere e.2⟩
        rw [partnered, if_neg qg, if_neg qp, back, if_neg stays]

theorem StaffAct.paired {u v : Staff} (act : StaffAct u v) (h : u.Paired) : v.Paired := by
  cases act with
  | partnered g p isGate other => exact h.partner isGate other
  | blank => simp [Staff.Paired]
  | _ => exact h

/-- R96 through a step. -/
theorem step_partnersSymmetric {s t : State} (symmetric : s.PartnersSymmetric) (next : step s = .next t) : t.PartnersSymmetric := by
  rw [paired_iff] at *
  exact (step_staff next).keeps (P := Staff.Paired) StaffAct.paired symmetric

end Sys2Proof.Machine
end

section
/-! PROOFS. The standing law of the gates (R98, R104, R109) through the operations of the gates and of the loops. -/

namespace Sys2Proof.Machine

/-! ## A gate under a standing (R104, R109) -/

/-- The law of one gate: its arming and its passage right (R104), and, where it is hinged, FREE exactly under a standing (R109). -/
structure Gate.Stands (x : Gate) (d : Standing) : Prop where
  armed : x.armedRight = true
  free : x.config.kind = .hinged → (x.hinged = .free ↔ d ≠ .nothing)

/-- What a standing reads of a gate (R98). -/
def Gate.post (x : Gate) : ControlMode × GateKind × CutOffPolicy := (x.mode, x.config.kind, x.config.policy)

/-- The gate `y` in place of `x` takes the same standing and stands wherever `x` stands. -/
structure Gate.StandsAs (x y : Gate) : Prop where
  post : y.post = x.post
  stands : ∀ d, x.Stands d → y.Stands d

theorem Gate.StandsAs.refl (x : Gate) : x.StandsAs x := ⟨rfl, fun _ h => h⟩

/-- An idle gate is right whatever its kind (R104). -/
theorem Gate.armedRight_idle {x : Gate} (arming : x.arming = none) (passage : x.passage = none) : x.armedRight = true := by
  simp [Gate.armedRight, arming, passage]

theorem Gate.armedRight_congr {x y : Gate} (arming : y.arming = x.arming) (passage : y.passage = x.passage)
    (kind : y.config.kind = x.config.kind) : y.armedRight = x.armedRight := by
  simp only [Gate.armedRight, arming, passage, kind]

/-- A gate with its mode, its configuration, its arming and its passage, and FREE where it was, stands as it did. -/
theorem Gate.StandsAs.of_eq {x y : Gate} (mode : y.mode = x.mode) (config : y.config = x.config) (arming : y.arming = x.arming)
    (passage : y.passage = x.passage) (free : x.config.kind = .hinged → (y.hinged = .free ↔ x.hinged = .free)) : x.StandsAs y := by
  have kind : y.config.kind = x.config.kind := congrArg GateConfig.kind config
  refine ⟨by rw [Gate.post, Gate.post, mode, config], fun d h => ⟨?_, fun hinged => ?_⟩⟩
  · rw [armedRight_congr arming passage kind]
    exact h.armed
  · have hinged' : x.config.kind = .hinged := kind ▸ hinged
    rw [free hinged', h.free hinged']

theorem Gate.standsAs_holdPulse (x : Gate) (d : Direction) : x.StandsAs (x.holdPulse d) := by
  cases d <;> exact .of_eq rfl rfl rfl rfl fun _ => .rfl

theorem Gate.standsAs_disarm (x : Gate) : x.StandsAs x.disarm :=
  ⟨rfl, fun _ h => ⟨armedRight_idle rfl rfl, h.free⟩⟩

theorem Gate.standsAs_countDown (x : Gate) : x.StandsAs x.countDown := .of_eq rfl rfl rfl rfl fun _ => .rfl

/-- A release request never makes a hinged gate FREE, nor ends a FREE (R107). -/
theorem Gate.standsAs_hingedRelease (x : Gate) (cause : ReleaseCause) : x.StandsAs (x.hingedRelease cause) := by
  unfold Gate.hingedRelease
  split
  · exact .of_eq rfl rfl rfl rfl fun _ => by simp [*]
  · exact .of_eq rfl rfl rfl rfl fun _ => by simp [*]
  · exact .of_eq rfl rfl rfl rfl fun _ => .rfl
  all_goals exact .refl x

/-- A turnstile without a passage may take any arming that is no punch's (R104). -/
theorem Gate.standsAs_arm {x : Gate} (turnstile : x.config.kind = .turnstile) (idle : x.passage = none) (d : Direction)
    {cause : ReleaseCause} (other : cause ≠ .punch) : x.StandsAs (x.arm d cause) :=
  ⟨rfl, fun _ h => ⟨by simp [Gate.armedRight, Gate.arm, idle, turnstile, other], h.free⟩⟩

/-- A turnstile takes a passage with the arming of its punch (R104). -/
theorem Gate.standsAs_takePassage {x : Gate} (turnstile : x.config.kind = .turnstile) (p : Passage) :
    x.StandsAs { x.arm p.direction .punch with passage := some p } :=
  ⟨rfl, fun _ h => ⟨by simp [Gate.armedRight, Gate.arm, turnstile], h.free⟩⟩

/-- A passage held goes with the arming of its punch (R104). -/
theorem Gate.arming_of_passage {x : Gate} (armed : x.armedRight = true) {p : Passage} (held : x.passage = some p) :
    x.arming = some ⟨p.direction, .punch⟩ := by
  simp only [Gate.armedRight, held, Bool.and_eq_true, beq_iff_eq] at armed
  exact armed.1.2

theorem Gate.under_frame (x : Gate) (d : Standing) : (x.under d).arming = x.arming ∧ (x.under d).passage = x.passage ∧
    (x.under d).mode = x.mode ∧ (x.under d).config = x.config := by
  unfold Gate.under
  repeat' split
  all_goals exact ⟨rfl, rfl, rfl, rfl⟩

theorem Gate.under_post (x : Gate) (d : Standing) : (x.under d).post = x.post := by
  obtain ⟨-, -, mode, config⟩ := x.under_frame d
  rw [Gate.post, mode, config, Gate.post]

theorem Gate.under_armedRight (x : Gate) (d : Standing) : (x.under d).armedRight = x.armedRight := by
  obtain ⟨arming, passage, -, config⟩ := x.under_frame d
  exact armedRight_congr arming passage (by rw [config])

/-- A gate that has applied a standing stands under it (R109). -/
theorem Gate.under_stands {x : Gate} (armed : x.armedRight = true) (d : Standing) : (x.under d).Stands d := by
  refine ⟨(x.under_armedRight d).trans armed, fun hinged => ?_⟩
  rw [Gate.under_config] at hinged
  unfold Gate.under
  split
  · rename_i frees
    exact iff_of_true rfl frees.2.1
  · split
    · rename_i ends
      split <;> simp [ends.2.1]
    · rename_i notFrees notEnds
      by_cases free : x.hinged = .free
      · exact iff_of_true free fun e => notEnds ⟨hinged, e, free⟩
      · exact iff_of_false free fun ne => notFrees ⟨hinged, ne, free⟩

/-! ## Every gate of the part -/

/-- Gate `g`, where it is one, stands under its standing in the part. -/
abbrev State.StandsAt (s : State) (g : Nat) : Prop := g < 16 → (s.gateAt g).Stands (s.standing g)

theorem gatesStand_iff (s : State) : s.GatesStand ↔ ∀ g, s.StandsAt g := by
  constructor
  · intro h g isGate
    obtain ⟨armed, free⟩ := h ⟨g, isGate⟩
    exact ⟨armed, free⟩
  · exact fun h g => ⟨(h g g.isLt).armed, (h g g.isLt).free⟩

/-- A standing is read from the cut-off, the fire state and the gate's post (R98). -/
theorem standing_of_post {s t : State} {g : Nat} (cut : t.cutOff g = s.cutOff g) (fire : t.fire = s.fire)
    (post : (t.gateAt g).post = (s.gateAt g).post) : t.standing g = s.standing g := by
  obtain ⟨mode, kind, policy⟩ := by simpa [Gate.post] using post
  simp only [State.standing, cut, fire, mode, kind, policy]

/-- The cut-off is read from the loops (R98). -/
theorem cutOff_of_loops {s t : State} (loops : t.loops = s.loops) (g : Nat) : t.cutOff g = s.cutOff g := by
  rw [State.cutOff, State.cutOff, loops]

/-- The law is read from the loops, the gates and the fire state alone. -/
theorem standsAt_congr {s t : State} (loops : t.loops = s.loops) (gates : t.gates = s.gates) (fire : t.fire = s.fire) (g : Nat) :
    t.StandsAt g ↔ s.StandsAt g := by
  have gate : t.gateAt g = s.gateAt g := by rw [State.gateAt, gates, State.gateAt]
  rw [State.StandsAt, State.StandsAt, gate, standing_of_post (cutOff_of_loops loops g) fire (by rw [gate])]

theorem gatesStand_congr {s t : State} (loops : t.loops = s.loops) (gates : t.gates = s.gates) (fire : t.fire = s.fire)
    (h : s.GatesStand) : t.GatesStand :=
  (gatesStand_iff t).mpr fun g => (standsAt_congr loops gates fire g).mpr ((gatesStand_iff s).mp h g)

theorem gatesStand_of_site {s t : State} (site : t.site = s.site) (h : s.GatesStand) : t.GatesStand := by
  obtain ⟨loops, gates, fire, -⟩ := State.site_eq site
  exact gatesStand_congr loops gates fire h

/-- The gates changed, each by one that stands as it did. -/
theorem gatesStand_of_gates {s t : State} (loops : t.loops = s.loops) (fire : t.fire = s.fire)
    (acts : ∀ g, (s.gateAt g).StandsAs (t.gateAt g)) (h : s.GatesStand) : t.GatesStand := by
  rw [gatesStand_iff] at *
  intro g isGate
  rw [standing_of_post (cutOff_of_loops loops g) fire (acts g).post]
  exact (acts g).stands _ (h g isGate)

theorem gatesStand_setGate {s : State} (h : s.GatesStand) {g : Nat} {y : Gate} (acts : (s.gateAt g).StandsAs y) :
    (s.setGate g y).GatesStand := by
  refine gatesStand_of_gates (s := s) rfl rfl (fun i => ?_) h
  rw [State.gateAt_setGate]
  split
  · rename_i here
    rw [here.1]
    exact acts
  · exact .refl _

/-! ## Standings applied (R109) -/

theorem applyStanding_gateAt (g : Nat) (s : State) (i : Nat) :
    (applyStanding g s).gateAt i = if i = g ∧ g < 16 then (s.gateAt g).under (s.standing g) else s.gateAt i := by
  rw [applyStanding_eq]
  exact State.gateAt_setGate s g i _

theorem applyStanding_loops (g : Nat) (s : State) : (applyStanding g s).loops = s.loops ∧ (applyStanding g s).fire = s.fire := by
  rw [applyStanding_eq]
  exact ⟨rfl, rfl⟩

theorem applyStanding_post (g : Nat) (s : State) (i : Nat) : ((applyStanding g s).gateAt i).post = (s.gateAt i).post := by
  rw [applyStanding_gateAt]
  split
  · rename_i here
    rw [here.1, Gate.under_post]
  · rfl

theorem applyStanding_standing (g : Nat) (s : State) (i : Nat) : (applyStanding g s).standing i = s.standing i := by
  obtain ⟨loops, fire⟩ := applyStanding_loops g s
  exact standing_of_post (cutOff_of_loops loops i) fire (applyStanding_post g s i)

/-- R104 at every gate. -/
abbrev State.ArmedRight (s : State) : Prop := ∀ g, (s.gateAt g).armedRight = true

theorem armedRight_of_gatesStand {s : State} (h : s.GatesStand) : s.ArmedRight := by
  intro g
  by_cases isGate : g < 16
  · exact ((gatesStand_iff s).mp h g isGate).armed
  · rw [s.gateAt_beyond isGate]
    rfl

theorem applyStanding_armed (g : Nat) {s : State} (armed : s.ArmedRight) : (applyStanding g s).ArmedRight := by
  intro i
  rw [applyStanding_gateAt]
  split
  · rw [Gate.under_armedRight]
    exact armed g
  · exact armed i

/-- A gate that has applied its standing stands, and every other gate as before (R109). -/
theorem applyStanding_standsAt {g : Nat} {s : State} (armed : s.ArmedRight) {i : Nat} (stood : i = g ∨ s.StandsAt i) :
    (applyStanding g s).StandsAt i := by
  intro isGate
  rw [applyStanding_standing, applyStanding_gateAt]
  split
  · rename_i here
    rw [here.1]
    exact Gate.under_stands (armed g) _
  · rename_i elsewhere
    exact stood.resolve_left (fun here => elsewhere ⟨here, here ▸ isGate⟩) isGate

/-- An act at each gate of a list in turn, by which its gate comes to stand and no other gate ceases to stand. -/
theorem foldl_standsAt {P : State → Prop} {act : State → Nat → State} (keeps : ∀ s g, P s → P (act s g))
    (stands : ∀ s g i, P s → i = g ∨ s.StandsAt i → (act s g).StandsAt i) (gs : List Nat) :
    ∀ s, P s → ∀ i, i ∈ gs ∨ s.StandsAt i → (gs.foldl act s).StandsAt i := by
  induction gs with
  | nil => exact fun s _ i stood => stood.resolve_left List.not_mem_nil
  | cons g rest ih =>
    intro s h i stood
    refine ih (act s g) (keeps s g h) i ?_
    obtain member | stood := stood
    · obtain rfl | later := List.mem_cons.mp member
      · exact .inr (stands s i i h (.inl rfl))
      · exact .inl later
    · exact .inr (stands s g i h (.inr stood))

/-- After the standings of a list of gates have been applied, these stand, and every other gate as before. -/
theorem applyStandings_gatesStand {gs : List Nat} {s : State} (armed : s.ArmedRight) (others : ∀ i, i ∈ gs ∨ s.StandsAt i) :
    (applyStandings gs s).GatesStand :=
  (gatesStand_iff _).mpr fun i => foldl_standsAt (P := State.ArmedRight) (fun _ g armed => applyStanding_armed g armed)
    (fun _ _ _ armed stood => applyStanding_standsAt armed stood) gs s armed i (others i)

/-- The standings of all gates applied (R109, R111, R116). -/
theorem applyStandings_all_gatesStand {s : State} (armed : s.ArmedRight) : (applyStandings allGates s).GatesStand := by
  refine applyStandings_gatesStand armed fun i => ?_
  by_cases isGate : i < 16
  · exact .inl (List.mem_range.mpr isGate)
  · exact .inr fun isGate' => absurd isGate' isGate

/-- A gate changed, its own standing applied after it (R96, R100). -/
theorem applyStanding_setGate_gatesStand {s : State} (h : s.GatesStand) {g : Nat} {y : Gate} (armed : y.armedRight = true) :
    (applyStanding g (s.setGate g y)).GatesStand := by
  have changed : ∀ i, (s.setGate g y).gateAt i = if i = g ∧ g < 16 then y else s.gateAt i := fun i => s.gateAt_setGate g i y
  refine (gatesStand_iff _).mpr fun i => applyStanding_standsAt (fun i => ?_) ?_
  · rw [changed]
    split
    · exact armed
    · exact armedRight_of_gatesStand h i
  · by_cases here : i = g
    · exact .inl here
    · refine .inr ?_
      have same : (s.setGate g y).gateAt i = s.gateAt i := by rw [changed, if_neg fun e => here e.1]
      have still : (s.setGate g y).standing i = s.standing i := standing_of_post (cutOff_of_loops rfl i) rfl (by rw [same])
      rw [State.StandsAt, same, still]
      exact (gatesStand_iff s).mp h i

/-! ## Loops (R64, R69, R98) -/

/-- A property of some unit of a bank, by its numbers. -/
theorem vector_any_iff {α : Type} {n : Nat} (v : Vector α n) (f : α → Bool) : v.toList.any f = true ↔ ∃ i : Fin n, f v[i] = true := by
  rw [List.any_eq_true]
  constructor
  · rintro ⟨x, member, holds⟩
    obtain ⟨i, bound, rfl⟩ := Vector.mem_iff_getElem.mp (Vector.mem_toList_iff.mp member)
    exact ⟨⟨i, bound⟩, holds⟩
  · rintro ⟨i, holds⟩
    exact ⟨v[i], Vector.mem_toList_iff.mpr (Vector.getElem_mem i.isLt), holds⟩

theorem cutOff_congr {s t : State} {g : Nat} (binds : ∀ l : Fin 4, (t.loopAt l).binds g = (s.loopAt l).binds g)
    (reaches : ∀ l : Fin 4, (t.loopAt l).reaches g = (s.loopAt l).reaches g) : t.cutOff g = s.cutOff g := by
  have bound : t.loops.toList.any (·.binds g) = s.loops.toList.any (·.binds g) := by
    rw [Bool.eq_iff_iff, vector_any_iff, vector_any_iff]
    exact exists_congr fun l => by rw [← State.loopAt_fin, ← State.loopAt_fin, binds l]
  have reached : t.loops.toList.any (·.reaches g) = s.loops.toList.any (·.reaches g) := by
    rw [Bool.eq_iff_iff, vector_any_iff, vector_any_iff]
    exact exists_congr fun l => by rw [← State.loopAt_fin, ← State.loopAt_fin, reaches l]
  rw [State.cutOff, State.cutOff, bound, reached]

/-- A gate that is bound neither to the loop before nor to the loop after is cut off as before (R98). -/
theorem cutOff_setLoop_unbound {s : State} {l : Fin 4} {y : LoopState} {g : Nat} (before : (s.loopAt l).binds g = false)
    (after : y.binds g = false) : (s.setLoop l y).cutOff g = s.cutOff g := by
  have unreached : ∀ x : LoopState, x.binds g = false → x.reaches g = false := fun x unbound => by
    by_contra reached
    rw [x.binds_of_reaches (by simpa using reached)] at unbound
    cases unbound
  refine cutOff_congr (fun m => ?_) fun m => ?_
  all_goals
    rw [State.loopAt_setLoop]
    split
    · rename_i here
      rw [here.1]
      simp only [before, after, unreached _ before, unreached _ after]
    · rfl

/-- A loop changed, and the change made known to a list of gates that holds those bound before and after (R54, R64, R69). -/
theorem gatesStand_learned {s u : State} (h : s.GatesStand) {l : Fin 4} {y : LoopState} (loops : u.loops = (s.setLoop l y).loops)
    (gates : u.gates = s.gates) (fire : u.fire = s.fire) {gs : List Nat}
    (learn : ∀ g < 16, (s.loopAt l).binds g = true ∨ y.binds g = true → g ∈ gs) : (applyStandings gs u).GatesStand := by
  have stands := (gatesStand_iff s).mp h
  have same : ∀ g, u.gateAt g = s.gateAt g := fun g => by rw [State.gateAt, gates, State.gateAt]
  refine applyStandings_gatesStand (fun g => by rw [same]; exact armedRight_of_gatesStand h g) fun g => ?_
  rw [State.StandsAt, same]
  by_cases isGate : g < 16
  · by_cases bound : (s.loopAt l).binds g = true ∨ y.binds g = true
    · exact .inl (learn g isGate bound)
    · obtain ⟨before, after⟩ := not_or.mp bound
      have cut : u.cutOff g = s.cutOff g := (cutOff_of_loops loops g).trans
        (cutOff_setLoop_unbound (by simpa using before) (by simpa using after))
      rw [standing_of_post cut fire (by rw [same])]
      exact .inr (stands g)
  · exact .inr fun isGate' => absurd isGate' isGate

/-- The loops changed, of which no gate can tell. -/
theorem gatesStand_of_loops {s t : State} (h : s.GatesStand) (gates : t.gates = s.gates) (fire : t.fire = s.fire)
    (binds : ∀ (l : Fin 4) (g : Nat), (t.loopAt l).binds g = (s.loopAt l).binds g)
    (reaches : ∀ (l : Fin 4) (g : Nat), (t.loopAt l).reaches g = (s.loopAt l).reaches g) : t.GatesStand := by
  refine (gatesStand_iff t).mpr fun g => ?_
  have same : t.gateAt g = s.gateAt g := by rw [State.gateAt, gates, State.gateAt]
  rw [State.StandsAt, same, standing_of_post (cutOff_congr (binds · g) (reaches · g)) fire (by rw [same])]
  exact (gatesStand_iff s).mp h g

/-- What the loop commands keep: no address configured twice, and the law of the gates. -/
structure State.LoopsAndGates (s : State) : Prop where
  apart : ∀ l : Fin 4, (s.loopAt l).AddressesApart
  stand : s.GatesStand

theorem applyStandings_loops (gs : List Nat) : ∀ s : State, (applyStandings gs s).loops = s.loops := by
  induction gs with
  | nil => exact fun _ => rfl
  | cons g rest ih => exact fun s => (ih (applyStanding g s)).trans (applyStanding_loops g s).1

theorem State.loopAt_of_loops {s t : State} (loops : t.loops = s.loops) (l : Nat) : t.loopAt l = s.loopAt l := by
  rw [State.loopAt, loops, State.loopAt]

/-- A loop replaced by one of its bindings: no address is configured twice in any loop. -/
theorem apart_setLoop {s : State} (apart : ∀ l : Fin 4, (s.loopAt l).AddressesApart) {l : Fin 4} {y : LoopState}
    (wiring : y.wiring = (s.loopAt l).wiring) (m : Fin 4) : ((s.setLoop l y).loopAt m).AddressesApart := by
  rw [State.loopAt_setLoop]
  split
  · exact LoopState.apart_of_wiring wiring (apart l)
  · exact apart m

/-- A loop turned, of which no gate can tell (R69). -/
theorem keeps_turned {s : State} (h : s.LoopsAndGates) {l : Fin 4} {y : LoopState} (same : (s.loopAt l).SameToGates y) :
    (s.setLoop l y).LoopsAndGates := by
  refine ⟨apart_setLoop h.apart same.wiring, gatesStand_of_loops h.stand rfl rfl (fun m g => ?_) fun m g => ?_⟩
  · rw [State.loopAt_setLoop]
    split
    · rename_i here
      rw [here.1]
      exact LoopState.binds_of_wiring same.wiring g
    · rfl
  · rw [State.loopAt_setLoop]
    split
    · rename_i here
      rw [here.1]
      exact same.reaches (h.apart l) g
    · rfl

/-- A loop changed in its bindings as they were, and the change delivered (R64, R69). -/
theorem keeps_moved {s u : State} (h : s.LoopsAndGates) {l : Fin 4} {y : LoopState} (wiring : y.wiring = (s.loopAt l).wiring)
    (loops : u.loops = (s.setLoop l y).loops) (gates : u.gates = s.gates) (fire : u.fire = s.fire) :
    (deliverToGates l u).LoopsAndGates := by
  have at_l : u.loopAt l = y := (State.loopAt_of_loops loops l).trans (State.loopAt_setLoop_self s l y)
  unfold deliverToGates
  refine ⟨fun m => ?_, gatesStand_learned (l := l) (y := y) h.stand loops gates fire fun g isGate bound => ?_⟩
  · rw [State.loopAt_of_loops ((applyStandings_loops _ u).trans loops)]
    exact apart_setLoop h.apart wiring m
  · rw [at_l]
    refine List.mem_filter.mpr ⟨List.mem_range.mpr isGate, ?_⟩
    rwa [LoopState.binds_of_wiring wiring, or_self_iff, ← LoopState.binds_of_wiring wiring] at bound

theorem LoopAct.keeps {s t : State} (act : LoopAct s t) (h : s.LoopsAndGates) : t.LoopsAndGates := by
  cases act with
  | linked k => exact ⟨h.apart, gatesStand_of_site rfl h.stand⟩
  | turned l y same => exact keeps_turned h same
  | moved l y k wiring => exact keeps_moved (y := y) h wiring rfl rfl rfl

theorem LoopPath.keeps {s t : State} (path : LoopPath s t) (h : s.LoopsAndGates) : t.LoopsAndGates := by
  induction path with
  | refl => exact h
  | tail _ act ih => exact act.keeps ih

/-- R54: the rows stand in ascending address order. -/
theorem apart_of_inOrder {l : LoopState} (inOrder : l.inOrder = true) : l.AddressesApart := by
  simp only [LoopState.inOrder, Bool.and_eq_true, decide_eq_true_eq] at inOrder
  obtain ⟨⟨⟨⟨⟨⟨-, ascending⟩, -⟩, -⟩, -⟩, -⟩, -⟩ := inOrder
  exact List.pairwise_map.mpr (ascending.imp fun lt => Nat.ne_of_lt lt)

end Sys2Proof.Machine
end

section
/-! PROOFS. Every step keeps the standing law of the gates: the gates' own operations, the decisions, fire, the starts, the loops, and the
dispatch. -/

namespace Sys2Proof.Machine

/-! ## Gates (R101, R104 to R106, R108) -/

theorem standsAt_of_site {s t : State} (site : t.site = s.site) {g : Nat} (stood : s.StandsAt g) : t.StandsAt g := by
  obtain ⟨loops, gates, fire, -⟩ := State.site_eq site
  exact (standsAt_congr loops gates fire g).mpr stood

theorem standsAt_setGate {s : State} {g : Nat} {y : Gate} (acts : (s.gateAt g).StandsAs y) {i : Nat} (stood : s.StandsAt i) :
    (s.setGate g y).StandsAt i := by
  have replaced : (s.gateAt i).StandsAs ((s.setGate g y).gateAt i) := by
    rw [State.gateAt_setGate]
    split
    · rename_i here
      rw [here.1]
      exact acts
    · exact .refl _
  have still : (s.setGate g y).standing i = s.standing i := standing_of_post (cutOff_of_loops rfl i) rfl replaced.post
  intro isGate
  rw [still]
  exact replaced.stands _ (stood isGate)

/-- The end of an arming is a gate disarmed; the passage resolved touches no gate (R93, R105). -/
theorem endArming_site (g : Nat) (cause : Resolution) (s : State) :
    (endArming g cause s).site = (s.setGate g (s.gateAt g).disarm).site := by
  unfold endArming
  dsimp only
  split
  · exact resolvePassage_site ..
  · rfl

theorem endArming_gatesStand {s : State} (h : s.GatesStand) (g : Nat) (cause : Resolution) : (endArming g cause s).GatesStand :=
  gatesStand_of_site (endArming_site g cause s) (gatesStand_setGate h (Gate.standsAs_disarm _))

theorem lockdownPassage_gatesStand {s : State} (h : s.GatesStand) (g : Nat) : (lockdownPassage g s).GatesStand := by
  unfold lockdownPassage
  repeat' split
  · exact endArming_gatesStand h g _
  · exact h
  · exact h

theorem passagePulse_gatesStand {s : State} (h : s.GatesStand) (g : Nat) (d : Direction) : (passagePulse g d s).GatesStand := by
  unfold passagePulse
  repeat' split
  · exact endArming_gatesStand h g _
  · exact h
  · exact gatesStand_of_site rfl h

/-- An untracked release takes the place of no passage: a gate that holds one keeps its arming (R104). -/
theorem untrackedRelease_gatesStand {s : State} (h : s.GatesStand) (g : Nat) : (untrackedRelease g s).GatesStand := by
  unfold untrackedRelease
  dsimp only
  split
  · exact gatesStand_setGate h (Gate.standsAs_hingedRelease ..)
  · rename_i turnstile
    have idle_of_not_kept : ∀ a, (s.gateAt g).arming = some a → a.cause ≠ .punch → (s.gateAt g).passage = none := by
      intro a arming other
      cases held : (s.gateAt g).passage with
      | none => rfl
      | some p =>
        have punch := Gate.arming_of_passage (armedRight_of_gatesStand h g) held
        rw [arming] at punch
        obtain rfl := Option.some.inj punch
        exact absurd rfl other
    split
    · rename_i a arming
      split
      · exact h
      · rename_i free
        refine gatesStand_setGate h (Gate.standsAs_arm turnstile (idle_of_not_kept a arming ?_) _ (by decide))
        rintro punch
        simp [punch] at free
    · rename_i unarmed
      split
      · exact h
      · refine gatesStand_setGate h (Gate.standsAs_arm turnstile ?_ _ (by decide))
        cases held : (s.gateAt g).passage with
        | none => rfl
        | some p =>
          have punch := Gate.arming_of_passage (armedRight_of_gatesStand h g) held
          rw [unarmed] at punch
          cases punch

theorem contactOpens_gatesStand {s : State} (h : s.GatesStand) (g : Nat) : (contactOpens g s).GatesStand := by
  unfold contactOpens
  dsimp only
  split
  · exact gatesStand_of_site (queueReport_site ..) (gatesStand_setGate h (.of_eq rfl rfl rfl rfl fun _ => by simp [*]))
  · exact gatesStand_setGate h (.of_eq rfl rfl rfl rfl fun _ => by simp [*])
  all_goals exact gatesStand_setGate h (.of_eq rfl rfl rfl rfl fun _ => .rfl)

theorem contactCloses_gatesStand {s : State} (h : s.GatesStand) (g : Nat) : (contactCloses g s).GatesStand := by
  unfold contactCloses
  dsimp only
  split
  · exact gatesStand_setGate h (.of_eq rfl rfl rfl rfl fun _ => by simp [*])
  · exact gatesStand_of_site (queueReport_site ..) (gatesStand_setGate h (.of_eq rfl rfl rfl rfl fun _ => by simp [*]))
  · exact gatesStand_of_site (queueReport_site ..) (gatesStand_setGate h (.of_eq rfl rfl rfl rfl fun _ => by simp [*]))
  all_goals exact gatesStand_setGate h (.of_eq rfl rfl rfl rfl fun _ => .rfl)

/-- A turnstile that is not ARMED has no passage (R103, R104). -/
theorem passage_of_not_busy {s : State} (h : s.GatesStand) {g : Nat} (turnstile : (s.gateAt g).config.kind = .turnstile)
    (idle : s.gateBusy g = false) : (s.gateAt g).passage = none := by
  cases held : (s.gateAt g).passage with
  | none => rfl
  | some p =>
    have punch := Gate.arming_of_passage (armedRight_of_gatesStand h g) held
    simp [State.gateBusy, State.gateState, turnstile, punch, GateState.busy] at idle

/-! ## Fire (R111, R112) -/

theorem endArming_armed (g : Nat) (cause : Resolution) {s : State} (armed : s.ArmedRight) : (endArming g cause s).ArmedRight := by
  intro i
  have gates := (State.site_eq (endArming_site g cause s)).2.1
  have same : (endArming g cause s).gateAt i = (s.setGate g (s.gateAt g).disarm).gateAt i :=
    congrArg (fun v : Vector Gate 16 => v.getD i Gate.cold) gates
  rw [same, State.gateAt_setGate]
  split
  · exact Gate.armedRight_idle rfl rfl
  · exact armed i

theorem gateFire_armed (g : Nat) {s : State} (armed : s.ArmedRight) : (gateFire g s).ArmedRight := by
  unfold gateFire
  refine applyStanding_armed g ?_
  split
  · exact endArming_armed g _ armed
  · exact armed

/-- A gate that has taken fire stands, and every other gate as before (R112). -/
theorem gateFire_standsAt {g : Nat} {s : State} (armed : s.ArmedRight) {i : Nat} (stood : i = g ∨ s.StandsAt i) :
    (gateFire g s).StandsAt i := by
  unfold gateFire
  split
  · exact applyStanding_standsAt (endArming_armed g _ armed) (stood.imp_right fun stood =>
      standsAt_of_site (endArming_site ..) (standsAt_setGate (Gate.standsAs_disarm _) stood))
  · exact applyStanding_standsAt armed stood

theorem foldl_gateFire_gatesStand {s : State} (armed : s.ArmedRight) : (allGates.foldl (fun s g => gateFire g s) s).GatesStand := by
  refine (gatesStand_iff _).mpr fun i isGate => foldl_standsAt (P := State.ArmedRight) (fun _ g armed => gateFire_armed g armed)
    (fun _ _ _ armed stood => gateFire_standsAt armed stood) allGates s armed i (.inl (List.mem_range.mpr isGate)) isGate

/-! ## Decisions (R82 to R89) -/

theorem journalClaim_site (s : State) : (journalClaim s).site = s.site := by
  rw [journalClaim_frame]
  rfl

theorem refusePunch_site (g : Nat) (p : Passage) (reason : Denial) (see : Bool) (s : State) :
    (refusePunch g p reason see s).state.site = s.site := by
  unfold refusePunch
  dsimp only
  split
  · rw [journalDirect_frame]
    rfl
  · rfl

theorem commitNow_site (display g : Nat) (p : Passage) (entry : Option JournalOutcome) (w : WorkerRecord) (s : State) :
    (commitNow display g p entry w s).state.site = s.site := commitPunch_site ..

theorem acceptPunch_gatesStand {s : State} (h : s.GatesStand) (display g : Nat) (p : Passage) (w : WorkerRecord) :
    (acceptPunch display g p w s).state.GatesStand := by
  have claimed := gatesStand_of_site (journalClaim_site s) h
  have committed := gatesStand_of_site (commitNow_site display g p (some .passed) w (journalClaim s)) claimed
  unfold acceptPunch
  dsimp only
  split
  · rename_i turnstile
    split
    · exact committed
    · have same : (journalClaim s).gateAt g = s.gateAt g :=
        congrArg (fun v : Vector Gate 16 => v.getD g Gate.cold) (State.site_eq (journalClaim_site s)).2.1
      refine gatesStand_setGate (s := setWorker { w with pendingGate := some g } (journalClaim s))
        (gatesStand_of_site (setWorker_site ..) claimed) (Gate.standsAs_takePassage ?_ p)
      exact (congrArg (fun x : Gate => x.config.kind) same).trans turnstile
  · exact gatesStand_setGate committed (Gate.standsAs_hingedRelease ..)

theorem decidePunch_gatesStand {s : State} (h : s.GatesStand) (g : Nat) (p : Passage) : (decidePunch g p s).state.GatesStand := by
  have refused : ∀ reason see, (refusePunch g p reason see s).state.GatesStand := fun reason see =>
    gatesStand_of_site (refusePunch_site ..) h
  have committed : ∀ display entry w, (commitNow display g p entry w s).state.GatesStand := fun display entry w =>
    gatesStand_of_site (commitNow_site ..) h
  unfold decidePunch
  split
  · exact refused _ _
  · split
    · split
      · exact refused _ _
      · exact untrackedRelease_gatesStand (gatesStand_of_site (setWorker_site ..) h) g
    · split
      · split
        · exact refused _ _
        · unfold fireExit
          split
          · exact gatesStand_of_site ((commitNow_site ..).trans (journalClaim_site s)) h
          · exact committed _ _ _
      · split
        · exact h
        · split
          · unfold entryPunch
            split
            · exact refused _ _
            · split
              · exact acceptPunch_gatesStand h _ _ _ _
              · exact refused _ _
          · unfold exitPunch
            split
            · exact acceptPunch_gatesStand h _ _ _ _
            · exact untrackedRelease_gatesStand (committed 5 none _) g

/-- A loop that takes its verdict keeps its bindings and its readers (R72). -/
theorem LoopState.takeVerdict_to_gates (l : LoopState) (o : Offer) (v : Verdict) (g : Nat) :
    (l.takeVerdict o v).binds g = l.binds g ∧ (l.takeVerdict o v).reaches g = l.reaches g := by
  have position : ∀ p : Position, (p.record o.address ⟨o.sequence, v⟩).gate = p.gate ∧
      (p.record o.address ⟨o.sequence, v⟩).present = p.present := by
    intro p
    unfold Position.record
    split <;> exact ⟨rfl, rfl⟩
  simp only [LoopState.binds, LoopState.reaches, LoopState.takeVerdict, List.any_map, Function.comp_def, (position _).1, (position _).2,
    and_self]

/-- A loop changed, of which no gate can tell. -/
theorem gatesStand_setLoop {s : State} (h : s.GatesStand) (l : Nat) {y : LoopState}
    (same : ∀ g, y.binds g = (s.loopAt l).binds g ∧ y.reaches g = (s.loopAt l).reaches g) : (s.setLoop l y).GatesStand := by
  refine gatesStand_of_loops h rfl rfl (fun m g => ?_) fun m g => ?_
  all_goals
    rw [State.loopAt_setLoop]
    split
    · rename_i here
      rw [here.1]
      simp only [same g]
    · rfl

theorem takePunch_gatesStand {s : State} (h : s.GatesStand) : (takePunch s).GatesStand := by
  unfold takePunch
  split
  · exact h
  · rename_i l o _
    split
    · exact h
    · rename_i b _
      have decided := decidePunch_gatesStand (s := { s with punch := ⟨some o, l⟩ }) (gatesStand_of_site rfl h) b.gate
        (o.passage l b.direction)
      exact gatesStand_setLoop decided l fun g => LoopState.takeVerdict_to_gates ..

/-! ## Time and starts (R1, R102, R163 to R166) -/

/-- The gates changed by a function of each (R102). -/
theorem gatesStand_of_units {s t : State} (h : s.GatesStand) (loops : t.loops = s.loops) (fire : t.fire = s.fire) {f : Nat → Gate → Gate}
    (made : t.gates = mapUnits f s.gates) (acts : ∀ g, (s.gateAt g).StandsAs (f g (s.gateAt g))) : t.GatesStand := by
  refine gatesStand_of_gates loops fire (fun g => ?_) h
  by_cases isGate : g < 16
  · rw [State.gateAt_of_units made isGate]
    exact acts g
  · rw [t.gateAt_beyond isGate, s.gateAt_beyond isGate]
    exact .refl _

theorem gateSeconds_gatesStand {s : State} (h : s.GatesStand) : (gateSeconds s).GatesStand := by
  unfold gateSeconds
  split
  · exact gatesStand_of_units h rfl rfl (f := fun _ g => g.countDown) rfl fun g => Gate.standsAs_countDown _
  · exact h

theorem secondEvent_gatesStand {s : State} (h : s.GatesStand) : (secondEvent s).GatesStand := by
  let counted : State := { s with time := s.time.secondEvent s.live }
  have site : (windowWatch (noteMinute s.plantMinute counted)).site = s.site := by
    rw [windowWatch_site, noteMinute_site]
    simp only [State.site, counted, Timebase.secondEvent_validity]
  exact gatesStand_of_site (backupSecond_site _) (gateSeconds_gatesStand (gatesStand_of_site site h))

theorem crystalPeriod_gatesStand {s : State} (h : s.GatesStand) : (crystalPeriod s).GatesStand := by
  have divided : (dividerPeriod s).GatesStand := by
    unfold dividerPeriod
    split
    · exact secondEvent_gatesStand h
    · exact gatesStand_of_site (s := s) rfl h
  unfold crystalPeriod
  split
  · exact gatesStand_of_site (tickPeriod_site _) divided
  · exact h

/-- The loops stop where they stand (R78, R163). -/
theorem stopWork_gatesStand {s : State} (h : s.GatesStand) : (stopWork s).GatesStand := by
  have stopped : ∀ l : Fin 4, (stopWork s).loopAt l = (s.loopAt l).stop := fun l =>
    vector_getD_mapUnits (fun _ (x : LoopState) => x.stop) s.loops l LoopState.cold l.isLt
  exact gatesStand_of_loops h rfl rfl (fun l g => by rw [stopped]; rfl) fun l g => by rw [stopped]; rfl

theorem Gate.begin_armed (x : Gate) (g : Nat) (v : InputLevels) : (x.begin g v).armedRight = true := by
  unfold Gate.begin Gate.rest
  dsimp only
  repeat' split
  all_goals exact Gate.armedRight_idle rfl rfl

/-- Gates at their start values are right (R115, R116). -/
theorem armedRight_of_begun {t : State} {gates : Vector Gate 16} {v : InputLevels}
    (made : t.gates = mapUnits (fun g (x : Gate) => x.begin g v) gates) : t.ArmedRight := by
  intro g
  by_cases isGate : g < 16
  · rw [State.gateAt, made, vector_getD_mapUnits _ _ _ _ isGate]
    exact Gate.begin_armed ..
  · rw [t.gateAt_beyond isGate]
    rfl

/-- The loops and the gates at their start values (R78, R115, R116). -/
def State.begun (s : State) (v : InputLevels) : State :=
  { s with loops := mapUnits (fun _ l => l.warm) s.loops, gates := mapUnits (fun g x => x.begin g v) s.gates }

theorem warmStart_begun (cause : StartCause) (duration : Nat) (v : InputLevels) (s : State) : warmStart cause duration v s =
    applyStandings allGates ((readyIfDue (allGates.foldl restartVoid (s.warmBegun cause duration v))).begun v) := rfl

/-- A warm start leaves every gate as its standing says, whatever it was (R109, R116). -/
theorem warmStart_gatesStand (cause : StartCause) (duration : Nat) (v : InputLevels) (s : State) :
    (warmStart cause duration v s).GatesStand := by
  have begun : ∀ u : State, (applyStandings allGates (u.begun v)).GatesStand := fun u =>
    applyStandings_all_gatesStand (armedRight_of_begun (t := u.begun v) (gates := u.gates) (v := v) (by rfl))
  rw [warmStart_begun]
  generalize readyIfDue (allGates.foldl restartVoid (s.warmBegun cause duration v)) = u
  exact begun u

/-- No binding and NORMAL mode: a cold start leaves no gate a standing, and no gate FREE (R96, R98, R115). -/
theorem coldStart_gatesStand (cause : StartCause) (v : InputLevels) (s : State) : (coldStart cause v s).GatesStand := by
  have made : (coldStart cause v s).gates = mapUnits (fun g (x : Gate) => x.begin g v) State.reset.gates := rfl
  refine (gatesStand_iff _).mpr fun g isGate => ⟨armedRight_of_begun made g, fun _ => ?_⟩
  have cold : State.reset.gateAt g = Gate.cold := by simp [State.gateAt, State.reset, Vector.getD, isGate]
  have gate : (coldStart cause v s).gateAt g = Gate.cold.begin g v := by
    rw [State.gateAt_of_units (s := State.reset) made isGate, cold]
  have unbound : (coldStart cause v s).cutOff g = State.reset.cutOff g := cutOff_of_loops rfl g
  have uncut : State.reset.cutOff g = false := by
    simp [State.cutOff, State.reset, LoopState.binds, LoopState.cold]
  have mode : ((coldStart cause v s).gateAt g).mode = .normal := by
    rw [gate]
    unfold Gate.begin Gate.rest
    dsimp only
    repeat' split
    all_goals rfl
  have fire : (coldStart cause v s).fire = false := rfl
  have standing : (coldStart cause v s).standing g = .nothing := by
    simp [State.standing, fire, mode, unbound, uncut]
  rw [standing, gate]
  unfold Gate.begin Gate.rest
  dsimp only
  repeat' split
  all_goals simp

theorem restoreStart_gatesStand (v : InputLevels) (s : State) : (restoreStart v s).GatesStand := by
  unfold restoreStart
  split
  · exact warmStart_gatesStand _ _ v s
  · exact coldStart_gatesStand _ v s

theorem startAfter_gatesStand {s : State} (h : s.GatesStand) (kind : Nat) (v : InputLevels) : (startAfter kind v s).GatesStand := by
  unfold startAfter
  split
  · exact warmStart_gatesStand _ _ v s
  · split
    · exact coldStart_gatesStand _ v s
    · exact h

/-! ## Requests (R54, R96, R100, R101) -/

/-- An outcome whose next state has every gate stand. -/
abbrev LeavesGates (o : Host.Outcome State Fault Refusal) : Prop := Leaves State.GatesStand o

theorem leavesGates_serve {f : State → State × Reply} {s : State} (h : s.GatesStand) (k tag : Nat) (acts : (f s).1.GatesStand) :
    LeavesGates (serve k tag f s) :=
  leaves_serve_of_linked k tag (fun _ _ stand => gatesStand_of_site rfl stand) h acts

/-- The partnerships are no part of a standing (R96, R98). -/
theorem repartner_gatesStand {s : State} (h : s.GatesStand) (g : Nat) (p : Option Nat) :
    ({ s with gates := repartner g p s.gates } : State).GatesStand := by
  refine gatesStand_of_gates (s := s) rfl rfl (fun i => ?_) h
  by_cases isGate : i < 16
  · rw [repartner_gate g p s isGate]
    exact ⟨rfl, fun d stands => ⟨stands.armed, stands.free⟩⟩
  · have beyond := State.gateAt_beyond { s with gates := repartner g p s.gates } isGate
    rw [beyond, s.gateAt_beyond isGate]
    exact .refl _

/-- A gate takes its configuration, and its standing after it (R96). -/
theorem configureGate_gatesStand {s : State} (h : s.GatesStand) {g : Nat} (isGate : g < 16) (c : GateConfig) (in0 in1 : Bool) :
    (configureGate g c in0 in1 s).GatesStand := by
  have paired := repartner_gatesStand h g c.partner
  have old := armedRight_of_gatesStand h g
  have own := repartner_gate g c.partner s isGate
  unfold configureGate
  dsimp only
  rw [own]
  generalize ({ s with gates := repartner g c.partner s.gates } : State) = u at paired
  split
  · rename_i kind
    refine applyStanding_setGate_gatesStand paired ?_
    rw [← old]
    exact Gate.armedRight_congr rfl rfl kind.symm
  · rw [clearAlarm_frame]
    refine applyStanding_setGate_gatesStand (s := { u with link := (clearAlarm g (s.gateAt g) u).link }) (gatesStand_of_site rfl paired) ?_
    unfold Gate.restartKind Gate.rest
    dsimp only
    repeat' split
    all_goals exact Gate.armedRight_idle rfl rfl

theorem setMode_gatesStand {s : State} (h : s.GatesStand) (g : Nat) (m : ControlMode) : (setMode g m s).GatesStand :=
  applyStanding_setGate_gatesStand h (armedRight_of_gatesStand h g)

theorem orderMode_leavesGates {s : State} (h : s.GatesStand) (tag gate : Nat) (m : ControlMode) {act : State → State}
    (acts : ∀ u : State, u.GatesStand → (act u).GatesStand) : LeavesGates (serve 0x41 tag (orderMode gate m act) s) := by
  refine leavesGates_serve h _ _ ?_
  unfold orderMode
  split
  · exact h
  · split
    · exact h
    · exact acts _ (setMode_gatesStand h gate m)

theorem execGateCommandRelease_leavesGates {s : State} (h : s.GatesStand) (tag gate direction : Nat) :
    LeavesGates (execGateCommandRelease tag gate direction s) := by
  unfold execGateCommandRelease
  refine leavesGates_serve h _ _ ?_
  split
  · split
    · exact h
    · split
      · exact h
      · rename_i free
        obtain ⟨idle, -⟩ : s.gateBusy gate = false ∧ s.heldByPartner gate = false := by simpa using free
        refine gatesStand_setGate h ?_
        split
        · rename_i turnstile
          exact Gate.standsAs_arm turnstile (passage_of_not_busy h turnstile idle) _ (by decide)
        · exact Gate.standsAs_hingedRelease ..
  · exact h

theorem execLoopConfig_leavesGates {s : State} (h : s.GatesStand) (tag loop : Nat) (fields : LoopFields) :
    LeavesGates (execLoopConfig tag loop fields s) := by
  unfold execLoopConfig
  refine leavesGates_serve h _ _ ?_
  split
  · exact h
  · obtain ⟨l, rfl⟩ := loop_of_within ‹_›
    split
    · exact h
    · split
      · exact h
      · dsimp only [okay]
        refine gatesStand_learned (l := l) h rfl rfl rfl fun g isGate bound => ?_
        exact List.mem_filter.mpr ⟨List.mem_range.mpr isGate, by simpa using bound⟩

theorem execClockSet_leavesGates {s : State} (h : s.GatesStand) (tag day second : Nat) : LeavesGates (execClockSet tag day second s) := by
  unfold execClockSet
  refine leavesGates_serve h _ _ ?_
  split
  · exact h
  · dsimp only [okay]
    refine gatesStand_of_site (followerClockSet_site _) ?_
    unfold timeStep
    dsimp only
    split <;> exact gatesStand_congr (s := s) rfl rfl rfl h

/-! ## Every command -/

theorem leavesGates_whileLive {f : State → State} {s : State} (h : s.GatesStand) (acts : (f s).GatesStand) :
    LeavesGates (whileLive f s) := leaves_whileLive h acts

theorem execPassagePulse_leavesGates {s : State} (h : s.GatesStand) (gate : Fin 16) (input : ActiveInput) :
    LeavesGates (execPassagePulse gate input s) := by
  unfold execPassagePulse
  refine leavesGates_whileLive h ?_
  dsimp only
  split
  · exact h
  · exact passagePulse_gatesStand (gatesStand_setGate h (Gate.standsAs_holdPulse ..)) _ _

theorem gatesStand_bells {u : State} (b : Bells) (h : u.GatesStand) : ({ u with bells := b } : State).GatesStand :=
  gatesStand_congr (s := u) rfl rfl rfl h

theorem execFireTaken_leavesGates {s : State} (h : s.GatesStand) : LeavesGates (execFireTaken s) := by
  unfold execFireTaken
  refine leavesGates_whileLive h ?_
  split
  · exact h
  · have armed : (queueReport (.fireEvent true s.plantSecond) { s with fire := true }).ArmedRight := fun g => armedRight_of_gatesStand h g
    have fired := foldl_gateFire_gatesStand armed
    dsimp only
    generalize allGates.foldl (fun s g => gateFire g s) _ = u at fired ⊢
    exact gatesStand_bells _ fired

theorem execFireCleared_leavesGates {s : State} (h : s.GatesStand) : LeavesGates (execFireCleared s) := by
  unfold execFireCleared
  refine leavesGates_whileLive h ?_
  split
  · exact h
  · have armed : (queueReport (.fireEvent false s.plantSecond) { s with fire := false }).ArmedRight := fun g => armedRight_of_gatesStand h g
    have cleared := applyStandings_all_gatesStand armed
    dsimp only
    generalize applyStandings allGates _ = u at cleared ⊢
    exact gatesStand_bells _ cleared

end Sys2Proof.Machine
end

section
/-! PROOFS. Every step keeps the gates as their arming and their standing say, with the passages and the partnerships. -/

namespace Sys2Proof.Machine

/-- Every command keeps the standing law of the gates (R104, R109). -/
theorem exec_leavesGates {s : State} (loops : s.LoopsInOrder) (h : s.GatesStand) (i : Instr) : LeavesGates (exec i s) := by
  by_cases turns : turnsLoop i = true
  · exact fun t next => ((exec_loopPath turns s t next).keeps ⟨fun l => apart_of_inOrder (loops l), h⟩).stand
  by_cases still : writesSite i = false
  · exact fun t next => gatesStand_of_site (exec_site still s t next) h
  cases i with
  | clockSet tag day second => exact execClockSet_leavesGates h tag day second
  | loopConfig tag loop fields => exact execLoopConfig_leavesGates h tag loop fields
  | gateConfig tag gate fields in0 in1 =>
    simp only [exec, execGateConfig]
    refine leavesGates_serve h _ _ ?_
    split
    · rename_i c inRange _
      have isGate := (within_iff 0 gate 15).mp inRange
      split
      · exact h
      · exact configureGate_gatesStand h (by omega) c in0 in1
    · exact h
  | gateCommandNormal tag gate => exact orderMode_leavesGates h tag gate .normal fun _ stand => stand
  | gateCommandFree tag gate => exact orderMode_leavesGates h tag gate .free fun _ stand => stand
  | gateCommandLockdown tag gate => exact orderMode_leavesGates h tag gate .lockdown fun _ stand => lockdownPassage_gatesStand stand gate
  | gateCommandRelease tag gate direction => exact execGateCommandRelease_leavesGates h tag gate direction
  | replySent levels =>
    simp only [exec, execReplySent]
    refine leavesGates_whileLive h ?_
    split
    · exact h
    · have unheld : ({ s with link := { s.link with held := none } } : State).GatesStand := gatesStand_of_site (s := s) rfl h
      split
      · exact startAfter_gatesStand unheld _ _
      · exact unheld
  | secondEvent =>
    simp only [exec, execSecondEvent]
    refine leaves_next ?_
    split
    · exact secondEvent_gatesStand h
    · exact h
  | punchTaken =>
    simp only [exec, execPunchTaken]
    refine leavesGates_whileLive h ?_
    split
    · exact h
    · exact takePunch_gatesStand h
  | passagePulse gate input => exact execPassagePulse_leavesGates h gate input
  | turnstileReleaseExpired gate =>
    simp only [exec, execTurnstileReleaseExpired]
    refine leavesGates_whileLive h ?_
    split
    · exact endArming_gatesStand h _ _
    · exact h
  | hingedReleaseExpired gate =>
    simp only [exec, execHingedReleaseExpired]
    refine leavesGates_whileLive h ?_
    split
    · exact gatesStand_setGate h (.of_eq rfl rfl rfl rfl fun _ => by simp [*])
    · exact h
  | heldOpenExpired gate =>
    simp only [exec, execHeldOpenExpired]
    refine leavesGates_whileLive h ?_
    split
    · exact gatesStand_of_site (queueReport_site ..) (gatesStand_setGate h (.of_eq rfl rfl rfl rfl fun _ => by simp [*]))
    · exact h
  | contactOpens gate =>
    simp only [exec, execContactOpens]
    refine leavesGates_whileLive h ?_
    split
    · exact contactOpens_gatesStand h _
    · exact h
  | contactCloses gate =>
    simp only [exec, execContactCloses]
    refine leavesGates_whileLive h ?_
    split
    · exact contactCloses_gatesStand h _
    · exact h
  | fireTaken => exact execFireTaken_leavesGates h
  | fireCleared => exact execFireCleared_leavesGates h
  | mainLoss vbakLow =>
    simp only [exec, execMainLoss]
    refine leaves_next ?_
    split
    · exact h
    · exact stopWork_gatesStand (gatesStand_of_site (s := s) rfl h)
  | mainRestored levels =>
    simp only [exec, execMainRestored]
    refine leaves_next ?_
    split
    · exact h
    · split
      · exact restoreStart_gatesStand _ _
      · exact gatesStand_of_site (s := s) rfl h
  | resetnLow =>
    simp only [exec, execResetnLow]
    exact leaves_next (stopWork_gatesStand (gatesStand_of_site (s := s) rfl h))
  | firstPower =>
    simp only [exec, execFirstPower]
    exact leaves_next (stopWork_gatesStand (gatesStand_of_site (s := s) rfl h))
  | resetnReleased levels =>
    simp only [exec, execResetnReleased]
    refine leaves_next ?_
    split
    · exact h
    · split
      · exact gatesStand_of_site (s := s) rfl h
      · split
        · exact restoreStart_gatesStand _ _
        · exact warmStart_gatesStand _ _ _ _
  | _ => simp [turnsLoop, writesSite] at turns still

theorem step_gatesStand {s t : State} (loops : s.LoopsInOrder) (h : s.GatesStand) (next : step s = .next t) : t.GatesStand := by
  unfold step at next
  split at next
  · obtain rfl := Host.Outcome.next.inj next
    exact crystalPeriod_gatesStand h
  · rename_i i rest _
    exact exec_leavesGates (s := s.withPending rest) loops (gatesStand_of_site (s := s) rfl h) i t next

/-- Settles O58: passages and partnerships as acts on the staff, standings through the sites. -/
theorem everyStepKeepsTheGates : Obligations.EveryStepKeepsTheGates :=
  ⟨fun _ ordered named _ next => step_passagesNamed ordered named next,
    fun _ symmetric _ next => step_partnersSymmetric symmetric next,
    fun _ loops stand _ next => step_gatesStand loops stand next⟩

end Sys2Proof.Machine
end

section
/-! PROOFS. The commits of an entry and of an exit case by case, and the end of every commit (R90 to R92). -/

namespace Sys2Proof.Machine

/-! ## Raises and finalizations in the statements' words (R39, R41) -/

theorem raiseIf_eq_raised (cond : Bool) (a : Anomaly) (owner : Option BankTag) (w : WorkerRecord) :
    raiseIf cond a owner w = if cond = true then w.raised owner (·.add a) else w := by
  unfold raiseIf
  rw [raise_eq_raised]

/-- The record with another presence and another attendance: what a commit changes of a record besides its raises and credits. -/
def WorkerRecord.visiting (w : WorkerRecord) (p : Presence) (a : Option Attendance) : WorkerRecord :=
  { w with presence := p, attendance := a }

/-- A raise reads neither presence nor attendance (R41). -/
theorem raiseIf_visiting (cond : Bool) (x : Anomaly) (owner : Option BankTag) (w : WorkerRecord) (p : Presence) (a : Option Attendance) :
    raiseIf cond x owner (w.visiting p a) = (raiseIf cond x owner w).visiting p a := by
  unfold raiseIf
  split
  · rw [raise_frame, raise_frame]
    rfl
  · rfl

theorem credited_visiting (w : WorkerRecord) (tag : BankTag) (t : TallyResult) (crew : Option Nat) (p : Presence) (a : Option Attendance) :
    (w.visiting p a).credited tag t crew = (w.credited tag t crew).visiting p a := by
  cases tag <;> rfl

theorem bank_visiting (w : WorkerRecord) (p : Presence) (a : Option Attendance) (tag : BankTag) :
    (w.visiting p a).bank tag = w.bank tag := by
  cases tag <;> rfl

/-- Nor does a credit (R126). -/
theorem creditAttendance_visiting (c : Calendar) (a : Attendance) (w : WorkerRecord) (p : Presence) (b : Option Attendance) :
    creditAttendance c a (w.visiting p b) = (creditAttendance c a w).visiting p b := by
  have credit : ∀ v : WorkerRecord, creditAttendance c a v =
      let stepped := raiseIf (tally c v.grade a).stepped .timeStepped (some a.tag) v
      raiseIf ((stepped.bank a.tag).cutShort (tally c v.grade a)) .saturated (some a.tag)
        (stepped.credited a.tag (tally c v.grade a) a.crew) := fun _ => rfl
  have grade : (w.visiting p b).grade = w.grade := rfl
  rw [credit, credit w, grade]
  dsimp only
  rw [raiseIf_visiting, bank_visiting, credited_visiting, raiseIf_visiting]

/-- The finalization reads neither presence nor the attendance that the record names (R39). -/
theorem finalized_visiting (w : WorkerRecord) (c : Calendar) (a : Attendance) (p : Presence) (b : Option Attendance) :
    (w.visiting p b).finalized c a = (w.finalized c a).visiting p none := by
  rw [WorkerRecord.finalized, creditAttendance_visiting]
  rfl

theorem finalized_presence (w : WorkerRecord) (c : Calendar) (a : Attendance) : (w.finalized c a).presence = w.presence := by
  have kept : w.finalized c a = (w.finalized c a).visiting w.presence none := finalized_visiting w c a w.presence w.attendance
  exact (congrArg WorkerRecord.presence kept).trans rfl

theorem releaseFinalized_eq (a : Attendance) (s : State) : releaseFinalized a s = s.finalized a := by
  unfold releaseFinalized State.finalized
  cases a.kind <;> cases a.tag <;> rfl

/-- Closing a segment keeps what the release of an attendance reads (R39). -/
theorem State.finalized_closed (s : State) (a : Attendance) (g : Segment) (minute : Nat) :
    s.finalized (a.closed g minute) = s.finalized a := rfl

theorem finalizeWork_eq (a : Attendance) (x : CommitWork) :
    finalizeWork a x = ⟨x.state.finalized a, x.worker.finalized x.state.calendar a⟩ := by
  rw [finalizeWork, releaseFinalized_eq]
  rfl

theorem Attendance.closeAt_eq {a : Attendance} {g : Segment} (last : a.segments.getLast? = some g) (out : Nat) :
    a.closeAt out = a.closed g out := by
  unfold Attendance.closeAt Attendance.onLast
  rw [last]
  rfl

theorem Attendance.reopenLast_eq {a : Attendance} {g : Segment} (last : a.segments.getLast? = some g) :
    a.reopenLast = { a with segments := a.segments.dropLast ++ [{ g with outMinute := none }] } := by
  unfold Attendance.reopenLast Attendance.onLast
  rw [last]
  rfl

/-! ## The commit of an entry (R90) -/

/-- SOFT_PASSBACK noted on an entry at a gate of mode SOFT (or not) by a worker whose presence was as given (R90). -/
def WorkerRecord.softly (w : WorkerRecord) (soft : Bool) (before : Presence) (owner : Option BankTag) : WorkerRecord :=
  if soft = true ∧ before = .inside then w.raised owner fun a => { a with softPassback := true } else w

theorem raiseIf_softly (soft : Bool) (before : Presence) (owner : Option BankTag) (w : WorkerRecord) :
    raiseIf (soft && decide (before = .inside)) .softPassback owner w = w.softly soft before owner := by
  rw [raiseIf_eq_raised, WorkerRecord.softly]
  simp only [Bool.and_eq_true, decide_eq_true_eq]
  rfl

theorem WorkerRecord.softly_presence (w : WorkerRecord) (soft : Bool) (before : Presence) (owner : Option BankTag) (p : Presence) :
    ({ w with presence := p } : WorkerRecord).softly soft before owner = { w.softly soft before owner with presence := p } := by
  unfold WorkerRecord.softly
  split <;> rfl

/-- The record in hand as the commit of an entry leaves it: presence IN (R90). -/
def CommitWork.inside (y : CommitWork) : CommitWork := { y with worker := { y.worker with presence := .inside } }

section
variable {s : State} {w : WorkerRecord} {m : Nat} {soft : Bool}

/-- An entry with no attendance opens one, or none (R90, cases 4 to 6). -/
theorem commitEntry_none (absent : w.attendance = none) :
    commitEntry m soft ⟨s, w⟩ = (openEntry m (soft && decide (w.presence = .inside)) ⟨s, w⟩).inside := by
  rw [commitEntry]
  simp only [absent]
  rfl

/-- R90, case 4. -/
theorem commitEntry_matched (absent : w.attendance = none) {win : Window} (matched : s.calendar.matchEntry w.crew m = some win) :
    commitEntry m soft ⟨s, w⟩ =
      ⟨{ s with calendar := { s.calendar with
          openRefs := s.calendar.openRefs.setIfInBounds (win.code - 1) (s.calendar.openRefs.getD (win.code - 1) 0 + 1) } },
        ({ w with
          presence := .inside
          attendance := some ⟨.scheduled win.code win.stop, win.start, .current, w.crew, [⟨m, none⟩]⟩ } : WorkerRecord).softly soft
            w.presence (some .current)⟩ := by
  rw [commitEntry_none absent, openEntry]
  simp only [matched, raiseIf_softly]
  unfold WorkerRecord.softly
  split <;> rfl

/-- R90, cases 5 and 6. -/
theorem commitEntry_unmatched (absent : w.attendance = none) (unmatched : s.calendar.matchEntry w.crew m = none) :
    commitEntry m soft ⟨s, w⟩ = ⟨s,
      if w.unschedAuth then ({ w with
        presence := .inside
        attendance := some ⟨.unscheduled, m, .current, w.crew, [⟨m, none⟩]⟩ } : WorkerRecord).softly soft w.presence (some .current)
      else (({ w with presence := .inside } : WorkerRecord).raised none fun a => { a with unscheduled := true }).softly soft w.presence
        none⟩ := by
  rw [commitEntry_none absent, openEntry]
  simp only [unmatched, raiseIf_softly, raise_eq_raised]
  split
  all_goals
    unfold WorkerRecord.softly
    split <;> rfl

/-- The late attendance finalized, in the statements' words (R90, case 3). -/
theorem finalizeLate_eq {a : Attendance} {g : Segment} (last : a.segments.getLast? = some g) :
    finalizeLate a ⟨s, w⟩ = ⟨s.finalized a,
      if g.outMinute = none then (w.raised (some a.tag) fun x => { x with missedOut := true }).finalized s.calendar
        (a.closed g (a.unseenOut g.inMinute))
      else w.finalized s.calendar a⟩ := by
  rw [finalizeLate, isOpen_eq last, closeUnseen_eq last, finalizeWork_eq, finalizeWork_eq, raise_eq_raised]
  cases g.outMinute <;> rfl

variable {a : Attendance} (attended : w.attendance = some a)
include attended

theorem commitEntry_attended : commitEntry m soft ⟨s, w⟩ =
    (if a.pastEnd m then openEntry m (soft && decide (w.presence = .inside)) (finalizeLate a ⟨s, w⟩)
    else if w.presence = .inside then ⟨s, w.softly soft w.presence (some a.tag)⟩
    else ⟨s, reenter m a w⟩ : CommitWork).inside := by
  rw [commitEntry]
  simp only [attended, raiseIf_softly]
  rfl

/-- R90, case 1: an entry after an exit, within the attendance. -/
theorem commitEntry_again (early : a.pastEnd m = false) (outside : w.presence = .outside) :
    commitEntry m soft ⟨s, w⟩ = (⟨s, reenter m a w⟩ : CommitWork).inside := by
  have notInside : w.presence ≠ .inside := by rw [outside]; decide
  rw [commitEntry_attended attended, early, if_neg Bool.false_ne_true, if_neg notInside]

/-- R90, case 2: an entry of a worker who is IN, within the attendance. -/
theorem commitEntry_inside (early : a.pastEnd m = false) (inside : w.presence = .inside) :
    commitEntry m soft ⟨s, w⟩ = ⟨s, w.softly soft w.presence (some a.tag)⟩ := by
  rw [commitEntry_attended attended, early, if_neg Bool.false_ne_true, if_pos inside]
  have kept : ({ w with presence := .inside } : WorkerRecord) = w := by rw [← inside]
  have noted := w.softly_presence soft w.presence (some a.tag) .inside
  rw [kept] at noted
  exact congrArg (CommitWork.mk s) noted.symm

/-- R90, case 3: the late attendance finalized, the entry goes on as for a record with none. -/
theorem commitEntry_late (late : a.pastEnd m = true) {g : Segment} (last : a.segments.getLast? = some g) :
    commitEntry m soft ⟨s, w⟩ = commitEntry m soft (finalizeLate a ⟨s, w⟩) := by
  have gone : (finalizeLate a ⟨s, w⟩).worker.attendance = none ∧ (finalizeLate a ⟨s, w⟩).worker.presence = w.presence := by
    rw [finalizeLate_eq last]
    dsimp only
    split
    · exact ⟨rfl, finalized_presence ..⟩
    · exact ⟨rfl, finalized_presence ..⟩
  rw [commitEntry_attended attended, late, if_pos rfl]
  generalize finalizeLate a ⟨s, w⟩ = x at gone
  obtain ⟨t, v⟩ := x
  rw [commitEntry_none gone.1, gone.2]

end

/-- Settles O31, case by case. -/
theorem entryCommitActsByCase : Obligations.EntryCommitActsByCase := by
  unfold Obligations.EntryCommitActsByCase
  intro s w m soft
  obtain ⟨badge, -, pending⟩ := WorkerRecord.holder_eq (commitEntry_holder m soft ⟨s, w⟩)
  refine ⟨by rw [commitEntry], badge, pending, fun absent win matched => commitEntry_matched absent matched,
    fun absent unmatched => commitEntry_unmatched absent unmatched, ?_, ?_, ?_⟩
  · intro a attended code stop kind early outside
    have early' : a.pastEnd m = false := by simpa [Attendance.pastEnd, kind] using early
    rw [commitEntry_again attended early' outside, reenter]
    refine ⟨fun few => ?_, fun full g last => ?_⟩
    · rw [if_pos few]
      rfl
    · rw [if_neg (by omega), raise_eq_raised, Attendance.reopenLast_eq last]
      rfl
  · intro a attended inside early
    have early' : a.pastEnd m = false := by
      unfold Attendance.pastEnd
      cases kind : a.kind with
      | scheduled code stop => simpa [kind] using early
      | unscheduled => rfl
    exact commitEntry_inside attended early' inside
  · intro a attended code stop kind late g last
    have late' : a.pastEnd m = true := by simpa [Attendance.pastEnd, kind] using late
    rw [commitEntry_late attended late' last, finalizeLate_eq last]

end Sys2Proof.Machine
end

section
/-! PROOFS. The commit of an exit case by case, and the end of every commit (R91, R92). -/

namespace Sys2Proof.Machine

/-! ## The commit of an exit (R91) -/

/-- UNRECORDED_EXIT noted on an exit that has no journal entry (R87, R91). -/
def WorkerRecord.unrecorded (w : WorkerRecord) (unrecorded : Bool) (owner : Option BankTag) : WorkerRecord :=
  if unrecorded then w.raised owner fun a => { a with unrecordedExit := true } else w

/-- ORPHAN_OUT noted on an exit that closes no segment (R91). -/
def WorkerRecord.orphaned (w : WorkerRecord) : WorkerRecord :=
  ({ w with presence := .outside } : WorkerRecord).raised none fun a => { a with orphanOut := true }

theorem raiseIf_unrecorded (unrecorded : Bool) (owner : Option BankTag) (w : WorkerRecord) :
    raiseIf unrecorded .unrecordedExit owner w = w.unrecorded unrecorded owner := by
  rw [raiseIf_eq_raised]
  rfl

theorem unrecorded_visiting (w : WorkerRecord) (unrecorded : Bool) (owner : Option BankTag) (p : Presence) (a : Option Attendance) :
    (w.visiting p a).unrecorded unrecorded owner = (w.unrecorded unrecorded owner).visiting p a := by
  rw [← raiseIf_unrecorded, raiseIf_visiting, raiseIf_unrecorded]

/-- The record in hand as the commit of an exit leaves it: presence OUT (R91). -/
def CommitWork.outside (y : CommitWork) : CommitWork := { y with worker := { y.worker with presence := .outside } }

section
variable {s : State} {w : WorkerRecord} {m : Nat} {unrecorded : Bool}

/-- An exit with no attendance, of a worker who is OUT or not (R91). -/
theorem commitExit_none (absent : w.attendance = none) :
    commitExit m unrecorded ⟨s, w⟩ = ⟨s,
      (if w.presence = .outside then w.orphaned else { w with presence := .outside }).unrecorded unrecorded none⟩ := by
  rw [commitExit]
  conv_lhs => simp only [absent, raiseIf_unrecorded, raiseIf_eq_raised, decide_eq_true_eq]
  unfold WorkerRecord.unrecorded
  split <;> split <;> rfl

variable {a : Attendance} (attended : w.attendance = some a)
include attended

theorem commitExit_attended : commitExit m unrecorded ⟨s, w⟩ =
    (if a.isOpen then
      let left : CommitWork := ⟨s, ({ w with attendance := some (a.closeAt m) } : WorkerRecord).unrecorded unrecorded (some a.tag)⟩
      if exitFinalizes s.calendar m a then finalizeWork (a.closeAt m) left else left
    else ⟨s, (raise .orphanOut none w).unrecorded unrecorded none⟩ : CommitWork).outside := by
  rw [commitExit]
  simp only [attended, raiseIf_unrecorded]
  rfl

variable {g : Segment} (last : a.segments.getLast? = some g)
include last

/-- An exit from an attendance whose last segment is closed (R91). -/
theorem commitExit_orphan (closed : g.outMinute.isSome = true) :
    commitExit m unrecorded ⟨s, w⟩ = ⟨s, w.orphaned.unrecorded unrecorded none⟩ := by
  have shut : a.isOpen = false := by
    rw [isOpen_eq last]
    simpa using closed
  rw [commitExit_attended attended, shut, if_neg Bool.false_ne_true, raise_eq_raised]
  unfold WorkerRecord.unrecorded
  cases unrecorded <;> rfl

/-- An exit that closes the open last segment at its minute, and finalizes the attendance or not (R91). -/
theorem commitExit_open (isOpen : g.outMinute = none) :
    commitExit m unrecorded ⟨s, w⟩ =
      let left := ({ w with presence := .outside } : WorkerRecord).unrecorded unrecorded (some a.tag)
      if exitFinalizes s.calendar m a then ⟨s.finalized a, left.finalized s.calendar (a.closed g m)⟩
      else ⟨s, { left with attendance := some (a.closed g m) }⟩ := by
  have opened : a.isOpen = true := by rw [isOpen_eq last, isOpen]; rfl
  have before := unrecorded_visiting w unrecorded (some a.tag) w.presence (some (a.closed g m))
  have after := unrecorded_visiting w unrecorded (some a.tag) .outside w.attendance
  simp only [WorkerRecord.visiting] at before after
  rw [commitExit_attended attended, if_pos opened, Attendance.closeAt_eq last, before, after]
  generalize w.unrecorded unrecorded (some a.tag) = v
  dsimp only
  split
  · rw [finalizeWork_eq, State.finalized_closed]
    have closing := finalized_visiting v s.calendar (a.closed g m) w.presence (some (a.closed g m))
    have leaving := finalized_visiting v s.calendar (a.closed g m) .outside w.attendance
    simp only [WorkerRecord.visiting] at closing leaving
    dsimp only [CommitWork.outside]
    rw [leaving, closing]
  · rfl

end

/-- Settles O32, case by case. -/
theorem exitCommitActsByCase : Obligations.ExitCommitActsByCase := by
  unfold Obligations.ExitCommitActsByCase
  intro s w m unrecorded
  obtain ⟨badge, -, pending⟩ := WorkerRecord.holder_eq (commitExit_holder m unrecorded ⟨s, w⟩)
  refine ⟨by rw [commitExit], badge, pending, fun absent => commitExit_none absent, ?_⟩
  intro a attended g last
  refine ⟨fun closed => commitExit_orphan attended last closed, fun isOpen => ⟨?_, ?_⟩⟩
  · intro code stop kind d defined
    have finalizes : exitFinalizes s.calendar m a = decide (stop ≤ m + d.leaveGrace) := by
      simp only [exitFinalizes, kind, Option.mem_def.mp defined]
    have exit := commitExit_open (s := s) (m := m) (unrecorded := unrecorded) attended last isOpen
    rw [finalizes] at exit
    refine ⟨fun early => ?_, fun late => ?_⟩
    · rw [exit, decide_eq_false (by omega), if_neg Bool.false_ne_true]
      rfl
    · rw [exit, decide_eq_true late, if_pos rfl]
      rfl
  · intro kind
    have finalizes : exitFinalizes s.calendar m a = true := by simp only [exitFinalizes, kind]
    rw [commitExit_open attended last isOpen, finalizes, if_pos rfl]
    rfl

/-! ## The end of a commit (R92) -/

/-- The work of a commit by its direction, under the passback mode of its gate (R80, R90, R91). -/
theorem commitWork_eq (g : Fin 16) (p : Passage) (unrecorded : Bool) (s : State) (w : WorkerRecord) :
    commitWork g p unrecorded ⟨s, w⟩ = match p.direction with
      | .inward => commitEntry (p.second / 60) (s.gates[g].config.passback == .soft) ⟨s, w⟩
      | .outward => commitExit (p.second / 60) unrecorded ⟨s, w⟩ := by
  rw [commitWork, State.gateAt_fin]
  rfl

/-- The end of a commit, read off its work (R92). -/
theorem completeCommit_eq (g : Nat) (p : Passage) (entry : Option JournalOutcome) (ofPassage unrecorded : Bool) (s : State)
    (w : WorkerRecord) :
    let y := commitWork g p unrecorded ⟨s, w⟩
    completeCommit g p entry ofPassage y = { s with
      journal := match entry with
        | some outcome => { s.journal.write (punchEntry g p outcome y.worker.pendingSet false) with
            reserved := s.journal.reserved - 1 }
        | none => s.journal
      workers := s.workers.map fun x => if x.badge = w.badge then { y.worker with
        lastPunch := some ⟨p.second, g⟩, pendingSet := AnomalySet.empty, changed := true
        pendingGate := if ofPassage then none else w.pendingGate } else x
      calendar := { s.calendar with openRefs := y.state.calendar.openRefs }
      period := { s.period with counter := y.state.period.counter } } := by
  have frame := commitWork_frame g p unrecorded ⟨s, w⟩
  obtain ⟨badge, -, pending⟩ := WorkerRecord.holder_eq (commitWork_holder g p unrecorded ⟨s, w⟩)
  generalize commitWork g p unrecorded ⟨s, w⟩ = y at frame badge pending ⊢
  obtain ⟨t, v⟩ := y
  dsimp only at frame badge pending ⊢
  unfold completeCommit
  rw [frame, ← badge, ← pending]
  cases entry <;> rfl

/-- Settles O33: the work by its direction, and its end written out. -/
theorem commitWritesItsEntry : Obligations.CommitWritesItsEntry := by
  unfold Obligations.CommitWritesItsEntry
  refine ⟨fun s g p unrecorded w => commitWork_eq g p unrecorded s w, fun s g p outcome ofPassage w => ?_, fun s g p ofPassage w => ?_⟩
  · exact completeCommit_eq g p (some outcome) ofPassage false s w
  · exact completeCommit_eq g p none ofPassage true s w

end Sys2Proof.Machine
end

section
/-! PROOFS. The requests of the worker table: WORKER_PUT, WORKER_REMOVE and WORKER_PRESENCE (R48, R50, R51). -/

namespace Sys2Proof.Machine

/-! ## Records by their badge (R33) -/

theorem worker_eq_none {s : State} {badge : Nat} : s.worker badge = none ↔ ∀ w ∈ s.workers, w.badge ≠ badge := by
  simp [State.worker]

/-- In a table in badge order the record of a badge replaced is that record changed by what makes the new one of it. -/
theorem replaceWorker_eq_map {ws : List WorkerRecord} (ascend : BadgesAscend ws) {w : WorkerRecord} (member : w ∈ ws)
    {f : WorkerRecord → WorkerRecord} {badge : Nat} (same : w.badge = badge) (kept : (f w).badge = badge) :
    replaceWorker (f w) ws = ws.map fun x => if x.badge = badge then f x else x := by
  refine List.map_congr_left fun x hx => ?_
  rw [kept]
  split
  · rename_i here
    rw [ascend.unique hx member (here.trans same.symm)]
  · rfl

/-- A new badge's place is after the lower badges and before the higher ones (R33). -/
theorem installWorker_eq_split {w : WorkerRecord} {ws : List WorkerRecord} (absent : ∀ x ∈ ws, x.badge ≠ w.badge) :
    installWorker w ws = ws.takeWhile (fun x => x.badge < w.badge) ++ w :: ws.dropWhile fun x => x.badge < w.badge := by
  induction ws with
  | nil => rfl
  | cons x rest ih =>
    have apart := absent x List.mem_cons_self
    have rest_split := ih fun y member => absent y (List.mem_cons_of_mem x member)
    unfold installWorker
    split
    · rename_i above
      simp [Nat.le_of_lt above]
    · rename_i notAbove
      have below : x.badge < w.badge := by omega
      simp [below, rest_split]

theorem installWorker_length (w : WorkerRecord) (ws : List WorkerRecord) : (installWorker w ws).length = ws.length + 1 := by
  obtain ⟨before, after, split, installed⟩ := installWorker_eq w ws
  rw [installed, split]
  simp [Nat.add_assoc]

/-! ## WORKER_PUT (R48) -/

/-- What WORKER_PUT refuses (R48). -/
abbrev PutOutOfRange (f : WorkerFields) : Prop :=
  f.badge < 1 ∨ 16777215 < f.badge ∨ 1 < f.status ∨ (∃ d ∈ f.validUntil, 65535 < d) ∨ (∃ c ∈ f.crew, c < 1 ∨ 8 < c) ∨ 15 < f.grade

theorem withinOpt_iff (lo : Nat) (v : Option Nat) (hi : Nat) : withinOpt lo v hi = true ↔ ¬ ∃ x ∈ v, x < lo ∨ hi < x := by
  cases v with
  | none => simp [withinOpt]
  | some x => simp [withinOpt, within_iff]

theorem workerFieldsValid_eq (f : WorkerFields) :
    workerFieldsValid f = if PutOutOfRange f then none else some (if f.status = 0 then .active else .suspended) := by
  have ranges : (isBadge f.badge && withinOpt 0 f.validUntil 65535 && withinOpt 1 f.crew 8 && within 0 f.grade 15) = true ↔
      ¬ (f.badge < 1 ∨ 16777215 < f.badge ∨ (∃ d ∈ f.validUntil, 65535 < d) ∨ (∃ c ∈ f.crew, c < 1 ∨ 8 < c) ∨ 15 < f.grade) := by
    simp only [Bool.and_eq_true, isBadge, within_iff, withinOpt_iff, Nat.not_lt_zero, false_or, not_or]
    constructor
    · rintro ⟨⟨⟨badge, day⟩, crew⟩, grade⟩
      exact ⟨by omega, by omega, day, crew, by omega⟩
    · rintro ⟨low, high, day, crew, grade⟩
      exact ⟨⟨⟨⟨by omega, by omega⟩, day⟩, crew⟩, ⟨Nat.zero_le _, by omega⟩⟩
  unfold workerFieldsValid
  by_cases named : f.status ≤ 1
  · have out : PutOutOfRange f ↔
        (f.badge < 1 ∨ 16777215 < f.badge ∨ (∃ d ∈ f.validUntil, 65535 < d) ∨ (∃ c ∈ f.crew, c < 1 ∨ 8 < c) ∨ 15 < f.grade) := by
      simp only [PutOutOfRange, Nat.not_lt.mpr named, false_or]
    simp only [ranges, out, ite_not]
    split
    · rfl
    · obtain active | suspended : f.status = 0 ∨ f.status = 1 := by omega
      · rw [active]
        rfl
      · rw [suspended]
        rfl
  · have out : PutOutOfRange f := .inr (.inr (.inl (by omega)))
    obtain ⟨n, large⟩ : ∃ n, f.status = n + 2 := ⟨f.status - 2, by omega⟩
    rw [if_pos out, large]
    split <;> rfl

theorem exec_workerPut {s : State} (ready : s.Ready) (tag : Nat) (f : WorkerFields) :
    exec (.workerPut tag f) s = .next (
      match workerFieldsValid f with
      | none => s.answered 0x20 tag .badValue (.recordCount s.workers.length)
      | some status =>
        match s.worker f.badge with
        | some w => (setWorker (w.withFields f status) s).answered 0x20 tag .ok (.recordCount s.workers.length)
        | none =>
          if s.workers.length < 4096 then
            State.answered { s with workers := installWorker (WorkerRecord.fresh f status) s.workers } 0x20 tag .ok
              (.recordCount (s.workers.length + 1))
          else s.answered 0x20 tag .tableFull (.recordCount s.workers.length)) := by
  change execWorkerPut tag f s = _
  rw [execWorkerPut, serve_ready ready]
  cases workerFieldsValid f with
  | none => rfl
  | some status =>
    cases s.worker f.badge with
    | some w =>
      dsimp only [countReply]
      rw [hold_eq_answered]
      simp [setWorker, replaceWorker]
    | none =>
      by_cases room : s.workers.length < 4096
      · simp only [Config.tableSize, if_pos room, countReply, installWorker_length]
        rfl
      · simp only [Config.tableSize, room, if_false, countReply]
        rfl

/-- Settles O18: by the field checks, and whether the table holds the badge and has room. -/
theorem workerPutReplacesOrInstalls : Obligations.WorkerPutReplacesOrInstalls := by
  unfold Obligations.WorkerPutReplacesOrInstalls
  intro s tag f ready ⟨_, ascend, _⟩
  rw [exec_workerPut ready, workerFieldsValid_eq]
  dsimp only
  by_cases invalid : PutOutOfRange f
  · rw [if_pos invalid, if_pos invalid]
  · rw [if_neg invalid, if_neg invalid]
    dsimp only
    cases found : s.worker f.badge with
    | some w =>
      obtain ⟨member, same⟩ := mem_of_worker found
      have replaced := replaceWorker_eq_map ascend member (f := fun x => x.withFields f (if f.status = 0 then .active else .suspended))
        same rfl
      have held : ∃ w ∈ s.workers, w.badge = f.badge := ⟨w, member, same⟩
      dsimp only
      rw [if_pos held, setWorker, replaced]
      refine congrArg (fun ws => Host.Outcome.next (State.answered { s with workers := ws } 0x20 tag .ok (.recordCount s.workers.length)))
        (List.map_congr_left fun x _ => ?_)
      split
      · rename_i here
        rw [WorkerRecord.withFields, ← here]
      · rfl
    | none =>
      have absent := worker_eq_none.mp found
      have unheld : ¬ ∃ w ∈ s.workers, w.badge = f.badge := fun ⟨w, member, same⟩ => absent w member same
      rw [if_neg unheld, installWorker_eq_split absent]
      rfl

/-! ## WORKER_REMOVE and WORKER_PRESENCE (R50, R51) -/

theorem bank_ne_empty_iff (b : Bank) : b.isEmpty = false ↔ b ≠ Bank.empty := by
  simp [Bank.isEmpty]

theorem exec_workerRemove {s : State} (ready : s.Ready) (tag badge : Nat) :
    exec (.workerRemove tag badge) s = .next (
      if badge < 1 ∨ 16777215 < badge then s.answered 0x22 tag .badValue .nothing
      else match s.worker badge with
        | none => s.answered 0x22 tag .notFound .nothing
        | some w =>
          if w.attendance ≠ none ∨ w.pendingGate ≠ none then s.answered 0x22 tag .inUse .nothing
          else if w.current ≠ Bank.empty ∨ w.closing ≠ Bank.empty then s.answered 0x22 tag .totalsPending .nothing
          else
            let left := s.workers.filter fun x => x.badge ≠ badge
            State.answered { s with workers := left } 0x22 tag .ok (.recordCount left.length)) := by
  change execWorkerRemove tag badge s = _
  rw [execWorkerRemove, serve_ready ready]
  simp only [isBadge, Bool.not_eq_true', not_within_iff]
  split
  · rfl
  · cases s.worker badge with
    | none => rfl
    | some w =>
      have busy : (w.attendance.isSome || w.pendingGate.isSome) = true ↔ w.attendance ≠ none ∨ w.pendingGate ≠ none := by
        simp [Option.isSome_iff_ne_none]
      have credited : (w.current.isEmpty && w.closing.isEmpty) = false ↔ w.current ≠ Bank.empty ∨ w.closing ≠ Bank.empty := by
        rw [Bool.and_eq_false_iff, bank_ne_empty_iff, bank_ne_empty_iff]
      simp only [busy, credited]
      split
      · rfl
      · split
        · rfl
        · have others : (fun x : WorkerRecord => x.badge != badge) = fun x => decide (x.badge ≠ badge) := by
            funext x
            simp [bne, beq_eq_decide]
          rw [others]
          rfl

/-- The values of a presence (R35). -/
theorem presenceOf_eq (value : Nat) : presenceOf value =
    if 2 < value then none else some (if value = 0 then .inside else if value = 1 then .outside else .unknown) := by
  obtain _ | _ | _ | n := value
  · rfl
  · rfl
  · rfl
  · rw [if_pos (by omega)]
    rfl

theorem exec_workerPresence {s : State} (ready : s.Ready) (tag badge value : Nat) :
    exec (.workerPresence tag badge value) s = .next (
      if badge < 1 ∨ 16777215 < badge ∨ 2 < value then s.answered 0x23 tag .badValue .nothing
      else match s.worker badge with
        | none => s.answered 0x23 tag .notFound .nothing
        | some w =>
          if w.attendance ≠ none ∨ w.pendingGate ≠ none then s.answered 0x23 tag .inUse .nothing
          else (setWorker { w with
            presence := if value = 0 then .inside else if value = 1 then .outside else .unknown, changed := true } s).answered
              0x23 tag .ok .nothing) := by
  change execWorkerPresence tag badge value s = _
  rw [execWorkerPresence, serve_ready ready, presenceOf_eq]
  by_cases isBadge' : badge < 1 ∨ 16777215 < badge
  · have shut : isBadge badge = false := (not_within_iff ..).mpr isBadge'
    have refused : badge < 1 ∨ 16777215 < badge ∨ 2 < value := by omega
    rw [if_pos refused]
    simp only [shut]
    rfl
  · have held : isBadge badge = true := (within_iff ..).mpr (by omega)
    by_cases high : 2 < value
    · have refused : badge < 1 ∨ 16777215 < badge ∨ 2 < value := .inr (.inr high)
      rw [if_pos refused]
      simp only [held, high, if_true]
      rfl
    · have accepted : ¬ (badge < 1 ∨ 16777215 < badge ∨ 2 < value) := by omega
      rw [if_neg accepted]
      simp only [held, if_neg high]
      cases s.worker badge with
      | none => rfl
      | some w =>
        have busy : (w.attendance.isSome || w.pendingGate.isSome) = true ↔ w.attendance ≠ none ∨ w.pendingGate ≠ none := by
          simp [Option.isSome_iff_ne_none]
        simp only [busy]
        split <;> rfl

/-- Settles O19: each request by its own lemma; the record of a badge is one. -/
theorem workerRemoveAndPresenceFollowTheirChecks : Obligations.WorkerRemoveAndPresenceFollowTheirChecks := by
  unfold Obligations.WorkerRemoveAndPresenceFollowTheirChecks
  refine ⟨fun s tag badge ready => exec_workerRemove ready tag badge, fun s tag badge value ready ⟨_, ascend, _⟩ => ?_⟩
  rw [exec_workerPresence ready]
  split
  · rfl
  · have lookup : s.workers.find? (fun w => w.badge == badge) = s.worker badge := rfl
    rw [lookup]
    cases found : s.worker badge with
    | none => rfl
    | some w =>
      obtain ⟨member, same⟩ := mem_of_worker found
      have replaced := replaceWorker_eq_map ascend member (f := fun x => { x with
        presence := if value = 0 then .inside else if value = 1 then .outside else .unknown, changed := true }) same same
      dsimp only
      rw [setWorker, replaced]

end Sys2Proof.Machine
end

section
/-! PROOFS. COLLECT_CHANGED: the marked records that fit, and the length of a record in a reply (R52, R167, R173). -/

namespace Sys2Proof.Machine

/-! ## The records that fit (R52) -/

/-- The bytes that records take in a reply (R173). -/
def bytesOf (ws : List WorkerRecord) : Nat := (ws.map fun w => (Layout.workerRecord w).length).sum

/-- As many of the records as fit: a front of the list within the room, which one more record would exceed. -/
theorem takeFitting_spec (ws : List WorkerRecord) (room : Nat) :
    takeFitting room ws = ws.take (takeFitting room ws).length ∧ bytesOf (ws.take (takeFitting room ws).length) ≤ room ∧
      ((takeFitting room ws).length < ws.length → room < bytesOf (ws.take ((takeFitting room ws).length + 1))) := by
  induction ws generalizing room with
  | nil => simp [takeFitting, bytesOf]
  | cons w rest ih =>
    unfold takeFitting
    dsimp only
    split
    · rename_i fits
      obtain ⟨front, within, next⟩ := ih (room - (Layout.workerRecord w).length)
      have bytes : ∀ n, bytesOf ((w :: rest).take (n + 1)) = (Layout.workerRecord w).length + bytesOf (rest.take n) := fun n => by
        simp [bytesOf]
      refine ⟨?_, ?_, fun more => ?_⟩
      · rw [List.length_cons, List.take_succ_cons, ← front]
      · rw [List.length_cons, bytes]
        omega
      · rw [List.length_cons, List.length_cons] at more
        rw [List.length_cons, bytes]
        have := next (by omega)
        omega
    · rename_i exceeds
      simp only [List.length_nil, List.take_zero, true_and]
      refine ⟨Nat.zero_le _, fun _ => ?_⟩
      simpa [bytesOf] using exceeds

/-! ## The length of a record (R173, Tables 3.1 to 3.3) -/

@[simp] theorem num_length (n v : Nat) : (Layout.num n v).length = n := by
  induction n with
  | zero => rfl
  | succ n ih => rw [Layout.num, List.length_cons, ih]

@[simp] theorem flag_length (b : Bool) : (Layout.flag b).length = 1 := num_length ..

@[simp] theorem subset_length (members : List Bool) : (Layout.subset members).length = 1 := num_length ..

@[simp] theorem anomalySet_length (s : AnomalySet) : (Layout.anomalySet s).length = 1 := subset_length _

theorem opt_length_le {α : Type} {f : α → List Byte} {n : Nat} (bound : ∀ x, (f x).length ≤ n) (o : Option α) :
    (Layout.opt f o).length ≤ 1 + n := by
  cases o with
  | none =>
    rw [Layout.opt, num_length]
    omega
  | some x =>
    rw [Layout.opt, List.length_append, num_length]
    exact Nat.add_le_add_left (bound x) 1

theorem opt_num_length_le (n : Nat) (o : Option Nat) : (Layout.opt (Layout.num n) o).length ≤ 1 + n :=
  opt_length_le (fun x => (num_length n x).le) o

theorem flatMap_length_le {α : Type} {f : α → List Byte} {n : Nat} (bound : ∀ x, (f x).length ≤ n) (l : List α) :
    (l.flatMap f).length ≤ l.length * n := by
  induction l with
  | nil => simp
  | cons x rest ih =>
    rw [List.flatMap_cons, List.length_append, List.length_cons, Nat.succ_mul]
    have := bound x
    omega

theorem bank_length_le (b : Bank) : (Layout.bank b).length ≤ 14 := by
  have crew := opt_num_length_le 1 b.crew
  simp only [Layout.bank, List.length_append, num_length, anomalySet_length]
  omega

/-- An attendance of at most four segments takes at most 52 bytes. -/
theorem attendance_length_le {a : Attendance} (few : a.segments.length ≤ 4) : (Layout.attendance a).length ≤ 52 := by
  have crew := opt_num_length_le 1 a.crew
  have segments := flatMap_length_le (f := fun (g : Segment) => Layout.num 4 g.inMinute ++ Layout.opt (Layout.num 4) g.outMinute) (n := 9)
    (fun g => by
      have out := opt_num_length_le 4 g.outMinute
      rw [List.length_append, num_length]
      omega) a.segments
  unfold Layout.attendance
  cases a.kind with
  | scheduled code stop =>
    have shift := opt_num_length_le 1 (some code)
    have limit := opt_num_length_le 4 (some stop)
    simp only [Layout.list, List.length_append, num_length]
    omega
  | unscheduled =>
    have shift := opt_num_length_le 1 none
    have limit := opt_num_length_le 4 none
    simp only [Layout.list, List.length_append, num_length]
    omega

/-- A record of the table fits whole in the room of one reply (R38, R52). -/
theorem workerRecord_length_le {w : WorkerRecord} (agrees : w.agrees = true) : (Layout.workerRecord w).length ≤ 245 := by
  have attended : (Layout.opt Layout.attendance w.attendance).length ≤ 53 := by
    cases attendance : w.attendance with
    | none =>
      rw [Layout.opt, num_length]
      omega
    | some a =>
      simp only [WorkerRecord.agrees, attendance, Bool.and_eq_true, within_iff] at agrees
      obtain ⟨⟨⟨⟨-, few⟩, -⟩, -⟩, -⟩ := agrees
      have := attendance_length_le few
      rw [Layout.opt, List.length_append, num_length]
      omega
  have last := opt_length_le (f := fun (p : LastPunch) => Layout.num 5 p.second ++ Layout.num 1 p.gate) (n := 6)
    (fun p => by simp) w.lastPunch
  have validUntil := opt_num_length_le 2 w.validUntil
  have crew := opt_num_length_le 1 w.crew
  have pending := opt_num_length_le 1 w.pendingGate
  have current := bank_length_le w.current
  have closing := bank_length_le w.closing
  simp only [Layout.workerRecord, List.length_append, num_length, flag_length, anomalySet_length]
  omega

/-! ## COLLECT_CHANGED (R52) -/

theorem exec_collectChanged {s : State} (ready : s.Ready) (tag cursor k : Nat) :
    exec (.collectChanged tag cursor k) s = .next (
      if 16777215 < cursor ∨ k < 1 ∨ 8 < k then s.answered 0x24 tag .badValue .nothing
      else
        let given := takeFitting 245 ((s.markedBeyond cursor).take k)
        State.answered { s with workers := s.workers.map fun w =>
            if w.badge ∈ given.map (·.badge) then { w with changed := false } else w } 0x24 tag .ok
          (.workers given (given.length < (s.markedBeyond cursor).length))) := by
  change execCollectChanged tag cursor k s = _
  rw [execCollectChanged, serve_ready ready]
  have refused : (!(within 0 cursor 16777215 && within 1 k 8)) = true ↔ 16777215 < cursor ∨ k < 1 ∨ 8 < k := by
    rw [Bool.not_eq_true', Bool.and_eq_false_iff, not_within_iff, not_within_iff]
    omega
  have named : ∀ (ws : List WorkerRecord) (badge : Nat), (ws.any fun x => x.badge == badge) = true ↔ badge ∈ ws.map (·.badge) := by
    simp
  simp only [refused, named]
  split <;> rfl

/-- The marked records beyond a cursor, as the statements write them (R52). -/
theorem markedBeyond_eq (s : State) (cursor : Nat) :
    s.markedBeyond cursor = s.workers.filter fun w => cursor < w.badge ∧ w.changed = true :=
  List.filter_congr fun w _ => by simp [Bool.decide_and]

/-- Settles O20: the reply by its own lemma, the front that fits, and the bound on one record. -/
theorem collectChangedWalksTheMarkedRecords : Obligations.CollectChangedWalksTheMarkedRecords := by
  unfold Obligations.CollectChangedWalksTheMarkedRecords
  intro s tag cursor k ready _
  refine ⟨fun bad => by rw [exec_collectChanged ready, if_pos bad], fun reach low high => ?_⟩
  have accepted : ¬ (16777215 < cursor ∨ k < 1 ∨ 8 < k) := by omega
  have reply := exec_collectChanged ready tag cursor k
  rw [if_neg accepted, markedBeyond_eq] at reply
  dsimp only at reply ⊢
  have inTable : ∀ w ∈ s.workers.filter (fun w => decide (cursor < w.badge ∧ w.changed = true)), w ∈ s.workers :=
    fun w member => List.mem_of_mem_filter member
  generalize s.workers.filter (fun w => decide (cursor < w.badge ∧ w.changed = true)) = marked at reply inTable ⊢
  obtain ⟨front, fits, exceeds⟩ := takeFitting_spec (marked.take k) 245
  refine ⟨reply, front, fits, exceeds, fun agree some_marked => ?_⟩
  have first_fits : ∀ w ∈ marked, bytesOf [w] ≤ 245 := fun w member => by
    simpa [bytesOf] using workerRecord_length_le (agree w (inTable w member))
  obtain ⟨w, rest, rfl⟩ := List.exists_cons_of_ne_nil some_marked
  obtain ⟨n, rfl⟩ : ∃ n, k = n + 1 := ⟨k - 1, by omega⟩
  by_contra none_given
  have empty : (takeFitting 245 ((w :: rest).take (n + 1))).length = 0 := by omega
  rw [empty] at exceeds
  have too_long := exceeds (by simp)
  have fits_alone := first_fits w List.mem_cons_self
  simp only [List.take_succ_cons, List.take_zero] at too_long
  omega

end Sys2Proof.Machine
end

section
/-! PROOFS. The requests of the reader loops and the frames a loop sends (Sections 4.1, 4.2, 4.5, 4.6, 4.10): what each does, and after it
the statement that rests on it. -/

namespace Sys2Proof.Machine

/-! ## A loop replaced, and its change made known (R64, R69) -/

@[simp] theorem State.setLoop_self (s : State) (l : Nat) : s.setLoop l (s.loopAt l) = s := by
  have same : s.loops.setIfInBounds l (s.loops.getD l LoopState.cold) = s.loops := by
    apply Vector.ext
    intro i hi
    rw [Vector.getElem_setIfInBounds]
    split
    · subst_vars
      simp [Vector.getD, hi]
    · rfl
  rw [State.setLoop, State.loopAt, same]

@[simp] theorem State.setLoop_setLoop (s : State) (l : Nat) (x y : LoopState) : (s.setLoop l x).setLoop l y = s.setLoop l y := by
  simp [State.setLoop]

/-- A change of loop state in the statements' words: the loop moved, with its LOOP_EVENT (R64, R69). -/
theorem changeMode_eq_loopMoved (l : Fin 4) (cause : LoopCause) {y : LoopState} {s : State}
    (same : ∀ g, (s.loopAt l).binds g = y.binds g) :
    changeMode l cause y s = s.loopMoved l y [.loopEvent l (s.loopAt l).mode y.mode cause (s.time.day * 86400 + s.time.second)
      ((y.positions.filter (·.present)).map (·.address))] :=
  deliverToGates_eq l y [_] s same

/-- The change of a loop that has just been replaced by one of the same bindings is the change of the loop before. -/
theorem State.loopMoved_setLoop (s : State) (l : Fin 4) {x : LoopState} (same : (s.loopAt l).wiring = x.wiring) (y : LoopState)
    (reports : List Report) : (s.setLoop l x).loopMoved l y reports = s.loopMoved l y reports := by
  have loops : (s.setLoop l x).loops.setIfInBounds l y = s.loops.setIfInBounds l y := Vector.setIfInBounds_setIfInBounds ..
  have binds : ∀ g, ((s.setLoop l x).loopAt l).binds g = (s.loopAt l).binds g := fun g => by
    rw [State.loopAt_setLoop_self, LoopState.binds_of_wiring same]
  rw [State.loopMoved, State.loopMoved, loops]
  congr 1
  funext g
  rw [binds]

theorem changeMode_setLoop (l : Fin 4) (cause : LoopCause) {s : State} {x y : LoopState} (before : (s.loopAt l).wiring = x.wiring)
    (after : x.wiring = y.wiring) :
    changeMode l cause y (s.setLoop l x) = s.loopMoved l y [.loopEvent l x.mode y.mode cause (s.time.day * 86400 + s.time.second)
      ((y.positions.filter (·.present)).map (·.address))] := by
  rw [changeMode_eq_loopMoved l cause fun g => by rw [State.loopAt_setLoop_self, LoopState.binds_of_wiring after],
    State.loopAt_setLoop_self, State.loopMoved_setLoop s l before]
  rfl

/-! ## The end of an exchange (R62, R65, R70, R71) -/

/-- The next address polled, in the statements' words (R65). -/
theorem pollOf_nextAddress (x : LoopState) : pollOf x.nextAddress = x.pollNext := by
  unfold LoopState.nextAddress LoopState.pollNext LoopState.lowest
  cases x.positions.find? fun p => x.cursor < p.address <;> cases x.positions.head? <;> rfl

theorem pollOf_lowest (x : LoopState) :
    pollOf x.lowest = (x.positions.head?.map fun p => Exchange.sendingPoll p.address).getD .idle := by
  unfold LoopState.lowest
  cases x.positions.head? <;> rfl

/-- The roll call is complete when the highest configured address has been polled (R62). -/
theorem rollCallDone_iff (x : LoopState) : x.rollCallDone = true ↔ ∀ p ∈ x.positions.getLast?, p.address = x.cursor := by
  unfold LoopState.rollCallDone LoopState.highest
  cases x.positions.getLast? with
  | none => simp
  | some p => simpa using eq_comm

/-- An exchange complete on a loop that has just been replaced is the statements' (R62, R65, R70, R71). -/
theorem finishExchange_setLoop (l : Fin 4) (answer : Answer) {s : State} {x : LoopState} (wiring : (s.loopAt l).wiring = x.wiring)
    (mode : (s.loopAt l).mode = x.mode) (on : x.mode ≠ .off) (used : x.mode ≠ .testing) :
    finishExchange l answer (s.setLoop l x) = s.exchangeEnded l (x.afterExchange answer) := by
  unfold finishExchange State.exchangeEnded LoopState.afterExchange
  simp only [State.loopAt_setLoop_self, mode, pollOf_nextAddress, rollCallDone_iff, State.setLoop_setLoop]
  cases now : x.mode with
  | off => exact absurd now on
  | testing => exact absurd now used
  | training =>
    dsimp only
    split
    · rw [LoopState.enterUp, pollOf_lowest]
      exact (changeMode_setLoop l .trained wiring (by rfl)).trans (by rw [now])
    · rfl
  | up =>
    dsimp only
    split
    · exact (changeMode_setLoop l .loss wiring (by rfl)).trans (by rw [now])
    · rfl
  | lost =>
    dsimp only
    split
    · exact (changeMode_setLoop l .regained wiring (by rfl)).trans (by rw [now]; rfl)
    · rfl

theorem finishExchange_eq (l : Fin 4) (answer : Answer) {s : State} (on : (s.loopAt l).mode ≠ .off)
    (used : (s.loopAt l).mode ≠ .testing) : finishExchange l answer s = s.exchangeEnded l ((s.loopAt l).afterExchange answer) := by
  have ended := finishExchange_setLoop l answer (s := s) rfl rfl on used
  rwa [State.setLoop_self] at ended

/-- A number that `within 0 · 3` admits is a loop's, and the others are refused (R54, R61, R63, R74). -/
theorem not_within_loop {loop : Nat} : (!within 0 loop 3) = true ↔ 3 < loop := by
  rw [Bool.not_eq_true', not_within_iff]
  omega

/-! ## LOOP_CONFIG (R54) -/

/-- The bit rates by their numbers (Table 4.2). -/
theorem bitRateOf_cases (n : Nat) : (n ≤ 2 ∧ ∃ r, bitRateOf n = some r ∧ Layout.bitRate r = n) ∨ (2 < n ∧ bitRateOf n = none) := by
  match n with
  | 0 => exact .inl ⟨by omega, _, rfl, rfl⟩
  | 1 => exact .inl ⟨by omega, _, rfl, rfl⟩
  | 2 => exact .inl ⟨by omega, _, rfl, rfl⟩
  | n + 3 => exact .inr ⟨by omega, rfl⟩

/-- The codings by their numbers (Table 4.2). -/
theorem codingOf_cases (n : Nat) : (n ≤ 1 ∧ ∃ c, codingOf n = some c ∧ Layout.coding c = n) ∨ (1 < n ∧ codingOf n = none) := by
  match n with
  | 0 => exact .inl ⟨by omega, _, rfl, rfl⟩
  | 1 => exact .inl ⟨by omega, _, rfl, rfl⟩
  | n + 2 => exact .inr ⟨by omega, rfl⟩

/-- The checks by their numbers (Table 4.2). -/
theorem checkKindOf_cases (n : Nat) :
    (n ≤ 1 ∧ ∃ c, checkKindOf n = some c ∧ Layout.checkKind c = n) ∨ (1 < n ∧ checkKindOf n = none) := by
  match n with
  | 0 => exact .inl ⟨by omega, _, rfl, rfl⟩
  | 1 => exact .inl ⟨by omega, _, rfl, rfl⟩
  | n + 2 => exact .inr ⟨by omega, rfl⟩

/-- The directions by their numbers (R54). -/
theorem directionOf_cases (n : Nat) :
    (n ≤ 1 ∧ ∃ d, directionOf n = some d ∧ Layout.direction d = n) ∨ (1 < n ∧ directionOf n = none) := by
  match n with
  | 0 => exact .inl ⟨by omega, _, rfl, rfl⟩
  | 1 => exact .inl ⟨by omega, _, rfl, rfl⟩
  | n + 2 => exact .inr ⟨by omega, rfl⟩

/-- A binding's own conditions (R54). -/
theorem bindingValid_iff (b : BindingFields) :
    bindingValid b = true ↔ 1 ≤ b.address ∧ b.address ≤ 8 ∧ b.gate ≤ 15 ∧ b.direction ≤ 1 := by
  obtain ⟨inList, d, named, -⟩ | ⟨beyond, none⟩ := directionOf_cases b.direction
  · simp [bindingValid, within_iff, named, inList]
    tauto
  · simp [bindingValid, none]
    omega

/-- Fields that meet the conditions of R54 make a configuration of them. -/
theorem loopConfigOf_inTable {f : LoopFields} (inTable : LoopFieldsInTable f) :
    ∃ rate coding check,
      loopConfigOf f = some ⟨rate, coding, check, f.npre, f.nsync, f.window, f.nmiss, f.dlos, f.clos⟩ ∧
        Layout.bitRate rate = f.rate ∧ Layout.coding coding = f.coding ∧ Layout.checkKind check = f.check := by
  obtain ⟨rateIn, codingIn, checkIn, npre, npre', nsync, nsync', window, window', nmiss, nmiss', dlos, dlos', clos, clos', few, apart,
    valid⟩ := inTable
  obtain ⟨-, rate, rateOf, rateIs⟩ | ⟨beyond, -⟩ := bitRateOf_cases f.rate
  swap; · omega
  obtain ⟨-, coding, codingOf, codingIs⟩ | ⟨beyond, -⟩ := codingOf_cases f.coding
  swap; · omega
  obtain ⟨-, check, checkOf, checkIs⟩ | ⟨beyond, -⟩ := checkKindOf_cases f.check
  swap; · omega
  refine ⟨rate, coding, check, ?_, rateIs, codingIs, checkIs⟩
  have bindings : f.positions.all bindingValid = true := List.all_eq_true.mpr fun b member => (bindingValid_iff b).mpr (valid b member)
  have distinct : (f.positions.map (·.address)).Nodup := List.pairwise_map.mpr apart
  simp [loopConfigOf, within_iff, *]

/-- Fields that do not meet the conditions of R54 make none. -/
theorem loopConfigOf_outside {f : LoopFields} (outside : ¬ LoopFieldsInTable f) : loopConfigOf f = none := by
  unfold loopConfigOf
  split
  · rename_i rate coding check rateOf codingOf checkOf
    refine if_neg fun valid => outside ?_
    obtain ⟨rateIn, -⟩ | ⟨-, none⟩ := bitRateOf_cases f.rate
    swap; · simp [none] at rateOf
    obtain ⟨codingIn, -⟩ | ⟨-, none⟩ := codingOf_cases f.coding
    swap; · simp [none] at codingOf
    obtain ⟨checkIn, -⟩ | ⟨-, none⟩ := checkKindOf_cases f.check
    swap; · simp [none] at checkOf
    simp only [Bool.and_eq_true, within_iff, decide_eq_true_eq, List.all_eq_true, bindingValid_iff] at valid
    obtain ⟨⟨⟨⟨⟨⟨⟨⟨npre, nsync⟩, window⟩, nmiss⟩, dlos⟩, clos⟩, few⟩, bindings⟩, distinct⟩ := valid
    exact ⟨rateIn, codingIn, checkIn, npre.1, npre.2, nsync.1, nsync.2, window.1, window.2, nmiss.1, nmiss.2, dlos.1, dlos.2, clos.1,
      clos.2, few, List.pairwise_map.mp distinct, bindings⟩
  · rfl

theorem insertBinding_perm (b : BindingFields) (l : List BindingFields) : (insertBinding b l).Perm (b :: l) := by
  induction l with
  | nil => exact .refl _
  | cons x rest ih =>
    unfold insertBinding
    split
    · exact .refl _
    · exact (ih.cons x).trans (.swap b x rest)

theorem insertBinding_ascends {b : BindingFields} {l : List BindingFields} (new : ∀ x ∈ l, b.address ≠ x.address)
    (ascends : l.Pairwise fun x y => x.address < y.address) : (insertBinding b l).Pairwise fun x y => x.address < y.address := by
  induction l with
  | nil => exact List.pairwise_singleton ..
  | cons x rest ih =>
    obtain ⟨least, ascends'⟩ := List.pairwise_cons.mp ascends
    have apart := new x List.mem_cons_self
    unfold insertBinding
    split
    · rename_i below
      refine List.pairwise_cons.mpr ⟨fun y member => ?_, ascends⟩
      obtain rfl | member := List.mem_cons.mp member
      · exact below
      · exact below.trans (least y member)
    · refine List.pairwise_cons.mpr ⟨fun y member => ?_, ih (fun y member => new y (List.mem_cons_of_mem x member)) ascends'⟩
      obtain rfl | member := List.mem_cons.mp ((insertBinding_perm b rest).mem_iff.mp member)
      · omega
      · exact least y member

/-- The bindings as LOOP_CONFIG stores them are those it carries. -/
theorem sorted_bindings_perm (l : List BindingFields) : (l.foldr insertBinding []).Perm l := by
  induction l with
  | nil => exact .refl _
  | cons b rest ih => exact (insertBinding_perm b _).trans (ih.cons b)

/-- Bindings of different addresses are stored in ascending order of address (R54). -/
theorem sorted_bindings_ascend {l : List BindingFields} (apart : l.Pairwise fun x y => x.address ≠ y.address) :
    (l.foldr insertBinding []).Pairwise fun x y => x.address < y.address := by
  induction l with
  | nil => exact .nil
  | cons b rest ih =>
    obtain ⟨new, apart'⟩ := List.pairwise_cons.mp apart
    exact insertBinding_ascends (fun x member => new x ((sorted_bindings_perm rest).mem_iff.mp member)) (ih apart')

/-- The positions that LOOP_CONFIG stores for a loop (R54). -/
def LoopState.bound (l : LoopState) (f : LoopFields) : List Position := (f.positions.foldr insertBinding []).map l.bind

/-- What a stored position shows of its binding. -/
theorem LoopState.bind_fields (l : LoopState) {b : BindingFields} (inList : b.direction ≤ 1) :
    (⟨(l.bind b).address, (l.bind b).gate, Layout.direction (l.bind b).direction⟩ : BindingFields) = b := by
  obtain ⟨-, d, named, numbered⟩ | ⟨beyond, -⟩ := directionOf_cases b.direction
  · simp [LoopState.bind, named, numbered]
  · omega

theorem LoopState.bound_perm (l : LoopState) {f : LoopFields} (inTable : LoopFieldsInTable f) :
    ((l.bound f).map fun p => (⟨p.address, p.gate, Layout.direction p.direction⟩ : BindingFields)).Perm f.positions := by
  obtain ⟨-, -, -, -, -, -, -, -, -, -, -, -, -, -, -, -, -, valid⟩ := inTable
  have stored : (l.bound f).map (fun p => (⟨p.address, p.gate, Layout.direction p.direction⟩ : BindingFields)) =
      f.positions.foldr insertBinding [] := by
    rw [LoopState.bound, List.map_map, List.map_congr_left (g := id), List.map_id]
    intro b member
    exact l.bind_fields (valid b ((sorted_bindings_perm f.positions).mem_iff.mp member)).2.2.2
  rw [stored]
  exact sorted_bindings_perm f.positions

theorem exec_loopConfig {s : State} (ready : s.Ready) (tag loop : Nat) (f : LoopFields) :
    exec (.loopConfig tag loop f) s = .next (
      if 3 < loop then s.answered 0x30 tag .badValue .nothing
      else if (s.loopAt loop).mode ≠ .off then s.answered 0x30 tag .state .nothing
      else match loopConfigOf f with
        | none => s.answered 0x30 tag .badValue .nothing
        | some c => State.answered
            (s.loopMoved loop { s.loopAt loop with config := c, positions := (s.loopAt loop).bound f } []) 0x30 tag .ok .nothing) := by
  change execLoopConfig tag loop f s = _
  rw [execLoopConfig, serve_ready ready]
  simp only [not_within_loop, applyStandings_filter]
  split
  · rfl
  · split
    · rfl
    · cases loopConfigOf f <;> rfl

/-- Settles O21: the configuration by the fields' own lists, the positions by the order in which the bindings are stored. -/
theorem loopConfigStoresItsBindings : Obligations.LoopConfigStoresItsBindings := by
  unfold Obligations.LoopConfigStoresItsBindings
  intro s tag loop f ready
  rw [exec_loopConfig ready]
  refine ⟨fun beyond => by rw [if_pos beyond], fun isLoop on => by rw [if_neg (Nat.not_lt.mpr isLoop), if_pos on],
    fun isLoop off outside => by rw [if_neg (Nat.not_lt.mpr isLoop), if_neg (not_not_intro off), loopConfigOf_outside outside],
    fun isLoop off inTable => ?_⟩
  obtain ⟨rate, coding, check, valid, rateIs, codingIs, checkIs⟩ := loopConfigOf_inTable inTable
  rw [if_neg (Nat.not_lt.mpr isLoop), if_neg (not_not_intro off), valid]
  refine ⟨_, rfl, ?_⟩
  have stored : ∀ y, ((s.loopMoved loop y []).answered 0x30 tag .ok .nothing).loopAt loop = y := fun y =>
    (State.loopAt_setLoop s loop loop y).trans (if_pos ⟨rfl, by omega⟩)
  dsimp only
  simp only [stored]
  obtain ⟨-, -, -, -, -, -, -, -, -, -, -, -, -, -, -, -, apart, -⟩ := id inTable
  refine ⟨trivial, trivial, rateIs, codingIs, checkIs, ?_, (s.loopAt loop).bound_perm inTable, fun p member => ?_⟩
  · exact List.pairwise_map.mpr (sorted_bindings_ascend apart)
  · obtain ⟨b, -, rfl⟩ := List.mem_map.mp member
    exact ⟨rfl, rfl, rfl⟩

/-! ## LOOP_START, LOOP_STOP and LOOP_TEST (R61, R63, R74) -/

/-- Positions cleared bind the gates they bound, and none of them is PRESENT (R61). -/
theorem LoopState.started_binds (x : LoopState) (g : Nat) : x.binds g = x.started.binds g := by
  simp [LoopState.binds, LoopState.started, LoopState.train, Position.cleared, Position.absent, Function.comp_def]

theorem LoopState.started_present (x : LoopState) : (x.started.positions.filter (·.present)).map (·.address) = [] := by
  simp [LoopState.started, LoopState.train, Position.cleared, Position.absent]

theorem exec_loopStart {s : State} (ready : s.Ready) (tag : Nat) (l : Fin 4) :
    exec (.loopStart tag l) s = .next (
      if (s.loopAt l).mode ≠ .off ∨ (s.loopAt l).positions = [] then s.answered 0x31 tag .state .nothing
      else State.answered (s.loopMoved l (s.loopAt l).started
        [.loopEvent l (s.loopAt l).mode .training .start (s.time.day * 86400 + s.time.second) []]) 0x31 tag .ok .nothing) := by
  change execLoopStart tag l s = _
  rw [execLoopStart, serve_ready ready]
  have isLoop : ¬ 3 < l.val := by omega
  simp only [not_within_loop, isLoop, if_false, changeMode_eq_loopMoved l _ (s.loopAt l).started_binds, LoopState.started_present]
  split <;> rfl

theorem exec_loopStop {s : State} (ready : s.Ready) (tag : Nat) (l : Fin 4) :
    exec (.loopStop tag l) s = .next (
      if (s.loopAt l).mode = .off then (s.setLoop l { s.loopAt l with intent := false }).answered 0x32 tag .ok .nothing
      else State.answered (s.loopMoved l (s.loopAt l).stopped [.loopEvent l (s.loopAt l).mode .off .stop
        (s.time.day * 86400 + s.time.second) (((s.loopAt l).positions.filter (·.present)).map (·.address))]) 0x32 tag .ok .nothing) := by
  change execLoopStop tag l s = _
  rw [execLoopStop, serve_ready ready]
  have isLoop : ¬ 3 < l.val := by omega
  simp only [not_within_loop, isLoop, if_false, changeMode_eq_loopMoved l _ fun g => (rfl : _ = (s.loopAt l).stopped.binds g)]
  split <;> rfl

/-- The loop as LOOP_TEST of `k` frames leaves it (R74). -/
def LoopState.tested (x : LoopState) (k : Nat) : LoopState :=
  { x with mode := .testing, good := 0, checkFailed := 0, aborted := 0, exchange := .testing k 1 }

theorem exec_loopTest {s : State} (ready : s.Ready) (tag : Nat) (l : Fin 4) {k : Nat} (one : 1 ≤ k) (most : k ≤ 255) :
    exec (.loopTest tag l k) s = .next (
      if (s.loopAt l).mode ≠ .off then s.answered 0x33 tag .state .nothing
      else State.answered (s.loopMoved l ((s.loopAt l).tested k) [.loopEvent l (s.loopAt l).mode .testing .test
        (s.time.day * 86400 + s.time.second) (((s.loopAt l).positions.filter (·.present)).map (·.address))]) 0x33 tag .ok .nothing) := by
  change execLoopTest tag l k s = _
  rw [execLoopTest, serve_ready ready]
  have inRange : (!(within 0 l.val 3 && within 1 k 255)) = false := by simp [within_iff, one, most]; omega
  have moved := changeMode_eq_loopMoved l .test (s := s) fun g => (rfl : _ = ((s.loopAt l).tested k).binds g)
  rw [LoopState.tested] at moved
  simp only [inRange, Bool.false_eq_true, if_false, moved]
  split <;> rfl

/-- A loop request for a number that is no loop's, or a test of no frames or too many, is refused (R61, R63, R74). -/
theorem exec_loopOrder_badValue {s : State} (ready : s.Ready) (tag loop k : Nat) :
    (3 < loop → exec (.loopStart tag loop) s = .next (s.answered 0x31 tag .badValue .nothing) ∧
      exec (.loopStop tag loop) s = .next (s.answered 0x32 tag .badValue .nothing)) ∧
    (3 < loop ∨ k < 1 ∨ 255 < k → exec (.loopTest tag loop k) s = .next (s.answered 0x33 tag .badValue .nothing)) := by
  refine ⟨fun beyond => ⟨?_, ?_⟩, fun outside => ?_⟩
  · change execLoopStart tag loop s = _
    rw [execLoopStart, serve_ready ready]
    simp only [not_within_loop.mpr beyond]
    rfl
  · change execLoopStop tag loop s = _
    rw [execLoopStop, serve_ready ready]
    simp only [not_within_loop.mpr beyond]
    rfl
  · change execLoopTest tag loop k s = _
    have refused : (!(within 0 loop 3 && within 1 k 255)) = true := by
      rw [Bool.not_eq_true', Bool.and_eq_false_iff, not_within_iff, not_within_iff]
      omega
    rw [execLoopTest, serve_ready ready]
    simp only [refused]
    rfl

/-- Settles O22: each order by its own lemma. -/
theorem loopOrdersMoveTheLoop : Obligations.LoopOrdersMoveTheLoop := by
  unfold Obligations.LoopOrdersMoveTheLoop
  have named : ∀ {loop : Nat}, loop ≤ 3 → ∃ l : Fin 4, l.val = loop := fun {loop} isLoop => ⟨⟨loop, by omega⟩, rfl⟩
  refine ⟨fun s tag loop ready => ⟨fun beyond => ((exec_loopOrder_badValue ready tag loop 1).1 beyond).1,
      fun isLoop refused => ?_, fun isLoop off bound => ?_⟩,
    fun s tag loop k ready => ⟨fun beyond => ((exec_loopOrder_badValue ready tag loop 1).1 beyond).2, fun isLoop off => ?_,
      fun isLoop on => ?_, (exec_loopOrder_badValue ready tag loop k).2, fun isLoop one most on => ?_, fun isLoop one most off => ?_⟩⟩
  all_goals obtain ⟨l, rfl⟩ := named isLoop
  · rw [exec_loopStart ready, if_pos refused]
  · rw [exec_loopStart ready, if_neg (by simp [off, bound]), off]
    rfl
  · rw [exec_loopStop ready, if_pos off]
    rfl
  · rw [exec_loopStop ready, if_neg on]
    rfl
  · rw [exec_loopTest ready tag l one most, if_pos on]
  · rw [exec_loopTest ready tag l one most, if_neg (not_not_intro off), off]
    rfl

/-! ## The end of a sent frame (R60, R62, R65, R66) -/

theorem exec_pollSent {s : State} (works : s.Works) (l : Fin 4) {a : Nat} (sent : (s.loopAt l).exchange = .sendingPoll a) :
    exec (.pollSent l) s = .next (s.setLoop l { s.loopAt l with cursor := a, exchange := .awaiting a }) := by
  change execPollSent l s = _
  rw [execPollSent, whileLive_working works]
  simp only [sent]

theorem exec_wakeSent {s : State} (works : s.Works) (l : Fin 4) {p : Position} (first : (s.loopAt l).positions.head? = some p)
    (sent : (s.loopAt l).exchange = .sendingWake) :
    exec (.wakeSent l) s = .next (s.setLoop l { s.loopAt l with exchange := .sendingPoll p.address }) := by
  change execWakeSent l s = _
  rw [execWakeSent, whileLive_working works]
  simp only [sent, LoopState.lowest, first, Option.map_some]

theorem exec_abortQuietEnded {s : State} (works : s.Works) (l : Fin 4) (quiet : (s.loopAt l).exchange = .quiet) :
    exec (.abortQuietEnded l) s = .next (s.setLoop l { s.loopAt l with exchange := (s.loopAt l).pollNext }) := by
  change execAbortQuietEnded l s = _
  rw [execAbortQuietEnded, whileLive_working works]
  simp only [quiet, pollOf_nextAddress]

theorem exec_verdictSent {s : State} (works : s.Works) (l : Fin 4) {a sequence : Nat} {v : Verdict}
    (sent : (s.loopAt l).exchange = .sendingVerdict a sequence v) :
    exec (.verdictSent l) s = .next (finishExchange l (.punch sequence 0) s) := by
  change execVerdictSent l s = _
  rw [execVerdictSent, whileLive_working works]
  simp only [sent]

/-! ## The line of a frame that is sent (R55, R59, Table 4.6) -/

/-- The bytes a check covers, in the statements' words (R59). -/
theorem covered_eq (address kind sequence : Nat) (payload : List Byte) :
    covered address kind sequence payload =
      [BitVec.ofNat 8 address, BitVec.ofNat 8 kind, BitVec.ofNat 8 sequence, BitVec.ofNat 8 payload.length] ++ payload := by
  simp [covered, Layout.num]

/-- The payload of a VERDICT, in the statements' words (R66, Table 12.4). -/
theorem verdict_payload (sequence : Nat) (v : Verdict) :
    Layout.num 1 sequence ++ Layout.num 1 (Layout.verdictCode v.code) ++ Layout.num 1 v.display ++ Layout.flag v.seeOffice =
      [BitVec.ofNat 8 sequence, BitVec.ofNat 8 (Layout.verdictCode v.code), BitVec.ofNat 8 v.display,
        if v.seeOffice then 1 else 0] := by
  cases flagged : v.seeOffice <;> simp [Layout.num, Layout.flag]

theorem driver_iff (s : State) (l : Nat) : s.driver l = true ↔ s.Works ∧ (s.loopAt l).sending.isSome = true := by
  rw [State.driver, Bool.and_eq_true, State.live_iff]

/-- The line of a loop whose driver is off carries nothing (R55). -/
theorem loopLine_of_driver_off {s : State} {l : Nat} (off : s.driver l = false) : s.loopLine l = [] := by
  unfold State.driver at off
  unfold State.loopLine
  cases live : s.live with
  | false => rfl
  | true =>
    cases sends : (s.loopAt l).sending with
    | none => rfl
    | some bytes => simp [live, sends] at off

theorem loopLine_of_sending {s : State} {l : Nat} (works : s.Works) {bytes : List Byte} (sends : (s.loopAt l).sending = some bytes) :
    s.loopLine l = lineOf (s.loopAt l).config.coding bytes := by
  rw [State.loopLine, s.live_iff.mpr works, sends]
  rfl

/-- A loop in OFF or in TESTING sends nothing on its line (Table 4.6). -/
theorem LoopState.sending_of_inOrder {x : LoopState} (inOrder : x.inOrder = true) (rests : x.mode = .off ∨ x.mode = .testing) :
    x.sending = none := by
  unfold LoopState.sending
  unfold LoopState.inOrder at inOrder
  cases e : x.exchange <;> simp only [e, Bool.and_eq_true, bne_iff_ne] at inOrder ⊢
  all_goals
    obtain ⟨-, on, used⟩ := inOrder
    exact rests.elim (absurd · on) (absurd · used)

/-- Settles O23: each end of a frame by its own lemma, the roll call by the end of its exchange, the driver and the line by what the loop
sends. -/
theorem sentFramesMoveTheExchange : Obligations.SentFramesMoveTheExchange := by
  unfold Obligations.SentFramesMoveTheExchange
  refine ⟨fun s l works => ⟨fun a => exec_pollSent works l, fun p => exec_wakeSent works l, fun a sequence v sent up => ?_,
    exec_abortQuietEnded works l⟩, fun s l works => ?_, fun s l => ?_⟩
  · rw [exec_verdictSent works l sent, finishExchange_eq l _ (by simp [up]) (by simp [up])]
    simp [State.exchangeEnded, LoopState.afterExchange, up]
  · intro x a sequence v sent training p last
    have ended : exec (.verdictSent l) s = .next (s.exchangeEnded l (x.afterExchange (.punch sequence 0))) := by
      rw [exec_verdictSent works l sent, finishExchange_eq l _ (by simp [x, training]) (by simp [x, training])]
    rw [ended]
    refine ⟨fun before => ?_, fun reached => ?_⟩
    · simp [State.exchangeEnded, LoopState.afterExchange, training, last, Ne.symm before]
    · simp [State.exchangeEnded, LoopState.afterExchange, training, last, reached, show (s.loopAt l).mode = .training from training]
  · intro x framed sends
    have sending : sends = x.sending.isSome := by
      unfold sends LoopState.sending
      cases x.exchange <;> rfl
    refine ⟨by rw [driver_iff, sending], fun inOrder rests => ?_, loopLine_of_driver_off, fun works => ?_⟩
    · have none := LoopState.sending_of_inOrder (inOrder l) rests
      simpa [none] using mt (driver_iff s l).mp
    · have line : ∀ {bytes}, x.sending = some bytes → s.loopLine l = lineOf x.config.coding bytes := loopLine_of_sending works
      refine ⟨fun wakes => ?_, fun a polls => ?_, fun a sequence v returns => ?_⟩
      · rw [line (bytes := wakeFrame x.config) (by simp [LoopState.sending, wakes]), wakeFrame, covered_eq]
        rfl
      · rw [line (bytes := pollFrame x.config a) (by simp [LoopState.sending, polls]), pollFrame, covered_eq]
        rfl
      · rw [line (bytes := verdictFrame x.config a sequence v) (by simp [LoopState.sending, returns]), verdictFrame, covered_eq,
          verdict_payload]
        rfl

end Sys2Proof.Machine
end

section
/-! PROOFS. The answers of a reader (Sections 4.3, 4.4, 4.6 to 4.8): what an answer moves, and after it the statements of an answer that is not
valid and of one that is. -/

namespace Sys2Proof.Machine

/-! ## A loop replaced after its change (R64, R69) -/

/-- Loop `l` after its change. -/
@[simp] theorem State.loopMoved_loopAt (s : State) (l : Fin 4) (y : LoopState) (reports : List Report) :
    (s.loopMoved l y reports).loopAt l = y :=
  State.loopAt_setLoop_self s l y

/-- A loop that has changed stands as it is. -/
@[simp] theorem State.loopMoved_setLoop_self (s : State) (l : Fin 4) (y : LoopState) (reports : List Report) :
    (s.loopMoved l y reports).setLoop l y = s.loopMoved l y reports := by
  simpa using (s.loopMoved l y reports).setLoop_self l

/-- The standings once taken, a loop may be replaced by one that leaves every standing as it is (R98). -/
theorem State.standingsTaken_setLoop {t : State} {l : Nat} {z : LoopState} (still : ∀ g, (t.setLoop l z).standing g = t.standing g)
    (learns : Fin 16 → Bool) : (t.standingsTaken learns).setLoop l z = (t.setLoop l z).standingsTaken learns := by
  simp only [State.standingsTaken, still]
  rfl

/-- The exchange of a loop is nothing to its gates (R98). -/
theorem standing_exchange (s : State) (l : Fin 4) (y : LoopState) (e : Exchange) (g : Nat) :
    (s.setLoop l { y with exchange := e }).standing g = (s.setLoop l y).standing g := by
  refine standing_of_post (cutOff_congr (fun m => ?_) fun m => ?_) rfl rfl
  all_goals
    rw [State.loopAt_setLoop, State.loopAt_setLoop]
    split <;> rfl

/-- The exchange of a loop, set once its change is known to the gates, might be set in the change (R69). -/
theorem setExchange_loopMoved (s : State) (l : Fin 4) (y : LoopState) (reports : List Report) (e : Exchange) :
    setExchange l e (s.loopMoved l y reports) = s.loopMoved l { y with exchange := e } reports := by
  rw [setExchange, State.loopMoved_loopAt]
  let u : State := { s with link := reports.foldl StationLink.queue s.link }
  have still : ∀ g, ((u.setLoop l y).setLoop l { y with exchange := e }).standing g = (u.setLoop l y).standing g := fun g => by
    rw [State.setLoop_setLoop, standing_exchange]
  refine (State.standingsTaken_setLoop still _).trans ?_
  rw [State.setLoop_setLoop]
  rfl

/-- The end of an exchange with the loop's exchange set after it. -/
theorem setExchange_exchangeEnded (s : State) (l : Fin 4) (ended : LoopState × Option LoopCause) (e : Exchange) :
    setExchange l e (s.exchangeEnded l ended) = s.exchangeEnded l ({ ended.1 with exchange := e }, ended.2) := by
  obtain ⟨y, none | cause⟩ := ended
  · have replaced : setExchange l e (s.setLoop l y) = s.setLoop l { y with exchange := e } := by
      rw [setExchange, State.loopAt_setLoop_self, State.setLoop_setLoop]
    exact replaced
  · exact setExchange_loopMoved ..

/-! ## The position and the loss monitor (R68, R70, R71) -/

/-- A position after an answer that is not valid (R68). -/
theorem Position.settled_unheard (p : Position) (nmiss : Nat) {answer : Answer} (invalid : answer.valid = false) :
    p.settled nmiss answer = p.unheard nmiss := by
  have below : min nmiss (p.silence + 1) < nmiss ↔ p.silence + 1 < nmiss := by omega
  simp [Position.settled, Position.unheard, invalid, below]

/-- A position after a valid answer (R68). -/
theorem Position.settled_heard (p : Position) (nmiss : Nat) {answer : Answer} (valid : answer.valid = true) :
    p.settled nmiss answer = p.heard := by
  simp [Position.settled, Position.heard, valid]

/-- The position of an address after an answer to its poll. -/
theorem LoopState.positionOf_settled (x : LoopState) (a : Nat) (answer : Answer) :
    (x.settled a answer).positionOf a = (x.positionOf a).map fun p => p.settled x.config.nmiss answer := by
  have polled : ∀ p : Position, (if p.address = a then p.settled x.config.nmiss answer else p).address = p.address := fun p => by
    split
    · exact (p.settled_binding _ answer).1
    · rfl
  rw [LoopState.positionOf, LoopState.positionOf, LoopState.settled, List.find?_map, Function.comp_def]
  simp only [polled]
  cases found : x.positions.find? fun p => p.address == a with
  | none => rfl
  | some p => simp [show p.address = a by simpa using List.find?_some found]

/-- The duplicate record of an address is as it was before the answer (R72). -/
theorem LoopState.duplicate_settled (x : LoopState) (a : Nat) (answer : Answer) :
    ((x.settled a answer).positionOf a).bind (·.duplicate) = (x.positionOf a).bind (·.duplicate) := by
  have kept : ∀ p : Position, (p.settled x.config.nmiss answer).duplicate = p.duplicate := fun p => by
    unfold Position.settled
    split <;> rfl
  rw [LoopState.positionOf_settled]
  cases x.positionOf a with
  | none => rfl
  | some p => exact kept p

/-- The part after the presence of an address has changed with its loop from `x` to `y`, where it has: its READER_EVENT, but for a reader
heard in TRAINING, and the change known to the gates (R62, R68, R69). -/
def State.presenceTold (s : State) (l a : Nat) (x y : LoopState) : State :=
  if x.presentAt a = true ∧ y.presentAt a = false then
    s.loopMoved l y [.readerEvent l a .absent 0 (s.time.day * 86400 + s.time.second)]
  else if x.presentAt a = false ∧ y.presentAt a = true then
    s.loopMoved l y (if x.mode = .training then [] else [.readerEvent l a .present 0 (s.time.day * 86400 + s.time.second)])
  else s

/-- The part told of a reader that has become ABSENT, where it has (R68, R69). -/
def State.absenceTold (s : State) (l a : Nat) (x y : LoopState) : State :=
  if x.presentAt a = true ∧ y.presentAt a = false then
    s.loopMoved l y [.readerEvent l a .absent 0 (s.time.day * 86400 + s.time.second)]
  else s

/-- The part told of a reader that has become PRESENT, where it has, with its READER_EVENT but in TRAINING (R62, R68, R69). -/
def State.hearingTold (s : State) (l a : Nat) (x y : LoopState) : State :=
  if x.presentAt a = false ∧ y.presentAt a = true then
    s.loopMoved l y (if x.mode = .training then [] else [.readerEvent l a .present 0 (s.time.day * 86400 + s.time.second)])
  else s

theorem settleAnswer_setLoop (l : Fin 4) (a : Nat) (answer : Answer) {s : State} {x : LoopState}
    (wiring : (s.loopAt l).wiring = x.wiring) :
    settleAnswer l a answer (s.setLoop l x) = (s.presenceTold l a x (x.settled a answer)).setLoop l (x.settled a answer) := by
  have told : ∀ reports, deliverToGates l { s.setLoop l (x.settled a answer) with link := reports.foldl StationLink.queue s.link } =
      s.loopMoved l (x.settled a answer) reports := fun reports =>
    deliverToGates_eq l _ reports s fun g => by rw [LoopState.binds_of_wiring wiring, LoopState.binds_of_wiring (x.settled_wiring ..)]
  have present : ∀ y : LoopState, y.isPresent a = y.presentAt a := fun _ => rfl
  unfold settleAnswer State.presenceTold
  simp only [State.loopAt_setLoop_self, present]
  cases before : x.presentAt a <;> cases after : (x.settled a answer).presentAt a <;> simp
  · split
    · exact told []
    · exact told [_]
  · exact told [_]

/-- Loop `l` once the presence of an address is told: the bindings and the mode of the loop it was told of. -/
theorem State.presenceTold_loopAt (s : State) (l : Fin 4) (a : Nat) (x : LoopState) {y : LoopState}
    (wiring : (s.loopAt l).wiring = y.wiring) (mode : (s.loopAt l).mode = y.mode) :
    ((s.presenceTold l a x y).loopAt l).wiring = y.wiring ∧ ((s.presenceTold l a x y).loopAt l).mode = y.mode := by
  unfold State.presenceTold
  split
  · rw [State.loopMoved_loopAt]
    exact ⟨rfl, rfl⟩
  · split
    · rw [State.loopMoved_loopAt]
      exact ⟨rfl, rfl⟩
    · exact ⟨wiring, mode⟩

/-- An answer that is not valid makes no position PRESENT (R68). -/
theorem State.presenceTold_unheard (s : State) (l a : Nat) (x : LoopState) {answer : Answer} (invalid : answer.valid = false) :
    s.presenceTold l a x (x.settled a answer) = s.absenceTold l a x (x.settled a answer) := by
  have absent : x.presentAt a = false → (x.settled a answer).presentAt a = false := by
    unfold LoopState.presentAt
    rw [show List.find? _ (x.settled a answer).positions = _ from x.positionOf_settled a answer, LoopState.positionOf]
    cases x.positions.find? fun p => p.address == a with
    | none => exact fun _ => rfl
    | some p =>
      intro before
      simpa [Position.settled_unheard p _ invalid, Position.unheard] using fun h => by simp [h] at before
  unfold State.presenceTold State.absenceTold
  rw [if_neg (c := _ ∧ (x.settled a answer).presentAt a = true) fun ⟨before, after⟩ => by simp [absent before] at after]

/-- A valid answer makes no position ABSENT (R68). -/
theorem State.presenceTold_heard (s : State) (l a : Nat) (x : LoopState) {answer : Answer} (valid : answer.valid = true) :
    s.presenceTold l a x (x.settled a answer) = s.hearingTold l a x (x.settled a answer) := by
  have present : x.presentAt a = true → (x.settled a answer).presentAt a = true := by
    unfold LoopState.presentAt
    rw [show List.find? _ (x.settled a answer).positions = _ from x.positionOf_settled a answer, LoopState.positionOf]
    cases x.positions.find? fun p => p.address == a with
    | none => exact id
    | some p => exact fun _ => congrArg Position.present (Position.settled_heard p _ valid)
  unfold State.presenceTold
  rw [if_neg fun ⟨before, after⟩ => by simp [present before] at after]
  rfl

/-- An exchange that its answer completes: the position and the loss monitor moved, then the end of the exchange (R65, R68 to R71). -/
theorem finishExchange_settleAnswer (l : Fin 4) (a : Nat) (answer : Answer) {s : State} {x : LoopState}
    (wiring : (s.loopAt l).wiring = x.wiring) (mode : (s.loopAt l).mode = x.mode) (on : x.mode ≠ .off) (used : x.mode ≠ .testing) :
    finishExchange l answer (settleAnswer l a answer (s.setLoop l x)) =
      (s.presenceTold l a x (x.settled a answer)).exchangeEnded l ((x.settled a answer).afterExchange answer) := by
  obtain ⟨wiring', mode'⟩ := s.presenceTold_loopAt l a x (y := x.settled a answer) (by rw [wiring, LoopState.settled_wiring]) mode
  rw [settleAnswer_setLoop l a answer wiring]
  exact finishExchange_setLoop l answer wiring' mode' on used

/-! ## Answers that are not valid (R60, R68, R70) -/

theorem whileAwaiting_of_awaiting {s : State} (works : s.Works) {l : Fin 4} {a : Nat} (awaits : (s.loopAt l).exchange = .awaiting a)
    (f : Nat → State → State) : whileAwaiting l f s = .next (f a s) := by
  rw [whileAwaiting, whileLive_working works]
  simp only [awaits]

/-- The loop after an answer that is not valid, in the statements' words (R68, R70, R71). -/
def LoopState.unheardAt (x : LoopState) (a : Nat) (silent : Bool) : LoopState :=
  { x with
    positions := x.positions.map fun p => if p.address = a then p.unheard x.config.nmiss else p
    deadRun := if silent then min 64 (x.deadRun + 1) else 0
    validRun := if x.mode = .lost then 0 else x.validRun }

theorem LoopState.settled_silent (x : LoopState) (a : Nat) : x.settled a .silent = x.unheardAt a true := by
  simp [LoopState.settled, LoopState.unheardAt, Position.settled_unheard _ _ (answer := .silent) rfl, Answer.valid]

theorem LoopState.settled_corrupted (x : LoopState) (a : Nat) : x.settled a .corrupted = x.unheardAt a false := by
  simp [LoopState.settled, LoopState.unheardAt, Position.settled_unheard _ _ (answer := .corrupted) rfl, Answer.valid]

/-- An answer that is aborted in its frame or at the hunt bound (R56, R58, R60). -/
theorem abortAnswer_eq {s : State} {l : Fin 4} (a : Nat) (on : (s.loopAt l).mode ≠ .off) (used : (s.loopAt l).mode ≠ .testing)
    (r : Receiver) :
    let y := ((s.loopAt l).latch r).unheardAt a false
    let e := y.afterExchange .corrupted
    abortAnswer l a r s = (s.absenceTold l a (s.loopAt l) y).exchangeEnded l ({ e.1 with exchange := .quiet }, e.2) := by
  have ended := finishExchange_settleAnswer (s := s) (x := (s.loopAt l).latch r) l a .corrupted rfl rfl on used
  rw [State.presenceTold_unheard s l a _ rfl, LoopState.settled_corrupted] at ended
  dsimp only
  rw [abortAnswer, ended, setExchange_exchangeEnded]
  rfl

section
variable {s : State} (works : s.Works) {l : Fin 4} {a : Nat} (awaits : (s.loopAt l).exchange = .awaiting a)
  (on : (s.loopAt l).mode ≠ .off) (used : (s.loopAt l).mode ≠ .testing)
include works awaits on used

theorem exec_responseWindowExpired : exec (.responseWindowExpired l) s = .next
    ((s.absenceTold l a (s.loopAt l) ((s.loopAt l).unheardAt a true)).exchangeEnded l
      (((s.loopAt l).unheardAt a true).afterExchange .silent)) := by
  have ended := finishExchange_settleAnswer (s := s) l a .silent rfl rfl on used
  rw [State.setLoop_self, State.presenceTold_unheard s l a _ rfl, LoopState.settled_silent] at ended
  change execResponseWindowExpired l s = _
  rw [execResponseWindowExpired, whileAwaiting_of_awaiting works awaits]
  exact congrArg _ ended

/-- A frame that completes and is corrupted (R60). -/
theorem exec_loopAnswerReceived_corrupted {line : List Bool} {bytes : List Byte}
    (complete : (Receiver.receive (s.loopAt l).config.answer line).result = .complete bytes)
    (corrupted : classify (s.loopAt l).config.check a bytes = .corrupted) :
    let y := ((s.loopAt l).latch (Receiver.receive (s.loopAt l).config.answer line)).unheardAt a false
    exec (.loopAnswerReceived l line) s = .next
      ((s.absenceTold l a (s.loopAt l) y).exchangeEnded l (y.afterExchange .corrupted)) := by
  have ended := finishExchange_settleAnswer (s := s) (x := (s.loopAt l).latch (Receiver.receive (s.loopAt l).config.answer line)) l a
    .corrupted rfl rfl on used
  rw [State.presenceTold_unheard s l a _ rfl, LoopState.settled_corrupted] at ended
  change execLoopAnswerReceived l line s = _
  rw [execLoopAnswerReceived, whileAwaiting_of_awaiting works awaits]
  simp only [complete, corrupted]
  exact congrArg _ ended

end

theorem exec_loopFrameAborted {s : State} (works : s.Works) {l : Fin 4} {a : Nat} (awaits : (s.loopAt l).exchange = .awaiting a)
    {line : List Bool} (aborted : (Receiver.receive (s.loopAt l).config.answer line).result = .aborted) :
    exec (.loopFrameAborted l line) s = .next (abortAnswer l a (Receiver.receive (s.loopAt l).config.answer line) s) := by
  change execLoopFrameAborted l line s = _
  rw [execLoopFrameAborted, whileAwaiting_of_awaiting works awaits]
  dsimp only
  rw [if_pos aborted]

theorem exec_huntBoundExpired {s : State} (works : s.Works) {l : Fin 4} {a : Nat} (awaits : (s.loopAt l).exchange = .awaiting a)
    {line : List Bool} (bound : (Receiver.receive (s.loopAt l).config.answer line).result = .huntBound) :
    exec (.huntBoundExpired l line) s = .next (abortAnswer l a (Receiver.receive (s.loopAt l).config.answer line) s) := by
  change execHuntBoundExpired l line s = _
  rw [execHuntBoundExpired, whileAwaiting_of_awaiting works awaits]
  dsimp only
  rw [if_pos bound]

/-- Settles O24: the silent answer, the aborted ones and the corrupted one, each by its own lemma. -/
theorem unheardAnswersMoveThePositionAndTheMonitor : Obligations.UnheardAnswersMoveThePositionAndTheMonitor := by
  unfold Obligations.UnheardAnswersMoveThePositionAndTheMonitor
  intro s l works x a awaits on used
  refine ⟨exec_responseWindowExpired works awaits on used, fun line => ⟨fun aborted => ?_, fun bound => ?_,
    fun bytes complete corrupted => exec_loopAnswerReceived_corrupted works awaits on used complete corrupted⟩⟩
  · rw [exec_loopFrameAborted works awaits aborted]
    exact congrArg _ (abortAnswer_eq a on used _)
  · rw [exec_huntBoundExpired works awaits bound]
    exact congrArg _ (abortAnswer_eq a on used _)

/-! ## The classes of an answer (R60, Table 4.4) -/

@[simp] theorem loopCheck_length (check : CheckKind) (bytes : List Byte) : (loopCheck check bytes).length = check.bytes := by
  cases check <;> rfl

/-- A frame of covered bytes and as many bytes as its check has passes its check where they are its check (R59). -/
theorem checkPasses_append {check : CheckKind} (bytes : List Byte) {tail : List Byte} (whole : tail.length = check.bytes) :
    checkPasses check (bytes ++ tail) = (tail == loopCheck check bytes) := by
  simp [checkPasses, ← whole]

theorem kind_iff (kind : Byte) (n : Nat) (isByte : n < 256) : kind.toNat = n ↔ kind = BitVec.ofNat 8 n := by
  rw [← BitVec.toNat_inj, BitVec.toNat_ofNat, Nat.mod_eq_of_lt isByte]

/-- The class of a complete frame (R60, Table 4.4). -/
theorem classify_append {check : CheckKind} (polled : Nat) (address kind sequence length : Byte) (payload : List Byte) {tail : List Byte}
    (whole : tail.length = check.bytes) :
    let bytes := address :: kind :: sequence :: length :: payload
    classify check polled (bytes ++ tail) =
      if tail ≠ loopCheck check bytes ∨ address.toNat ≠ polled then .corrupted
      else if kind = 0x11 ∧ payload.length = 0 then .idle
      else if kind = 0x12 ∧ payload.length = 3 then .punch sequence.toNat (payload.foldl (fun v b => v * 256 + b.toNat) 0)
      else if kind = 0x13 ∧ payload.length = 1 then .fault (payload.foldl (fun v b => v * 256 + b.toNat) 0)
      else .corrupted := by
  intro bytes
  have covers : (bytes ++ tail).take ((bytes ++ tail).length - check.bytes) = bytes := by simp [← whole]
  rw [classify, checkPasses_append bytes whole, covers]
  by_cases passes : tail = loopCheck check bytes
  · by_cases polls : address.toNat = polled
    · have fails : ¬ (tail ≠ loopCheck check bytes ∨ address.toNat ≠ polled) := by simp [passes, polls]
      rw [if_neg fails]
      simp only [passes, beq_self_eq_true, polls, bytes]
      rcases payload with _ | ⟨b2, _ | ⟨b1, _ | ⟨b0, _ | ⟨b, rest⟩⟩⟩⟩ <;>
        simp [kindIdle, kindPunch, kindFault, kind_iff, Nat.add_mul, Nat.mul_assoc]
    · simp [passes, polls, bytes]
  · simp [passes]

/-- The class of a frame with its own check, as the coder writes it, from the address polled (R59, R60). -/
theorem classify_covered (check : CheckKind) {polled address : Nat} (kind : Nat) {sequence : Nat} (payload : List Byte)
    (inTable : address ≤ 255) (isByte : sequence ≤ 255) :
    let bytes := covered address kind sequence payload
    classify check polled (bytes ++ loopCheck check bytes) =
      if address ≠ polled then .corrupted
      else if BitVec.ofNat 8 kind = 0x11 ∧ payload.length = 0 then .idle
      else if BitVec.ofNat 8 kind = 0x12 ∧ payload.length = 3 then .punch sequence (payload.foldl (fun v b => v * 256 + b.toNat) 0)
      else if BitVec.ofNat 8 kind = 0x13 ∧ payload.length = 1 then .fault (payload.foldl (fun v b => v * 256 + b.toNat) 0)
      else .corrupted := by
  dsimp only
  rw [covered_eq]
  simp only [List.cons_append, List.nil_append]
  have whole := fun bytes => loopCheck_length check bytes
  refine (classify_append polled _ _ _ _ payload (whole _)).trans ?_
  have back : ∀ n ≤ 255, (BitVec.ofNat 8 n).toNat = n := fun n small => by
    rw [BitVec.toNat_ofNat]
    omega
  simp only [back address inTable, back sequence isByte, ne_eq, not_true_eq_false, false_or]

/-- A number in three bytes is read back from them (R173). -/
theorem foldl_num_three {n : Nat} (fits : n ≤ 16777215) : (Layout.num 3 n).foldl (fun v b => v * 256 + b.toNat) 0 = n := by
  simp [Layout.num]
  omega

theorem foldl_num_one {n : Nat} (fits : n ≤ 255) : (Layout.num 1 n).foldl (fun v b => v * 256 + b.toNat) 0 = n := by
  simp [Layout.num]
  omega

/-! ## Valid answers (R60, R65 to R67, R70, R71) -/

/-- The loop after a valid answer, in the statements' words (R68, R70, R71). -/
def LoopState.heardAt (x : LoopState) (a : Nat) : LoopState :=
  { x with
    deadRun := 0
    validRun := if x.mode = .lost then min 32 (x.validRun + 1) else x.validRun
    positions := x.positions.map fun p => if p.address = a then p.heard else p }

theorem LoopState.settled_valid (x : LoopState) (a : Nat) {answer : Answer} (valid : answer.valid = true) :
    x.settled a answer = x.heardAt a := by
  have heard : answer ≠ .silent := fun silent => by simp [silent, Answer.valid] at valid
  simp [LoopState.settled, LoopState.heardAt, Position.settled_heard _ _ valid, valid, heard]

/-- A valid answer at the position and the loss monitor (R68, R70, R71). -/
theorem settleAnswer_valid (l : Fin 4) (a : Nat) {answer : Answer} (valid : answer.valid = true) {s : State} {x : LoopState}
    (wiring : (s.loopAt l).wiring = x.wiring) :
    settleAnswer l a answer (s.setLoop l x) = (s.hearingTold l a x (x.heardAt a)).setLoop l (x.heardAt a) := by
  rw [settleAnswer_setLoop l a answer wiring, State.presenceTold_heard s l a x valid, x.settled_valid a valid]

section
variable {s : State} {l : Fin 4} (a : Nat) {x : LoopState} (wiring : (s.loopAt l).wiring = x.wiring)
  (mode : (s.loopAt l).mode = x.mode) (on : x.mode ≠ .off) (used : x.mode ≠ .testing)
include wiring mode on used

/-- The end of an exchange on a loop heard, whatever reports are queued after its hearing. -/
theorem finishExchange_heard (answer : Answer) {u : State} (loops : u.loops = (s.hearingTold l a x (x.heardAt a)).loops) :
    finishExchange l answer (u.setLoop l (x.heardAt a)) = u.exchangeEnded l ((x.heardAt a).afterExchange answer) := by
  have told := State.presenceTold_heard s l a x (answer := .idle) rfl
  obtain ⟨wiring', mode'⟩ := s.presenceTold_loopAt l a x (y := x.settled a .idle) (by rw [wiring, LoopState.settled_wiring]) mode
  rw [told, x.settled_valid a rfl, ← State.loopAt_of_loops loops] at wiring' mode'
  exact finishExchange_setLoop l answer wiring' mode' on used

/-- An IDLE completes the exchange (R65). -/
theorem actOnAnswer_idle : actOnAnswer l a .idle (s.setLoop l x) =
    (s.hearingTold l a x (x.heardAt a)).exchangeEnded l ((x.heardAt a).afterExchange .idle) := by
  rw [actOnAnswer, settleAnswer_valid l a rfl wiring]
  exact finishExchange_heard a wiring mode on used .idle rfl

/-- A FAULT completes the exchange, after its READER_EVENT (R65, R67). -/
theorem actOnAnswer_fault (code : Nat) : actOnAnswer l a (.fault code) (s.setLoop l x) =
    (readerEvent l a .fault code (s.hearingTold l a x (x.heardAt a))).exchangeEnded l ((x.heardAt a).afterExchange (.fault code)) := by
  rw [actOnAnswer, settleAnswer_valid l a rfl wiring]
  exact finishExchange_heard (u := readerEvent l a .fault code (s.hearingTold l a x (x.heardAt a))) a wiring mode on used (.fault code) rfl

/-- A PUNCH in LOST completes the exchange (R71). -/
theorem actOnAnswer_punch_lost (lost : x.mode = .lost) (sequence badge : Nat) :
    actOnAnswer l a (.punch sequence badge) (s.setLoop l x) =
      (s.hearingTold l a x (x.heardAt a)).exchangeEnded l ((x.heardAt a).afterExchange (.punch sequence badge)) := by
  have still : (x.heardAt a).mode = .lost := lost
  rw [actOnAnswer, settleAnswer_valid l a rfl wiring]
  simp only [takePunchAnswer, State.loopAt_setLoop_self, still, if_true]
  exact finishExchange_heard a wiring mode on used _ rfl

end

/-- What a loop's exchange becomes at a PUNCH in TRAINING and UP: a repeat of the recorded sequence is answered from the record, and any
other is offered (R66). -/
def LoopState.punchExchange (x : LoopState) (l a sequence badge now : Nat) : Exchange :=
  match (x.positionOf a).bind (·.duplicate) with
  | some d => if d.sequence = sequence then .sendingVerdict a sequence d.verdict else .offering ⟨l, a, sequence, badge, now⟩
  | none => .offering ⟨l, a, sequence, badge, now⟩

theorem State.hearingTold_time (s : State) (l a : Nat) (x y : LoopState) : (s.hearingTold l a x y).time = s.time := by
  unfold State.hearingTold
  split <;> rfl

theorem LoopState.duplicate_heardAt (x : LoopState) (a : Nat) :
    ((x.heardAt a).positionOf a).bind (·.duplicate) = (x.positionOf a).bind (·.duplicate) := by
  rw [← x.settled_valid a (answer := .idle) rfl, x.duplicate_settled]

theorem actOnAnswer_punch {s : State} {l : Fin 4} (a : Nat) {x : LoopState} (wiring : (s.loopAt l).wiring = x.wiring)
    (found : x.mode ≠ .lost) (sequence badge : Nat) :
    actOnAnswer l a (.punch sequence badge) (s.setLoop l x) =
      (s.hearingTold l a x (x.heardAt a)).exchangeEnded l ({ x.heardAt a with
        exchange := x.punchExchange l a sequence badge (s.time.day * 86400 + s.time.second) }, none) := by
  have still : (x.heardAt a).mode ≠ .lost := found
  have now : ((s.hearingTold l a x (x.heardAt a)).setLoop l (x.heardAt a)).plantSecond = s.time.day * 86400 + s.time.second := by
    rw [State.plantSecond, State.setLoop_time, State.hearingTold_time]
    rfl
  rw [actOnAnswer, settleAnswer_valid l a rfl wiring]
  simp only [takePunchAnswer, State.loopAt_setLoop_self, still, if_false, x.duplicate_heardAt, LoopState.punchExchange, setExchange,
    State.setLoop_setLoop, now]
  cases (x.positionOf a).bind (·.duplicate) with
  | none => rfl
  | some d =>
    dsimp only
    split <;> rfl

/-- A frame that completes is acted on by its class, its latches set (R58, R60). -/
theorem exec_loopAnswerReceived {s : State} (works : s.Works) {l : Fin 4} {a : Nat} (awaits : (s.loopAt l).exchange = .awaiting a)
    {line : List Bool} {bytes : List Byte} (complete : (Receiver.receive (s.loopAt l).config.answer line).result = .complete bytes) :
    exec (.loopAnswerReceived l line) s = .next (actOnAnswer l a (classify (s.loopAt l).config.check a bytes)
      (s.setLoop l ((s.loopAt l).latch (Receiver.receive (s.loopAt l).config.answer line)))) := by
  change execLoopAnswerReceived l line s = _
  rw [execLoopAnswerReceived, whileAwaiting_of_awaiting works awaits]
  simp only [complete]

/-- Settles O26: the classes by the frame's layout, and each kind of valid answer by its own lemma. -/
theorem validAnswersAreActedOnByTheirKind : Obligations.ValidAnswersAreActedOnByTheirKind := by
  unfold Obligations.ValidAnswersAreActedOnByTheirKind
  refine ⟨fun check address sequence badge code one most seqIn badgeIn codeIn => ?_,
    fun check polled address kind sequence length payload tail whole => classify_append polled address kind sequence length payload whole,
    ?_⟩
  · refine ⟨?_, ?_, ?_, fun other _ apart => ?_⟩
    · refine (classify_covered check 0x11 [] (by omega) seqIn).trans ?_
      simp
    · refine (classify_covered check 0x12 _ (by omega) seqIn).trans ?_
      rw [foldl_num_three badgeIn]
      simp
    · refine (classify_covered check 0x13 _ (by omega) seqIn).trans ?_
      rw [foldl_num_one codeIn]
      simp
    · refine (classify_covered check 0x12 _ (by omega) seqIn).trans ?_
      rw [if_pos (Ne.symm apart)]
  · intro s l line works x r a awaits on used bytes complete valid
    rw [exec_loopAnswerReceived works awaits complete]
    generalize classify x.config.check a bytes = answer at valid ⊢
    cases answer with
    | silent => cases valid
    | corrupted => cases valid
    | idle => exact congrArg _ (actOnAnswer_idle (x := x.latch r) a rfl rfl on used)
    | fault code =>
      refine congrArg _ ((actOnAnswer_fault (x := x.latch r) a rfl rfl on used code).trans ?_)
      rw [readerEvent, State.plantSecond, Timebase.plantSecond, State.hearingTold_time]
      rfl
    | punch sequence badge =>
      by_cases lost : x.mode = .lost
      · have completes := actOnAnswer_punch_lost (s := s) (l := l) (x := x.latch r) a rfl rfl on used lost sequence badge
        exact congrArg _ (completes.trans (congrArg (State.exchangeEnded _ l) (if_pos lost).symm))
      · have answered := actOnAnswer_punch (s := s) (l := l) (x := x.latch r) a rfl lost sequence badge
        refine congrArg _ (answered.trans (congrArg (State.exchangeEnded _ l) ((if_neg lost).trans ?_).symm))
        have record : ((x.latch r).positionOf a).bind (·.duplicate) = (x.positions.find? fun p => p.address == a).bind (·.duplicate) := rfl
        rw [LoopState.punchExchange, record]
        cases (x.positions.find? fun p => p.address == a).bind (·.duplicate) with
        | none => rfl
        | some d =>
          by_cases same : d.sequence = sequence
          · simp only [same, if_true]
            rfl
          · simp only [same, if_false]
            rfl

end Sys2Proof.Machine
end

section
/-! PROOFS. The taking of a punch (Sections 4.6 and 5.1): the arbiter's turn, the decision's hold on the loops, and the return of the verdict. -/

namespace Sys2Proof.Machine

/-! ## The arbiter (R79) -/

/-- The four places of a turn, up to place `j`, at it and after it. -/
theorem range_four_at : ∀ j : Fin 4, List.range 4 = List.range j ++ j.val :: (List.range 4).drop (j + 1) := by decide

theorem nextOffer_none {s : State} (none : ∀ j : Fin 4, (s.loopAt ((s.punch.lastLoop + 1 + j) % 4)).offer = none) :
    s.nextOffer = .none := by
  rw [State.nextOffer, loopsAfter, List.findSome?_map, List.findSome?_eq_none_iff]
  intro i member
  have place := none ⟨i, List.mem_range.mp member⟩
  simpa using place

/-- The offer taken is that of the first loop in turn that holds one (R79). -/
theorem nextOffer_some {s : State} (j : Fin 4) (before : ∀ i : Fin 4, i.val < j.val → (s.loopAt ((s.punch.lastLoop + 1 + i) % 4)).offer = none)
    {o : Offer} (holds : (s.loopAt ((s.punch.lastLoop + 1 + j) % 4)).offer = some o) :
    s.nextOffer = some ((s.punch.lastLoop + 1 + j) % 4, o) := by
  rw [State.nextOffer, loopsAfter, List.findSome?_map, List.findSome?_eq_some_iff]
  refine ⟨_, j, _, range_four_at j, by simp [holds], fun i member => ?_⟩
  have earlier : i < j := List.mem_range.mp member
  have place := before ⟨i, by omega⟩ earlier
  simpa using place

/-! ## What the decision leaves alone (R80 to R92) -/

/-- The loops and the Punch Processor. -/
def State.desk (s : State) : Vector LoopState 4 × PunchProcessor := (s.loops, s.punch)

theorem journalClaim_desk (s : State) : (journalClaim s).desk = s.desk := by
  rw [journalClaim_frame]
  rfl

theorem refusePunch_desk (g : Nat) (p : Passage) (reason : Denial) (see : Bool) (s : State) :
    (refusePunch g p reason see s).state.desk = s.desk := by
  unfold refusePunch
  dsimp only
  split
  · rw [journalDirect_frame]
    rfl
  · rfl

theorem untrackedRelease_desk (g : Nat) (s : State) : (untrackedRelease g s).desk = s.desk := by
  unfold untrackedRelease
  dsimp only
  split
  · rfl
  · have either : ∀ (c : Bool) (x : Gate), (if c = true then s else s.setGate g x).desk = s.desk := fun c x => by
      split <;> rfl
    exact either _ _

theorem commitNow_desk (display g : Nat) (p : Passage) (entry : Option JournalOutcome) (w : WorkerRecord) (s : State) :
    (commitNow display g p entry w s).state.desk = s.desk := by
  change (commitPunch g p entry false w s).desk = s.desk
  rw [commitPunch_frame]
  rfl

theorem fireExit_desk (g : Nat) (p : Passage) (w : WorkerRecord) (s : State) : (fireExit g p w s).state.desk = s.desk := by
  unfold fireExit
  split
  · rw [commitNow_desk, journalClaim_desk]
  · exact commitNow_desk ..

theorem acceptPunch_desk (display g : Nat) (p : Passage) (w : WorkerRecord) (s : State) :
    (acceptPunch display g p w s).state.desk = s.desk := by
  have now : (commitNow display g p (some .passed) w (journalClaim s)).state.desk = s.desk := by rw [commitNow_desk, journalClaim_desk]
  unfold acceptPunch
  dsimp only
  split
  · split
    · exact now
    · exact journalClaim_desk s
  · exact now

theorem entryPunch_desk (g : Nat) (p : Passage) (w : WorkerRecord) (s : State) : (entryPunch g p w s).state.desk = s.desk := by
  unfold entryPunch
  split
  · exact refusePunch_desk ..
  · split
    · exact acceptPunch_desk ..
    · exact refusePunch_desk ..

theorem exitPunch_desk (g : Nat) (p : Passage) (w : WorkerRecord) (s : State) : (exitPunch g p w s).state.desk = s.desk := by
  unfold exitPunch
  split
  · exact acceptPunch_desk ..
  · exact (untrackedRelease_desk ..).trans (commitNow_desk ..)

/-- A decision leaves the loops and the Punch Processor as they are. -/
theorem decidePunch_desk (g : Nat) (p : Passage) (s : State) : (decidePunch g p s).state.desk = s.desk := by
  unfold decidePunch
  split
  · exact refusePunch_desk ..
  · split
    · split
      · exact refusePunch_desk ..
      · exact untrackedRelease_desk ..
    · split
      · split
        · exact refusePunch_desk ..
        · exact fireExit_desk ..
      · split
        · rfl
        · split
          · exact entryPunch_desk ..
          · exact exitPunch_desk ..

/-! ## The punch taken (R66, R79, R80) -/

theorem exec_punchTaken {s : State} (works : s.Works) (free : s.punch.hand = none) : exec .punchTaken s = .next (takePunch s) := by
  change execPunchTaken s = _
  rw [execPunchTaken, whileLive_working works]
  simp only [free, Option.isSome_none, Bool.false_eq_true, if_false]

/-- The verdict of the punch in hand recorded for its position and begun on its loop (R66, R72). -/
theorem decideInHand_eq (l : Nat) (o : Offer) (b : Position) (s : State) :
    let d := decidePunch b.gate (o.passage l b.direction) { s with punch := ⟨some o, l⟩ }
    decideInHand l o b { s with punch := ⟨some o, l⟩ } =
      { d.state with punch := ⟨none, l⟩, loops := s.loops.setIfInBounds l ((s.loopAt l).takeVerdict o d.verdict) } := by
  intro d
  obtain ⟨loops, punch⟩ : d.state.loops = s.loops ∧ d.state.punch = ⟨some o, l⟩ := Prod.mk.inj (decidePunch_desk ..)
  have at_l : d.state.loopAt l = s.loopAt l := State.loopAt_of_loops loops l
  change { d.state.setLoop l ((d.state.loopAt l).takeVerdict o d.verdict) with punch := { d.state.punch with hand := none } } = _
  rw [at_l, punch, State.setLoop, loops]

theorem takePunch_of_offer {s : State} {l : Nat} {o : Offer} {b : Position} (next : s.nextOffer = some (l, o))
    (bound : (s.loopAt l).positionOf o.address = some b) : takePunch s = decideInHand l o b { s with punch := ⟨some o, l⟩ } := by
  rw [takePunch, next]
  simp only [bound]

/-- Settles O28: the offer by the arbiter's turn, and the decision by what it leaves alone. -/
theorem takenPunchIsDecidedAndReturned : Obligations.TakenPunchIsDecidedAndReturned := by
  unfold Obligations.TakenPunchIsDecidedAndReturned
  intro s works free order offers
  have held : ∀ j, offers j = (s.loopAt (order j)).offer.isSome := fun j => by
    unfold offers LoopState.offer
    cases (s.loopAt (order j)).exchange <;> rfl
  have absent : ∀ j, offers j = false → (s.loopAt (order j)).offer = none := fun j empty => by
    simpa [held] using empty
  constructor
  · intro empty
    rw [exec_punchTaken works free, takePunch, nextOffer_none fun j => absent j (empty j)]
  · intro j before l o holds b bound
    refine ⟨(Prod.mk.inj (decidePunch_desk ..)).1, ?_⟩
    have offered : (s.loopAt l).offer = some o := by rw [LoopState.offer, holds]
    have position : (s.loopAt l).positionOf o.address = some b := bound
    have next : s.nextOffer = some (l, o) := nextOffer_some j (fun i earlier => absent i (before i earlier)) offered
    rw [exec_punchTaken works free, takePunch_of_offer next position]
    exact congrArg _ (decideInHand_eq l o b s)

end Sys2Proof.Machine
end

section
/-! PROOFS. The receiver on the coder's cells (Sections 4.2 to 4.4): what one cell of the line does to it, then one byte, then a frame. -/

namespace Sys2Proof.Machine

/-! ## The steps of one cell (R55 to R57) -/

/-- The receiver with no transition heard after `e` steps. -/
def Receiver.searching (e : Nat) : Receiver := { Receiver.start with elapsed := e }

/-- The receiver locked, at the beginning of a nominal cell after `e` steps, its first transition at step `f`: its window of bits, and,
in a frame, the frame's bytes and the bits of the next one. -/
def Receiver.atCell (window : Byte) (inFrame : Bool) (bits : Nat) (byte : Byte) (bytes : List Byte) (f e : Nat) : Receiver :=
  { Receiver.start with
    tracker := .locked, shift := window, inFrame := inFrame, bits := bits, byte := byte, bytes := bytes, first := some f, elapsed := e }

/-- The receiver `j` steps into the cell that begins at `r`, its boundary found. -/
def Receiver.inCell (r : Receiver) (j : Nat) (mid : Bool) : Receiver :=
  { r with step := j, found := true, mid := mid, elapsed := r.elapsed + j }

/-- A bit into a byte, most significant bit first. -/
def shiftIn (w : Byte) (bit : Bool) : Byte := (w <<< 1) ||| (if bit then 1 else 0)

/-- A step that no bound ends: the transition tracked (R56, R57). -/
theorem Receiver.next_of_began {k : Listening} {r : Receiver} {f : Nat} (began : r.first = some f) (pending : r.result = .pending)
    (isOpen : r.inFrame = true ∨ r.elapsed < f + k.hunt) (t : Bool) :
    r.next k t = { r.track k t with elapsed := r.elapsed + 1 } := by
  have hunts : (!r.inFrame && decide (f + k.hunt ≤ r.elapsed)) = false := by
    obtain inFrame | before := isOpen
    · simp [inFrame]
    · simp [before]
  have no_bound : r.bounds k = r := by simp [Receiver.bounds, began, hunts]
  have first : (if (r.first.isNone && t) = true then some r.elapsed else r.first) = r.first := by simp [began]
  rw [Receiver.next, no_bound]
  simp only [first]
  exact if_pos pending

/-- A receiver that has settled in its frame stays as it is. -/
theorem Receiver.next_of_settled {k : Listening} {r : Receiver} {f : Nat} (began : r.first = some f) (inFrame : r.inFrame = true)
    (settled : r.result ≠ .pending) (t : Bool) : r.next k t = r := by
  simp [Receiver.next, Receiver.bounds, began, inFrame, settled]

/-- The bit of a cell as the receiver delivers it is the bit that the coder put on the line (R55, R57). -/
theorem Coding.mid_mid (c : Coding) (bit : Bool) : (if c.mid bit then c.mid true else !c.mid true) = bit := by
  cases c <;> cases bit <;> rfl

section
variable {k : Listening} {inFrame : Bool} {f e : Nat} (isOpen : inFrame = true ∨ e + 16 ≤ f + k.hunt) (window : Byte) (bits : Nat)
  (byte : Byte) (bytes : List Byte)
include isOpen

/-- The boundary of a cell, at its step 0. -/
theorem Receiver.next_boundary : (Receiver.atCell window inFrame bits byte bytes f e).next k true =
    (Receiver.atCell window inFrame bits byte bytes f e).inCell 1 false := by
  rw [Receiver.next_of_began (f := f) rfl rfl (isOpen.imp_right fun h => (by omega : e < f + k.hunt))]
  rfl

/-- A step of a cell with no transition. -/
theorem Receiver.next_quiet {j : Nat} (inside : j < 15) (mid : Bool) :
    ((Receiver.atCell window inFrame bits byte bytes f e).inCell j mid).next k false =
      (Receiver.atCell window inFrame bits byte bytes f e).inCell (j + 1) mid := by
  rw [Receiver.next_of_began (f := f) rfl rfl (isOpen.imp_right fun h => (by omega : e + j < f + k.hunt))]
  by_cases closes : j = 2
  · subst closes
    rfl
  · have goes : ¬ j + 1 = 16 := by omega
    simp [Receiver.track, Receiver.examine, Receiver.advance, Receiver.inCell, Receiver.atCell, Receiver.start, closes, goes,
      Nat.add_assoc]

/-- The middle of a cell, with the transition that its bit calls for or none. -/
theorem Receiver.next_middle (t : Bool) : ((Receiver.atCell window inFrame bits byte bytes f e).inCell 8 false).next k t =
    (Receiver.atCell window inFrame bits byte bytes f e).inCell 9 t := by
  rw [Receiver.next_of_began (f := f) rfl rfl (isOpen.imp_right fun h => (by omega : e + 8 < f + k.hunt))]
  cases t <;> rfl

theorem Receiver.next_quiets (n : Nat) : ∀ {j : Nat}, j + n ≤ 15 → ∀ mid : Bool,
    (List.replicate n false).foldl (Receiver.next k) ((Receiver.atCell window inFrame bits byte bytes f e).inCell j mid) =
      (Receiver.atCell window inFrame bits byte bytes f e).inCell (j + n) mid := by
  induction n with
  | zero => exact fun _ _ => rfl
  | succ n ih =>
    intro j inside mid
    rw [List.replicate_succ, List.foldl_cons, Receiver.next_quiet isOpen window bits byte bytes (by omega), ih (by omega)]
    congr 1
    omega

/-- A cell of the coder: its bit delivered at the last of its sixteen steps (R55, R57). -/
theorem Receiver.next_cell (bit : Bool) :
    (cellSteps k.coding bit).foldl (Receiver.next k) (Receiver.atCell window inFrame bits byte bytes f e) =
      ((Receiver.atCell window inFrame bits byte bytes f e).inCell 15 (k.coding.mid bit)).next k false := by
  have cell : cellSteps k.coding bit = true :: (List.replicate 7 false ++ k.coding.mid bit :: (List.replicate 6 false ++ [false])) := rfl
  rw [cell, List.foldl_cons, Receiver.next_boundary isOpen, List.foldl_append, Receiver.next_quiets isOpen window bits byte bytes 7 (by omega),
    List.foldl_cons, Receiver.next_middle isOpen, List.foldl_append, Receiver.next_quiets isOpen window bits byte bytes 6 (by omega)]
  rfl

end

/-- The last step of a cell, where its bit is delivered. -/
theorem Receiver.next_last {k : Listening} {inFrame : Bool} {f e : Nat} (isOpen : inFrame = true ∨ e + 16 ≤ f + k.hunt) (window : Byte)
    (bits : Nat) (byte : Byte) (bytes : List Byte) (mid : Bool) :
    ((Receiver.atCell window inFrame bits byte bytes f e).inCell 15 mid).next k false =
      let r := ((Receiver.atCell window inFrame bits byte bytes f e).inCell 15 mid).deliver k
      { (if r.result = .pending then r.beginCell else r) with elapsed := e + 16 } := by
  rw [Receiver.next_of_began (f := f) rfl rfl (isOpen.imp_right fun h => (by omega : e + 15 < f + k.hunt))]
  rfl

/-- The delivery of the bit that a cell carries (R55 to R57). -/
theorem Receiver.deliver_bit {k : Listening} {r : Receiver} {bit : Bool} (carried : r.mid = k.coding.mid bit) :
    r.deliver k =
      if r.inFrame = true then
        if r.bits + 1 = 8 then ({ r with byte := shiftIn r.byte bit, bits := r.bits + 1 } : Receiver).takeByte k
        else { r with byte := shiftIn r.byte bit, bits := r.bits + 1 }
      else if shiftIn r.shift bit = Config.loopStart then { r with shift := 0, inFrame := true, missed := false }
      else { r with shift := shiftIn r.shift bit } := by
  simp only [Receiver.deliver, carried, Coding.mid_mid]
  rfl

/-! ## Hunting for the start byte (R56) -/

/-- A cell heard while the receiver hunts: its bit joins the window, and the start byte begins the frame (R56). -/
theorem Receiver.hunting_cell {k : Listening} {f e : Nat} (within_bound : e + 16 ≤ f + k.hunt) (w : Byte) (bit : Bool) :
    (cellSteps k.coding bit).foldl (Receiver.next k) (Receiver.atCell w false 0 0 [] f e) =
      if shiftIn w bit = Config.loopStart then Receiver.atCell 0 true 0 0 [] f (e + 16)
      else Receiver.atCell (shiftIn w bit) false 0 0 [] f (e + 16) := by
  rw [Receiver.next_cell (.inr within_bound), Receiver.next_last (.inr within_bound), Receiver.deliver_bit (bit := bit) rfl]
  by_cases starts : shiftIn w bit = Config.loopStart
  · simp only [Receiver.inCell, Receiver.atCell, Receiver.start, starts]
    rfl
  · simp only [Receiver.inCell, Receiver.atCell, Receiver.start, starts]
    rfl

/-- The bits leave the window short of the start byte at each of them. -/
def huntsPast (w : Byte) : List Bool → Bool
  | [] => true
  | bit :: rest => shiftIn w bit != Config.loopStart && huntsPast (shiftIn w bit) rest

/-- The cells of bits that do not complete the start byte (R56). -/
theorem Receiver.hunting_cells {k : Listening} {f : Nat} (bits : List Bool) : ∀ {w : Byte} {e : Nat}, huntsPast w bits = true →
    e + 16 * bits.length ≤ f + k.hunt →
    (bits.flatMap (cellSteps k.coding)).foldl (Receiver.next k) (Receiver.atCell w false 0 0 [] f e) =
      Receiver.atCell (bits.foldl shiftIn w) false 0 0 [] f (e + 16 * bits.length) := by
  induction bits with
  | nil => exact fun _ _ => rfl
  | cons bit rest ih =>
    intro w e past within_bound
    obtain ⟨goes, past'⟩ : shiftIn w bit ≠ Config.loopStart ∧ huntsPast (shiftIn w bit) rest = true := by simpa [huntsPast] using past
    rw [List.length_cons] at within_bound ⊢
    rw [List.flatMap_cons, List.foldl_append, Receiver.hunting_cell (by omega), if_neg goes, ih past' (by omega), List.foldl_cons]
    congr 1
    omega

/-- A byte of preamble leaves the receiver hunting (R56, R59). -/
theorem Receiver.hunting_preamble_byte {k : Listening} {f e : Nat} {w : Byte} (before : w = 0 ∨ w = 0x55)
    (within_bound : e + 128 ≤ f + k.hunt) :
    (lineOf k.coding [0x55]).foldl (Receiver.next k) (Receiver.atCell w false 0 0 [] f e) =
      Receiver.atCell 0x55 false 0 0 [] f (e + 128) := by
  have past : huntsPast w (byteBits 0x55) = true ∧ (byteBits 0x55).foldl shiftIn w = 0x55 := by
    obtain rfl | rfl := before <;> decide
  refine (Receiver.hunting_cells (byteBits 0x55) past.1 within_bound).trans ?_
  rw [past.2]
  rfl

theorem lineOf_append (c : Coding) (a b : List Byte) : lineOf c (a ++ b) = lineOf c a ++ lineOf c b := by
  simp [lineOf]

theorem lineOf_cons (c : Coding) (b : Byte) (rest : List Byte) : lineOf c (b :: rest) = lineOf c [b] ++ lineOf c rest :=
  lineOf_append c [b] rest

/-- The preamble (R59). -/
theorem Receiver.hunting_preamble {k : Listening} {f : Nat} (n : Nat) : ∀ {w : Byte} {e : Nat}, (w = 0 ∨ w = 0x55) →
    e + 128 * n ≤ f + k.hunt → ∃ v : Byte, (v = 0 ∨ v = 0x55) ∧
      (lineOf k.coding (List.replicate n 0x55)).foldl (Receiver.next k) (Receiver.atCell w false 0 0 [] f e) =
        Receiver.atCell v false 0 0 [] f (e + 128 * n) := by
  induction n with
  | zero => exact fun before _ => ⟨_, before, rfl⟩
  | succ n ih =>
    intro w e before within_bound
    obtain ⟨v, still, heard⟩ := ih (w := 0x55) (e := e + 128) (.inr rfl) (by omega)
    refine ⟨v, still, ?_⟩
    rw [List.replicate_succ, lineOf_cons, List.foldl_append, Receiver.hunting_preamble_byte before (by omega), heard]
    congr 1
    omega

/-- The start byte after a preamble begins the frame at its last bit (R56). -/
theorem Receiver.hunting_start_byte {k : Listening} {f e : Nat} {w : Byte} (before : w = 0 ∨ w = 0x55)
    (within_bound : e + 128 ≤ f + k.hunt) :
    (lineOf k.coding [0xE7]).foldl (Receiver.next k) (Receiver.atCell w false 0 0 [] f e) =
      Receiver.atCell 0 true 0 0 [] f (e + 128) := by
  have bits : lineOf k.coding [0xE7] =
      ((byteBits 0xE7).take 7).flatMap (cellSteps k.coding) ++ cellSteps k.coding true := by
    rw [lineOf, show ([0xE7] : List Byte).flatMap byteBits = (byteBits 0xE7).take 7 ++ [true] by decide]
    simp
  have past : huntsPast w ((byteBits 0xE7).take 7) = true ∧
      shiftIn (((byteBits 0xE7).take 7).foldl shiftIn w) true = Config.loopStart := by
    obtain rfl | rfl := before <;> decide
  have seven : ((byteBits 0xE7).take 7).length = 7 := rfl
  rw [bits, List.foldl_append, Receiver.hunting_cells _ past.1 (by omega), Receiver.hunting_cell (by omega), if_pos past.2, seven]

/-- A transition heard while the tracker searches is the boundary of a cell (R56). -/
theorem Receiver.searching_boundary {k : Listening} {e : Nat} (isOpen : k.window ≠ some e) (hunts : 16 ≤ k.hunt) :
    (Receiver.searching e).next k true = (Receiver.atCell 0 false 0 0 [] e e).next k true := by
  rw [Receiver.next_boundary (.inr (by omega))]
  have no_bound : (Receiver.searching e).bounds k = Receiver.searching e := if_neg isOpen
  rw [Receiver.next, no_bound]
  rfl

/-- A step with no transition while the tracker searches (R56, R60). -/
theorem Receiver.searching_quiet {k : Listening} {e : Nat} (isOpen : k.window ≠ some e) :
    (Receiver.searching e).next k false = Receiver.searching (e + 1) := by
  have no_bound : (Receiver.searching e).bounds k = Receiver.searching e := if_neg isOpen
  rw [Receiver.next, no_bound]
  rfl

theorem Receiver.searching_quiets {k : Listening} (n : Nat) : ∀ {e : Nat}, (∀ i < n, k.window ≠ some (e + i)) →
    (List.replicate n false).foldl (Receiver.next k) (Receiver.searching e) = Receiver.searching (e + n) := by
  induction n with
  | zero => exact fun _ => rfl
  | succ n ih =>
    intro e isOpen
    have rest : ∀ i < n, k.window ≠ some (e + 1 + i) := fun i inside => by
      have later := isOpen (i + 1) (by omega)
      rwa [Nat.add_comm i, ← Nat.add_assoc] at later
    rw [List.replicate_succ, List.foldl_cons, Receiver.searching_quiet (e := e) (isOpen 0 (by omega)), ih rest]
    congr 1
    omega

/-- A preamble and the start byte, heard from the first cell by a receiver that listens since `e` steps (R56, R59). -/
theorem Receiver.searching_frame {k : Listening} {e n : Nat} (isOpen : k.window ≠ some e) (within_bound : 128 * (n + 1) ≤ k.hunt) :
    (lineOf k.coding (List.replicate n 0x55 ++ [0xE7])).foldl (Receiver.next k) (Receiver.searching e) =
      Receiver.atCell 0 true 0 0 [] e (e + 128 * (n + 1)) := by
  obtain ⟨rest, begins⟩ : ∃ rest, lineOf k.coding (List.replicate n 0x55 ++ [0xE7]) = true :: rest := by
    cases n <;> exact ⟨_, rfl⟩
  have locks : (lineOf k.coding (List.replicate n 0x55 ++ [0xE7])).foldl (Receiver.next k) (Receiver.searching e) =
      (lineOf k.coding (List.replicate n 0x55 ++ [0xE7])).foldl (Receiver.next k) (Receiver.atCell 0 false 0 0 [] e e) := by
    rw [begins, List.foldl_cons, List.foldl_cons, Receiver.searching_boundary isOpen (by omega)]
  obtain ⟨v, still, heard⟩ := Receiver.hunting_preamble (k := k) (f := e) n (e := e) (.inl rfl) (by omega)
  rw [locks, lineOf_append, List.foldl_append, heard, Receiver.hunting_start_byte still (by omega)]
  congr 1

/-! ## The bytes of a frame (R58, R59) -/

/-- A cell heard in a frame before the eighth bit of a byte: its bit joins the byte in hand (R58). -/
theorem Receiver.framing_cell {k : Listening} {f e bits : Nat} (few : bits < 7) (byte : Byte) (bytes : List Byte) (bit : Bool) :
    (cellSteps k.coding bit).foldl (Receiver.next k) (Receiver.atCell 0 true bits byte bytes f e) =
      Receiver.atCell 0 true (bits + 1) (shiftIn byte bit) bytes f (e + 16) := by
  have more : ¬ bits + 1 = 8 := by omega
  rw [Receiver.next_cell (.inl rfl), Receiver.next_last (.inl rfl), Receiver.deliver_bit (bit := bit) rfl]
  simp only [Receiver.inCell, Receiver.atCell, Receiver.start, more]
  rfl

theorem Receiver.framing_cells {k : Listening} {f : Nat} (bytes : List Byte) (rest : List Bool) : ∀ {bits e : Nat} {byte : Byte},
    bits + rest.length ≤ 7 →
    (rest.flatMap (cellSteps k.coding)).foldl (Receiver.next k) (Receiver.atCell 0 true bits byte bytes f e) =
      Receiver.atCell 0 true (bits + rest.length) (rest.foldl shiftIn byte) bytes f (e + 16 * rest.length) := by
  induction rest with
  | nil => exact fun _ => rfl
  | cons bit rest ih =>
    intro bits e byte few
    rw [List.length_cons] at few ⊢
    rw [List.flatMap_cons, List.foldl_append, Receiver.framing_cell (by omega), ih (by omega), List.foldl_cons]
    congr 1 <;> omega

/-- The eight bits of a byte, shifted in one after another, are the byte. -/
theorem shiftIn_byteBits : ∀ b : Byte, (byteBits b).foldl shiftIn 0 = b := by decide +kernel

/-- The receiver settled in its frame at the end of a byte. -/
def Receiver.ended (x : Reception) (mid : Bool) (bytes : List Byte) (f e : Nat) : Receiver :=
  { Receiver.atCell 0 true 0 0 bytes f e with tracker := .search, step := 15, found := true, mid := mid, result := x }

/-- A byte of the line, taken by the framer at the end of its last cell (R58). -/
theorem Receiver.framing_byte (k : Listening) (b : Byte) (bytes : List Byte) (f e : Nat) : ∃ mid,
    (lineOf k.coding [b]).foldl (Receiver.next k) (Receiver.atCell 0 true 0 0 bytes f e) =
      if (bytes ++ [b]).length = 4 ∧ 16 < (((bytes ++ [b])[3]?).getD 0).toNat then Receiver.ended .aborted mid (bytes ++ [b]) f (e + 128)
      else if frameLength k (bytes ++ [b]) = some (bytes ++ [b]).length then
        Receiver.ended (.complete (bytes ++ [b])) mid (bytes ++ [b]) f (e + 128)
      else Receiver.atCell 0 true 0 0 (bytes ++ [b]) f (e + 128) := by
  have bits : byteBits b = (byteBits b).take 7 ++ [b.getMsbD 7] := rfl
  have line : lineOf k.coding [b] = ((byteBits b).take 7).flatMap (cellSteps k.coding) ++ cellSteps k.coding (b.getMsbD 7) := by
    rw [← List.flatMap_singleton (cellSteps k.coding), ← List.flatMap_append, ← bits, lineOf, List.flatMap_singleton]
  have seven : ((byteBits b).take 7).length = 7 := rfl
  have whole : shiftIn (((byteBits b).take 7).foldl shiftIn 0) (b.getMsbD 7) = b := by
    have shifted := shiftIn_byteBits b
    rwa [bits, List.foldl_append] at shifted
  refine ⟨k.coding.mid (b.getMsbD 7), ?_⟩
  rw [line, List.foldl_append, Receiver.framing_cells _ _ (by omega), seven, Receiver.next_cell (.inl rfl), Receiver.next_last (.inl rfl),
    Receiver.deliver_bit (bit := b.getMsbD 7) rfl]
  by_cases long : (bytes ++ [b]).length = 4 ∧ 16 < (((bytes ++ [b])[3]?).getD 0).toNat
  · rw [if_pos long]
    simp only [Receiver.inCell, Receiver.atCell, Receiver.start, Receiver.takeByte, whole, if_pos long]
    rfl
  · rw [if_neg long]
    by_cases full : frameLength k (bytes ++ [b]) = some (bytes ++ [b]).length
    · rw [if_pos full]
      simp only [Receiver.inCell, Receiver.atCell, Receiver.start, Receiver.takeByte, whole, if_neg long, if_pos full]
      rfl
    · rw [if_neg full]
      simp only [Receiver.inCell, Receiver.atCell, Receiver.start, Receiver.takeByte, whole, if_neg long, if_neg full]
      rfl

/-- A frame with these bytes from its address on is still in progress: its length byte, once in, stands, and its last check byte is to
come (R58, R59). -/
def FrameOpen (k : Listening) (bytes : List Byte) : Prop :=
  ∀ n, bytes[3]? = some n → n.toNat ≤ 16 ∧ bytes.length < 4 + n.toNat + k.checkBytes

theorem FrameOpen.of_append {k : Listening} {a b : List Byte} (isOpen : FrameOpen k (a ++ b)) : FrameOpen k a := by
  intro n length
  have inA : 3 < a.length := (List.getElem?_eq_some_iff.mp length).1
  obtain ⟨stands, more⟩ := isOpen n (by rw [List.getElem?_append_left inA, length])
  rw [List.length_append] at more
  exact ⟨stands, by omega⟩

/-- The bytes of a frame still in progress (R58). -/
theorem Receiver.framing_bytes {k : Listening} {f : Nat} (more : List Byte) : ∀ {bytes : List Byte} {e : Nat}, FrameOpen k (bytes ++ more) →
    (lineOf k.coding more).foldl (Receiver.next k) (Receiver.atCell 0 true 0 0 bytes f e) =
      Receiver.atCell 0 true 0 0 (bytes ++ more) f (e + 128 * more.length) := by
  induction more with
  | nil =>
    intro bytes e _
    rw [List.append_nil]
    rfl
  | cons b rest ih =>
    intro bytes e isOpen
    have joined : bytes ++ b :: rest = (bytes ++ [b]) ++ rest := by simp
    rw [joined] at isOpen
    obtain ⟨mid, taken⟩ := Receiver.framing_byte k b bytes f e
    have stands := isOpen.of_append
    have short : ¬ ((bytes ++ [b]).length = 4 ∧ 16 < (((bytes ++ [b])[3]?).getD 0).toNat) := fun ⟨four, long⟩ => by
      cases length : (bytes ++ [b])[3]? with
      | none => simp [length] at long
      | some n =>
        rw [length, Option.getD_some] at long
        exact absurd (stands n length).1 (by omega)
    have unfinished : frameLength k (bytes ++ [b]) ≠ some (bytes ++ [b]).length := fun full => by
      obtain ⟨n, length, last⟩ := Option.map_eq_some_iff.mp full
      have := (stands n length).2
      omega
    rw [if_neg short, if_neg unfinished] at taken
    have steps : e + 128 + 128 * rest.length = e + 128 * (rest.length + 1) := by omega
    rw [lineOf_cons, List.foldl_append, taken, ih isOpen, ← joined, List.length_cons, steps]

/-- The last check byte of a frame completes it (R58). -/
theorem Receiver.framing_complete {k : Listening} (checked : 1 ≤ k.checkBytes) {frame : List Byte} {n : Byte} (length : frame[3]? = some n)
    (stands : n.toNat ≤ 16) (whole : frame.length = 4 + n.toNat + k.checkBytes) (f e : Nat) : ∃ mid,
    (lineOf k.coding frame).foldl (Receiver.next k) (Receiver.atCell 0 true 0 0 [] f e) =
      Receiver.ended (.complete frame) mid frame f (e + 128 * frame.length) := by
  obtain rfl | ⟨bytes, b, rfl⟩ := frame.eq_nil_or_concat'
  · simp at length
  rw [List.length_append, List.length_singleton] at whole
  rw [List.getElem?_append_left (by omega)] at length
  have inProgress : FrameOpen k ([] ++ bytes) := fun m named => by
    obtain rfl : m = n := by simpa [length, eq_comm] using named
    exact ⟨stands, by rw [List.nil_append]; omega⟩
  have size : (bytes ++ [b]).length = bytes.length + 1 := List.length_append
  have full : frameLength k (bytes ++ [b]) = some (bytes ++ [b]).length := by
    rw [frameLength, List.getElem?_append_left (by omega), length, Option.map_some, size, whole]
  obtain ⟨mid, taken⟩ := Receiver.framing_byte k b bytes f (e + 128 * bytes.length)
  rw [if_neg (by rw [size]; omega), if_pos full] at taken
  refine ⟨mid, ?_⟩
  rw [lineOf_append, List.foldl_append, Receiver.framing_bytes bytes inProgress, List.nil_append, taken, size]
  congr 1

/-- A length byte above 16 aborts the frame at its end, with no latch set (R58). -/
theorem Receiver.framing_long {k : Listening} {f e : Nat} {address kind sequence n : Byte} (long : 16 < n.toNat) : ∃ mid,
    (lineOf k.coding [address, kind, sequence, n]).foldl (Receiver.next k) (Receiver.atCell 0 true 0 0 [] f e) =
      Receiver.ended .aborted mid [address, kind, sequence, n] f (e + 128 * 4) := by
  have isOpen : FrameOpen k ([] ++ [address, kind, sequence]) := fun m named => by simp at named
  obtain ⟨mid, taken⟩ := Receiver.framing_byte k n [address, kind, sequence] f (e + 128 * 3)
  rw [if_pos ⟨rfl, long⟩] at taken
  refine ⟨mid, ?_⟩
  rw [show [address, kind, sequence, n] = [address, kind, sequence] ++ [n] from rfl, lineOf_append, List.foldl_append,
    Receiver.framing_bytes _ isOpen]
  exact taken

/-! ## A frame cut short (R58) -/

/-- The receiver in a frame, `j` steps into a cell whose boundary has not come, the last one missed or not. -/
def Receiver.inGap (j : Nat) (missed : Bool) (bits : Nat) (byte : Byte) (bytes : List Byte) (f e : Nat) : Receiver :=
  { Receiver.atCell 0 true bits byte bytes f e with step := j, missed := missed, miss1 := missed }

section
variable (k : Listening) (bits : Nat) (byte : Byte) (bytes : List Byte) (f : Nat)

/-- Quiet steps of a cell away from the end of its boundary window and its last step. -/
theorem Receiver.gap_quiets (missed : Bool) (n : Nat) : ∀ {j e : Nat}, (j + n ≤ 2 ∨ 2 < j) → j + n ≤ 15 →
    (List.replicate n false).foldl (Receiver.next k) (Receiver.inGap j missed bits byte bytes f e) =
      Receiver.inGap (j + n) missed bits byte bytes f (e + n) := by
  induction n with
  | zero => exact fun _ _ => rfl
  | succ n ih =>
    intro j e away inside
    have goes : ¬ j + 1 = 16 := by omega
    have between : ¬ j = 2 := by omega
    have quiet : (Receiver.inGap j missed bits byte bytes f e).next k false = Receiver.inGap (j + 1) missed bits byte bytes f (e + 1) := by
      rw [Receiver.next_of_began (f := f) rfl rfl (.inl rfl)]
      simp [Receiver.track, Receiver.examine, Receiver.advance, Receiver.inGap, Receiver.atCell, Receiver.start, between, goes]
    rw [List.replicate_succ, List.foldl_cons, quiet, ih (by omega) (by omega), Nat.add_assoc, Nat.add_assoc, Nat.add_comm 1 n]

/-- The end of a boundary window with no boundary: a first miss sets a latch (R58). -/
theorem Receiver.gap_missed (e : Nat) : (Receiver.inGap 2 false bits byte bytes f e).next k false =
    Receiver.inGap 3 true bits byte bytes f (e + 1) := by
  rw [Receiver.next_of_began (f := f) rfl rfl (.inl rfl)]
  rfl

/-- A second miss in succession aborts the frame (R58). -/
theorem Receiver.gap_aborts (e : Nat) : (Receiver.inGap 2 true bits byte bytes f e).next k false =
    { Receiver.inGap 2 true 0 0 bytes f (e + 1) with tracker := .search, miss2 := true, result := .aborted } := by
  rw [Receiver.next_of_began (f := f) rfl rfl (.inl rfl)]
  rfl

/-- The cell of a first missed boundary delivers its bit all the same (R58). -/
theorem Receiver.gap_last (e : Nat) : ∃ byte', (Receiver.inGap 15 true 0 0 bytes f e).next k false =
    Receiver.inGap 0 true 1 byte' bytes f (e + 1) := by
  rw [Receiver.next_of_began (f := f) rfl rfl (.inl rfl)]
  exact ⟨_, rfl⟩

end

/-- Quiet in a frame: its second missing boundary aborts it, with both latches set (R58). -/
theorem Receiver.framing_cut (k : Listening) (bytes : List Byte) (f e : Nat) :
    (List.replicate 19 false).foldl (Receiver.next k) (Receiver.atCell 0 true 0 0 bytes f e) =
      { Receiver.inGap 2 true 0 0 bytes f (e + 19) with tracker := .search, miss2 := true, result := .aborted } := by
  have quiet : List.replicate 19 false = List.replicate 2 false ++ false :: (List.replicate 12 false ++ false ::
    (List.replicate 2 false ++ [false])) := rfl
  obtain ⟨byte, last⟩ := Receiver.gap_last k bytes f (e + 2 + 1 + 12)
  rw [quiet, show Receiver.atCell 0 true 0 0 bytes f e = Receiver.inGap 0 false 0 0 bytes f e from rfl, List.foldl_append,
    Receiver.gap_quiets k 0 0 bytes f false 2 (.inl (by omega)) (by omega), List.foldl_cons, Receiver.gap_missed, List.foldl_append,
    Receiver.gap_quiets k 0 0 bytes f true 12 (.inr (by omega)) (by omega), List.foldl_cons, last, List.foldl_append,
    Receiver.gap_quiets k 1 byte bytes f true 2 (.inl (by omega)) (by omega), List.foldl_cons, Receiver.gap_aborts]
  rfl

end Sys2Proof.Machine
end

section
/-! PROOFS. A frame received whole, and the TEST frames of a loop turned inward (Sections 4.2 to 4.4, 4.10): what a reception makes of a line,
and after it the two statements that rest on it. -/

namespace Sys2Proof.Machine

/-! ## A frame received (R55 to R59) -/

theorem Receiver.bounds_of_inFrame {k : Listening} {r : Receiver} {f : Nat} (began : r.first = some f) (inFrame : r.inFrame = true) :
    r.bounds k = r := by
  simp [Receiver.bounds, began, inFrame]

theorem CheckKind.bytes_pos (check : CheckKind) : 1 ≤ check.bytes := by
  cases check <;> decide

/-- A preamble and the start byte, heard after some quiet, begin the frame (R56, R59). -/
theorem Receiver.heard_start {k : Listening} {quiet n : Nat} (inWindow : ∀ i ≤ quiet, k.window ≠ some i)
    (within_bound : 128 * (n + 1) ≤ k.hunt) (rest : List Byte) :
    (List.replicate quiet false ++ lineOf k.coding (List.replicate n 0x55 ++ 0xE7 :: rest)).foldl (Receiver.next k) Receiver.start =
      (lineOf k.coding rest).foldl (Receiver.next k) (Receiver.atCell 0 true 0 0 [] quiet (quiet + 128 * (n + 1))) := by
  have silence := Receiver.searching_quiets (k := k) quiet (e := 0) fun i before => inWindow _ (by omega)
  rw [Nat.zero_add] at silence
  have parts : List.replicate n 0x55 ++ 0xE7 :: rest = (List.replicate n (0x55 : Byte) ++ [0xE7]) ++ rest := by simp
  rw [parts, lineOf_append, List.foldl_append, show Receiver.start = Receiver.searching 0 from rfl, silence, List.foldl_append,
    Receiver.searching_frame (inWindow quiet le_rfl) within_bound]

/-- A whole frame after its preamble completes (R55 to R59). -/
theorem Receiver.heard_frame {k : Listening} (checked : 1 ≤ k.checkBytes) {quiet n : Nat} (inWindow : ∀ i ≤ quiet, k.window ≠ some i)
    (within_bound : 128 * (n + 1) ≤ k.hunt) {frame : List Byte} {size : Byte} (length : frame[3]? = some size) (stands : size.toNat ≤ 16)
    (whole : frame.length = 4 + size.toNat + k.checkBytes) : ∃ mid e,
    (List.replicate quiet false ++ lineOf k.coding (List.replicate n 0x55 ++ 0xE7 :: frame)).foldl (Receiver.next k) Receiver.start =
      Receiver.ended (.complete frame) mid frame quiet e := by
  obtain ⟨mid, ended⟩ := Receiver.framing_complete checked length stands whole quiet (quiet + 128 * (n + 1))
  exact ⟨mid, _, (Receiver.heard_start inWindow within_bound frame).trans ended⟩

/-- Settles O25: the quiet, the preamble and the frame, each heard in turn. -/
theorem loopLineRoundTrip : Obligations.LoopLineRoundTrip := by
  unfold Obligations.LoopLineRoundTrip
  intro c n address kind sequence payload quiet _ inHunt few inWindow bytes r
  have size : (bytes ++ loopCheck c.check bytes)[3]? = some (BitVec.ofNat 8 payload.length) := by
    rw [show bytes = _ from covered_eq ..]
    rfl
  have fits : (BitVec.ofNat 8 payload.length).toNat = payload.length := by
    rw [BitVec.toNat_ofNat]
    omega
  have whole : (bytes ++ loopCheck c.check bytes).length = 4 + payload.length + c.check.bytes := by
    rw [List.length_append, loopCheck_length, show bytes = _ from covered_eq ..]
    simp
    omega
  obtain ⟨mid, e, heard⟩ := Receiver.heard_frame (k := c.answer) (quiet := quiet) (n := n) c.check.bytes_pos
    (fun i before expired => by
      obtain rfl : c.window * 16 = i := Option.some.inj expired
      omega)
    (by
      change 128 * (n + 1) ≤ (c.npre + 4) * 8 * 16
      omega)
    size (by omega) (by rw [fits]; exact whole)
  have received : r = Receiver.ended (.complete (bytes ++ loopCheck c.check bytes)) mid (bytes ++ loopCheck c.check bytes) quiet e := by
    refine (congrArg (Receiver.bounds c.answer) heard).trans ?_
    exact Receiver.bounds_of_inFrame rfl rfl
  rw [received]
  exact ⟨rfl, rfl, rfl⟩

/-! ## The line of a TEST frame (R74, R75) -/

theorem lineOf_length (c : Coding) (bytes : List Byte) : (lineOf c bytes).length = 128 * bytes.length := by
  induction bytes with
  | nil => rfl
  | cons b rest ih =>
    have one : (lineOf c [b]).length = 128 := rfl
    rw [lineOf_cons, List.length_append, one, ih, List.length_cons]
    omega

/-- What a line gives by its last sent cell begins with what it begins with (R75). -/
theorem sentCells_begin {sent : Nat} {p : List Bool} (fits : p.length ≤ sent) (rest : List Bool) : ∃ q, sentCells sent (p ++ rest) = p ++ q := by
  refine ⟨(rest ++ List.replicate sent false).take (sent - p.length), ?_⟩
  rw [sentCells, List.append_assoc, List.take_append, List.take_of_length_le fits]

/-- A line that ends before the last sent cell goes on in quiet (log 11). -/
theorem sentCells_short {sent n : Nat} {line : List Bool} (short : line.length + n ≤ sent) :
    ∃ q, sentCells sent line = line ++ List.replicate n false ++ q := by
  obtain ⟨m, rfl⟩ : ∃ m, sent = n + m := ⟨sent - n, by omega⟩
  have quiet : sentCells (n + m) line = sentCells (n + m) ((line ++ List.replicate n false) ++ List.replicate m false) := by
    have pad : ∀ more, (line ++ List.replicate (n + m) false ++ more).take (n + m) = (line ++ List.replicate (n + m) false).take (n + m) :=
      fun more => List.take_append_of_le_length (by simp)
    rw [sentCells, sentCells, List.append_assoc line, List.replicate_append_replicate, pad]
  rw [quiet]
  exact sentCells_begin (by simpa using short) _

theorem Receiver.foldl_settled {k : Listening} {r : Receiver} {f : Nat} (began : r.first = some f) (inFrame : r.inFrame = true)
    (settled : r.result ≠ .pending) (line : List Bool) : line.foldl (Receiver.next k) r = r := by
  induction line with
  | nil => rfl
  | cons t rest ih => rw [List.foldl_cons, Receiver.next_of_settled began inFrame settled, ih]

/-- A reception settled in its frame by the last sent cell is the reception of the TEST frame, whatever follows (R75). -/
theorem receiveTest_settled {k : Listening} {sent : Nat} {line p q : List Bool} {r : Receiver} {f : Nat}
    (starts : sentCells sent line = p ++ q) (heard : p.foldl (Receiver.next k) Receiver.start = r) (began : r.first = some f)
    (inFrame : r.inFrame = true) (settled : r.result ≠ .pending) : receiveTest k sent line = r := by
  have received : Receiver.receive k (sentCells sent line) = r := by
    rw [Receiver.receive, starts, List.foldl_append, heard, Receiver.foldl_settled began inFrame settled,
      Receiver.bounds_of_inFrame began inFrame]
  rw [receiveTest]
  simp only [received]
  rw [if_pos inFrame, Receiver.foldl_settled began inFrame settled]

/-- A line with no transition by its last sent cell gives no frame (R75). -/
theorem receiveTest_quiet (c : LoopConfig) {sent quiet : Nat} (long : sent ≤ quiet) (rest : List Bool) :
    receiveTest c.loopback sent (List.replicate quiet false ++ rest) = (Receiver.searching sent).settle .aborted := by
  obtain ⟨more, rfl⟩ : ∃ more, quiet = sent + more := ⟨quiet - sent, by omega⟩
  have cells : sentCells sent (List.replicate (sent + more) false ++ rest) = List.replicate sent false := by
    rw [← List.replicate_append_replicate, List.append_assoc]
    simpa using sentCells_append (List.replicate sent false) (List.replicate more false ++ rest)
  have silence := Receiver.searching_quiets (k := c.loopback) sent (e := 0) fun i _ named => by cases named
  have received : Receiver.receive c.loopback (List.replicate sent false) = Receiver.searching sent := by
    rw [Receiver.receive, show Receiver.start = Receiver.searching 0 from rfl, silence, Nat.zero_add]
    rfl
  rw [receiveTest, cells, received]
  rfl

/-! ## A frame completes in the frame alone (R56, R58) -/

/-- A reception that is complete has been in its frame. -/
def Receiver.CompleteInFrame (r : Receiver) : Prop := ∀ bytes, r.result = .complete bytes → r.inFrame = true

theorem Receiver.completeInFrame_bounds {k : Listening} {r : Receiver} (h : r.CompleteInFrame) : (r.bounds k).CompleteInFrame := by
  unfold Receiver.bounds
  split
  · split
    · exact fun _ complete => Reception.noConfusion complete
    · exact h
  · split
    · exact fun _ complete => Reception.noConfusion complete
    · exact h

theorem Receiver.completeInFrame_pending {r : Receiver} (pending : r.result = .pending) : r.CompleteInFrame := fun _ complete => by
  rw [pending] at complete
  cases complete

theorem Receiver.takeByte_inFrame (k : Listening) (r : Receiver) : (r.takeByte k).inFrame = r.inFrame := by
  unfold Receiver.takeByte
  dsimp only
  split
  · rfl
  · split <;> rfl

/-- A bit delivered outside a frame completes none (R56, R58). -/
theorem Receiver.completeInFrame_deliver {k : Listening} {r : Receiver} (pending : r.result = .pending) :
    (r.deliver k).CompleteInFrame := by
  obtain ⟨bit, carried⟩ : ∃ bit, r.mid = k.coding.mid bit := by
    cases k.coding
    · exact ⟨r.mid, rfl⟩
    · exact ⟨!r.mid, by simp [Coding.mid]⟩
  rw [Receiver.deliver_bit carried]
  split
  · rename_i inFrame
    intro bytes _
    split
    · exact (Receiver.takeByte_inFrame ..).trans inFrame
    · exact inFrame
  · split
    · exact fun _ _ => rfl
    · exact Receiver.completeInFrame_pending pending

/-- The end of a boundary window completes no frame (R58). -/
theorem Receiver.closeWindow_result {r : Receiver} (pending : r.result = .pending) :
    r.closeWindow.result = .pending ∨ r.closeWindow.result = .aborted := by
  unfold Receiver.closeWindow
  split
  · exact .inl pending
  · split
    · exact .inl pending
    · split
      · exact .inr rfl
      · exact .inl pending

theorem Receiver.completeInFrame_advance {k : Listening} {r : Receiver} (pending : r.result = .pending) :
    (r.advance k).CompleteInFrame := by
  have windowed : (if r.step = 2 then r.closeWindow else r).result = .pending ∨
      (if r.step = 2 then r.closeWindow else r).result = .aborted := by
    split
    · exact Receiver.closeWindow_result pending
    · exact .inl pending
  unfold Receiver.advance
  dsimp only
  generalize (if r.step = 2 then r.closeWindow else r) = u at windowed ⊢
  split
  · rename_i still
    split
    · split
      · rename_i goes
        exact Receiver.completeInFrame_pending goes
      · exact Receiver.completeInFrame_deliver still
    · exact Receiver.completeInFrame_pending still
  · intro bytes complete
    rw [complete] at windowed
    obtain pending | aborted := windowed
    · cases pending
    · cases aborted

theorem Receiver.examine_result (r : Receiver) (t : Bool) : (r.examine t).result = r.result := by
  unfold Receiver.examine
  repeat' split
  all_goals rfl

theorem Receiver.completeInFrame_track {k : Listening} {r : Receiver} (pending : r.result = .pending) (t : Bool) :
    (r.track k t).CompleteInFrame := by
  unfold Receiver.track
  split
  · split
    · exact Receiver.completeInFrame_advance (r := r.lock) pending
    · exact Receiver.completeInFrame_pending pending
  · exact Receiver.completeInFrame_advance ((r.examine_result t).trans pending)

theorem Receiver.completeInFrame_next {k : Listening} {r : Receiver} (h : r.CompleteInFrame) (t : Bool) :
    (r.next k t).CompleteInFrame := by
  have bounded := Receiver.completeInFrame_bounds (k := k) h
  unfold Receiver.next
  dsimp only
  split
  · rename_i pending
    exact Receiver.completeInFrame_track (r := { r.bounds k with
      first := if ((r.bounds k).first.isNone && t) = true then some (r.bounds k).elapsed else (r.bounds k).first }) pending t
  · exact bounded

theorem Receiver.completeInFrame_receive (k : Listening) (line : List Bool) : (Receiver.receive k line).CompleteInFrame := by
  have heard : ∀ r : Receiver, r.CompleteInFrame → (line.foldl (Receiver.next k) r).CompleteInFrame := by
    induction line with
    | nil => exact fun _ h => h
    | cons t rest ih => exact fun r h => ih _ (Receiver.completeInFrame_next h t)
  exact Receiver.completeInFrame_bounds (heard _ (Receiver.completeInFrame_pending rfl))

/-- A line in no frame at the last sent cell gives none, whatever follows (R75). -/
theorem receiveTest_not_complete {k : Listening} {cells : List Bool} (rest : List Bool)
    (outside : (Receiver.receive k cells).inFrame = false) (got : List Byte) :
    (receiveTest k cells.length (cells ++ rest)).result ≠ .complete got := by
  rw [receiveTest_outside rest outside]
  split
  · exact fun complete => Reception.noConfusion complete
  · intro complete
    rw [Receiver.completeInFrame_receive k cells got complete] at outside
    cases outside

/-! ## TEST_FRAME_SETTLED (R75) -/

/-- The end of a test in the statements' words: its two reports, and the loop in OFF (R64, R69, R75). -/
theorem endTest_eq (l : Fin 4) (k : Nat) {s : State} {y : LoopState} (wiring : (s.loopAt l).wiring = y.wiring) :
    endTest l k y s = s.loopMoved l { y with mode := .off, tracker := .search, exchange := .idle }
      [.loopTestDone l k y.good y.checkFailed y.aborted, .loopEvent l y.mode .off .testEnd (s.time.day * 86400 + s.time.second)
        ((y.positions.filter (·.present)).map (·.address))] :=
  changeMode_setLoop l .testEnd (s := queueReport (.loopTestDone l k y.good y.checkFailed y.aborted) s) (x := y) wiring rfl

/-- A TEST frame settled, the loop `y` with its frame counted (R75). -/
theorem exec_testFrameSettled {s : State} (works : s.Works) (l : Fin 4) (line : List Bool) {k n : Nat}
    (tests : (s.loopAt l).exchange = .testing k n) {r : Receiver} {y : LoopState}
    (received : r = receiveTest (s.loopAt l).config.loopback (s.loopAt l).loopbackLine.length line)
    (counted : ((s.loopAt l).latch r).count (testOutcome (s.loopAt l).config.check n r) = y) :
    exec (.testFrameSettled l line) s = .next (
      if n < k then s.setLoop l { y with exchange := .testing k (n + 1) }
      else s.loopMoved l { y with mode := .off, tracker := .search, exchange := .idle }
        [.loopTestDone l k y.good y.checkFailed y.aborted, .loopEvent l y.mode .off .testEnd (s.time.day * 86400 + s.time.second)
          ((y.positions.filter (·.present)).map (·.address))]) := by
  have wiring : (s.loopAt l).wiring = y.wiring := by
    rw [← counted, LoopState.wiring, LoopState.wiring, ((s.loopAt l).count_same r _).2]
  have length : (s.loopAt l).config.testSteps n = (s.loopAt l).loopbackLine.length := by
    rw [LoopConfig.testSteps, LoopState.loopbackLine, tests]
  change execTestFrameSettled l line s = _
  rw [execTestFrameSettled, whileLive_working works]
  simp only [tests, length, ← received, counted]
  refine congrArg Host.Outcome.next ?_
  split
  · rfl
  · exact endTest_eq l k wiring

/-! ## The lines of a TEST frame (R74, R75) -/

/-- The covered bytes of TEST frame `n` (R74, Table 12.4). -/
theorem testCovered_eq {n : Nat} (most : n ≤ 255) :
    testCovered n = [0xFF, 0x04, BitVec.ofNat 8 n, 0x08, BitVec.ofNat 8 n, 0x00, 0xFF, 0x55, 0xAA, 0xE7, 0x18, 0xC3] := by
  rw [testCovered, covered_eq, Nat.mod_eq_of_lt (by omega)]
  simp [Layout.num, kindTest]

section
variable (c : LoopConfig)

/-- The receiver of a loop turned inward hears its preamble from the first cell (R74). -/
theorem loopback_open (i : Nat) : i ≤ 0 → c.loopback.window ≠ some i := fun _ named => by cases named

theorem loopback_hunt : 128 * (c.npre + 1) ≤ c.loopback.hunt := by
  change 128 * (c.npre + 1) ≤ (c.npre + 4) * 8 * 16
  omega

/-- A frame of other bytes whose length byte stands is complete (R74, R75). -/
theorem receiveTest_complete {sent : Nat} {got : List Byte} {size : Byte} (length : got[3]? = some size) (stands : size.toNat ≤ 16)
    (whole : got.length = 4 + size.toNat + c.check.bytes) (fits : 128 * (c.npre + 1 + got.length) ≤ sent) :
    let r := receiveTest c.loopback sent (lineOf c.coding (List.replicate c.npre 0x55 ++ 0xE7 :: got))
    r.result = .complete got ∧ r.miss1 = false ∧ r.miss2 = false := by
  obtain ⟨mid, e, heard⟩ := Receiver.heard_frame (k := c.loopback) c.check.bytes_pos (loopback_open c) (loopback_hunt c) length stands whole
  obtain ⟨q, starts⟩ := sentCells_begin (p := lineOf c.coding (List.replicate c.npre 0x55 ++ 0xE7 :: got)) (sent := sent)
    (by simpa [lineOf_length, Nat.add_assoc, Nat.add_comm] using fits) []
  rw [List.append_nil] at starts
  dsimp only
  rw [receiveTest_settled starts heard rfl rfl Reception.noConfusion]
  exact ⟨rfl, rfl, rfl⟩

/-- A frame cut short after its start byte aborts with both latches set (R58, R75). -/
theorem receiveTest_cut {sent : Nat} {got : List Byte} (isOpen : FrameOpen c.loopback got) (fits : 128 * (c.npre + 1 + got.length) + 19 ≤ sent) :
    let r := receiveTest c.loopback sent (lineOf c.coding (List.replicate c.npre 0x55 ++ 0xE7 :: got))
    r.result = .aborted ∧ r.miss1 = true ∧ r.miss2 = true := by
  have begun := Receiver.heard_start (k := c.loopback) (loopback_open c) (loopback_hunt c) got
  rw [Receiver.framing_bytes (bytes := []) got isOpen, List.nil_append] at begun
  obtain ⟨q, starts⟩ := sentCells_short (line := lineOf c.coding (List.replicate c.npre 0x55 ++ 0xE7 :: got)) (sent := sent) (n := 19)
    (by simpa [lineOf_length, Nat.add_assoc, Nat.add_comm] using fits)
  have heard := Receiver.framing_cut c.loopback got 0 (0 + 128 * (c.npre + 1) + 128 * got.length)
  rw [← begun, ← List.foldl_append] at heard
  dsimp only
  rw [receiveTest_settled starts heard rfl rfl Reception.noConfusion]
  exact ⟨rfl, rfl, rfl⟩

/-- A length byte above 16 aborts with no latch set, whatever follows (R58, R75). -/
theorem receiveTest_long {sent : Nat} {address kind sequence size : Byte} (long : 16 < size.toNat) (fits : 128 * (c.npre + 5) ≤ sent)
    (rest : List Byte) :
    let r := receiveTest c.loopback sent
      (lineOf c.coding (List.replicate c.npre 0x55 ++ 0xE7 :: address :: kind :: sequence :: size :: rest))
    r.result = .aborted ∧ r.miss1 = false ∧ r.miss2 = false := by
  have begun := Receiver.heard_start (k := c.loopback) (loopback_open c) (loopback_hunt c) [address, kind, sequence, size]
  obtain ⟨mid, aborts⟩ := Receiver.framing_long (k := c.loopback) (f := 0) (e := 0 + 128 * (c.npre + 1)) (address := address) (kind := kind)
    (sequence := sequence) long
  have parts : List.replicate c.npre 0x55 ++ 0xE7 :: address :: kind :: sequence :: size :: rest =
      (List.replicate c.npre 0x55 ++ 0xE7 :: [address, kind, sequence, size]) ++ rest := by simp
  obtain ⟨q, starts⟩ := sentCells_begin (p := lineOf c.coding (List.replicate c.npre 0x55 ++ 0xE7 :: [address, kind, sequence, size]))
    (sent := sent) (by simpa [lineOf_length] using fits) (lineOf c.coding rest)
  rw [parts, lineOf_append]
  dsimp only
  rw [receiveTest_settled starts (begun.trans aborts) rfl rfl Reception.noConfusion]
  exact ⟨rfl, rfl, rfl⟩

end

/-- Settles O27: the frame settled by its count, and the lines of a TEST frame by what the receiver makes of their beginnings. -/
theorem testFramesAreSettledByWhatReturns : Obligations.TestFramesAreSettledByWhatReturns := by
  unfold Obligations.TestFramesAreSettledByWhatReturns
  constructor
  · intro s l line works x k n tests r sent good failed y
    have outcome : testOutcome x.config.check n r = if good then .good else if failed then .checkFailed else .aborted := by
      unfold testOutcome
      cases result : r.result with
      | complete bytes =>
        by_cases back : bytes = sent
        · exact (if_pos back).trans (by simp [good, result, back])
        · exact (if_neg back).trans (by simp [good, failed, result, back])
      | _ => simp [good, failed, result]
    have counted : (x.latch r).count (testOutcome x.config.check n r) = y := by
      rw [outcome]
      by_cases isGood : good = true
      · have notFailed : failed = false := by simp [failed, isGood]
        simp only [y, isGood, notFailed]
        rfl
      · by_cases isFailed : failed = true <;> simp only [y, isGood, isFailed] <;> rfl
    have settled := exec_testFrameSettled works l line tests rfl counted
    exact ⟨fun more => settled.trans (by rw [if_pos more]; rfl), fun last => settled.trans (by rw [if_neg (Nat.not_lt.mpr last)])⟩
  · intro c n two one most number bytes preamble frame sent receive
    have covers : testCovered n = bytes := testCovered_eq most
    have size : (bytes ++ loopCheck c.check bytes).length = 12 + c.check.bytes := by
      rw [List.length_append, loopCheck_length]
      rfl
    have frameSize : frame.length = c.npre + 1 + (12 + c.check.bytes) := by
      simp only [frame, preamble, List.length_append, List.length_replicate, List.length_cons, loopCheck_length]
      simp [bytes]
      omega
    have sentSize : sent.length = 128 * (c.npre + 1 + (12 + c.check.bytes)) := by rw [← frameSize]; exact lineOf_length ..
    refine ⟨covers, ?_, fun got whole length => ?_, fun m started cut => ?_, fun address kind sequence length rest long => ?_,
      fun cells rest whole outside got => ?_, fun quiet rest long => ?_⟩
    · rw [testFrame, covers]
      rfl
    · exact receiveTest_complete c length (by decide) (by simpa using whole) (by rw [whole, sentSize])
    · obtain ⟨j, rfl⟩ : ∃ j, m = c.npre + (j + 1) := ⟨m - c.npre - 1, by omega⟩
      have taken : frame.take (c.npre + (j + 1)) = preamble ++ 0xE7 :: (bytes ++ loopCheck c.check bytes).take j := by
        simp [frame, preamble, List.take_append]
      have inProgress : FrameOpen c.loopback ((bytes ++ loopCheck c.check bytes).take j) := fun size named => by
        obtain rfl : (0x08 : Byte) = size := by
          rw [List.getElem?_take] at named
          split at named
          · exact Option.some.inj named
          · cases named
        refine ⟨by decide, ?_⟩
        change _ < 4 + 8 + c.check.bytes
        rw [List.length_take]
        omega
      rw [taken]
      refine receiveTest_cut c inProgress ?_
      rw [sentSize, List.length_take]
      omega
    · exact receiveTest_long c long (by rw [sentSize]; omega) rest
    · change (receiveTest c.loopback sent.length (cells ++ rest)).result ≠ _
      rw [← whole]
      exact receiveTest_not_complete rest outside got
    · dsimp only [receive]
      rw [receiveTest_quiet c long rest]
      exact ⟨rfl, rfl, rfl⟩

end Sys2Proof.Machine
end

section
/-! PROOFS. The journal and its reservations (Sections 5.3.6, 7.1 to 7.3): the acts of the part on the entries, the counts and the pending
passages, and the two laws of the journal kept by each act. -/

namespace Sys2Proof.Machine

/-! ## The slots: the journal and the pending passages -/

/-- What the laws of the journal read of the part. -/
structure Slots where
  journal : Journal
  passage : Nat → Option Passage

def State.slots (s : State) : Slots := ⟨s.journal, s.staff.passage⟩

/-- The journal with an entry written in place of its claim (R120). -/
def Journal.fill (j : Journal) (e : JournalEntry) : Journal := { j.write e with reserved := j.reserved - 1 }

/-- The journal with one place more reserved (R120). -/
def Journal.claim (j : Journal) : Journal := { j with reserved := j.reserved + 1 }

/-- The acts of the part on its slots. -/
inductive SlotAct : Slots → Slots → Prop
  /-- the oldest entries released (R124) -/
  | released (u : Slots) (n : Nat) : SlotAct u { u with journal := { u.journal with entries := u.journal.entries.drop n } }
  /-- an entry written that holds no claim beyond its own act: a refusal, or a punch committed at once (R88, R89) -/
  | written (u : Slots) (e : JournalEntry) (room : u.journal.sum < 2048) : SlotAct u { u with journal := u.journal.write e }
  /-- a place reserved for a passage that a gate takes (R88) -/
  | claimed (u : Slots) (g : Nat) (p : Passage) (isGate : g < 16) (free : u.passage g = none) (room : u.journal.sum < 2048) :
    SlotAct u ⟨u.journal.claim, Function.update u.passage g (some p)⟩
  /-- a passage given up by its gate, its entry written (R93) -/
  | filled (u : Slots) (g : Nat) (p : Passage) (isGate : g < 16) (held : u.passage g = some p) (e : JournalEntry) :
    SlotAct u ⟨u.journal.fill e, Function.update u.passage g none⟩
  /-- a cold start (R115, R125) -/
  | blank (u : Slots) : SlotAct u ⟨Journal.cold, fun _ => none⟩

/-- From one journal with its passages to a later one by acts of the part. -/
abbrev SlotPath : Slots → Slots → Prop := Relation.ReflTransGen SlotAct

/-- What every act on the slots keeps, every path of them keeps. -/
theorem SlotPath.keeps {P : Slots → Prop} (act : ∀ {u v : Slots}, SlotAct u v → P u → P v) {u v : Slots} (path : SlotPath u v)
    (h : P u) : P v := by
  induction path with
  | refl => exact h
  | tail _ one ih => exact act one ih

/-! ## The counts (R88, R121) -/

def Slots.passages (u : Slots) : Nat := (allGates.filter fun g => (u.passage g).isSome).length

/-- R121, and the reserved count as R88 and R120 give it. -/
def Slots.Fit (u : Slots) : Prop := u.journal.entries.length + u.journal.reserved ≤ 2048 ∧ u.journal.reserved = u.passages

theorem journalFits_iff (s : State) : s.JournalFits ↔ s.slots.Fit := .rfl

/-- A list without duplicates filtered by two tests that differ at one member alone. -/
theorem length_filter_succ {gs : List Nat} (distinct : gs.Nodup) {g : Nat} (member : g ∈ gs) {f f' : Nat → Bool}
    (same : ∀ h, h ≠ g → f' h = f h) (no : f g = false) (yes : f' g = true) : (gs.filter f').length = (gs.filter f).length + 1 := by
  induction gs with
  | nil => exact absurd member List.not_mem_nil
  | cons h rest ih =>
    obtain ⟨apart, distinct'⟩ := List.nodup_cons.mp distinct
    by_cases here : h = g
    · subst here
      have elsewhere : rest.filter f' = rest.filter f := List.filter_congr fun i later => same i fun e => apart (e ▸ later)
      simp [no, yes, elsewhere]
    · have later : g ∈ rest := (List.mem_cons.mp member).resolve_left fun e => here e.symm
      rw [List.filter_cons, List.filter_cons, same h here]
      split
      · rw [List.length_cons, List.length_cons, ih distinct' later]
      · exact ih distinct' later

theorem Slots.passages_succ {u v : Slots} {g : Nat} (isGate : g < 16) (same : ∀ h, h ≠ g → v.passage h = u.passage h)
    (no : u.passage g = none) (yes : (v.passage g).isSome = true) : v.passages = u.passages + 1 :=
  length_filter_succ List.nodup_range (List.mem_range.mpr isGate) (fun h apart => by rw [same h apart]) (by rw [no]; rfl) yes

/-- Every act keeps the counts: a claim goes with its passage, and an entry in place of a claim with the passage's end. -/
theorem SlotAct.fit {u v : Slots} (act : SlotAct u v) (h : u.Fit) : v.Fit := by
  obtain ⟨bound, reserved⟩ := h
  cases act with
  | released n =>
    refine ⟨?_, reserved⟩
    have := List.length_drop (i := n) (l := u.journal.entries)
    dsimp only
    omega
  | written e room =>
    refine ⟨?_, reserved⟩
    simp only [Journal.sum, Journal.held] at room
    simp only [Journal.write_entries, Journal.write_reserved, List.length_append, List.length_singleton]
    omega
  | claimed g p isGate free room =>
    have one : Slots.passages ⟨u.journal.claim, Function.update u.passage g (some p)⟩ = u.passages + 1 :=
      Slots.passages_succ isGate (fun h apart => Function.update_of_ne apart ..) free (by simp)
    simp only [Journal.sum, Journal.held] at room
    refine ⟨?_, ?_⟩
    · simp only [Journal.claim]
      omega
    · rw [one, ← reserved]
      rfl
  | filled g p isGate held e =>
    have one : u.passages = Slots.passages ⟨u.journal.fill e, Function.update u.passage g none⟩ + 1 :=
      Slots.passages_succ isGate (fun h apart => (Function.update_of_ne apart ..).symm) (Function.update_self ..) (by rw [held]; rfl)
    refine ⟨?_, ?_⟩
    · simp only [Journal.fill, Journal.write_entries, List.length_append, List.length_singleton]
      omega
    · change u.journal.reserved - 1 = _
      rw [reserved, one, Nat.add_sub_cancel]
  | blank => exact ⟨by decide, by decide⟩

/-! ## The entry numbers (R119) -/

/-- R119: the held entries carry consecutive numbers modulo 65,536, up to the one before the next entry number. -/
def Journal.Numbered (j : Journal) : Prop :=
  j.nextNumber < 65536 ∧ (∀ e ∈ j.entries, e.number < 65536) ∧
    ∀ i : Fin j.entries.length, ((j.entries[i]).number + (j.entries.length - i.val)) % 65536 = j.nextNumber

theorem journalNumbered_iff (s : State) : s.JournalNumbered ↔ s.slots.journal.Numbered := .rfl

/-- An entry written carries the next number, and every held entry stands one further from the next one after it. -/
theorem Journal.Numbered.write {j : Journal} (h : j.Numbered) (e : JournalEntry) : (j.write e).Numbered := by
  obtain ⟨next, each, run⟩ := h
  refine ⟨Nat.mod_lt _ (by decide), fun x member => ?_, fun ⟨i, inList⟩ => ?_⟩
  · rw [Journal.write_entries, List.mem_append, List.mem_singleton] at member
    obtain held | rfl := member
    · exact each x held
    · exact next
  · simp only [Journal.write_entries, List.length_append, List.length_singleton] at inList
    simp only [Journal.write_entries, Journal.write_nextNumber, Fin.getElem_fin, List.length_append, List.length_singleton]
    by_cases held : i < j.entries.length
    · have before := run ⟨i, held⟩
      simp only [Fin.getElem_fin] at before
      rw [List.getElem_append_left held]
      omega
    · obtain rfl : i = j.entries.length := by omega
      simp

/-- The entries that stay after a release keep their numbers and their places before the next one (R124). -/
theorem Journal.Numbered.drop {j : Journal} (h : j.Numbered) (n : Nat) :
    Journal.Numbered { j with entries := j.entries.drop n } := by
  obtain ⟨next, each, run⟩ := h
  refine ⟨next, fun e member => each e (List.mem_of_mem_drop member), fun ⟨i, inList⟩ => ?_⟩
  rw [List.length_drop] at inList
  have before := run ⟨n + i, by omega⟩
  simp only [Fin.getElem_fin] at before
  simp only [Fin.getElem_fin, List.getElem_drop, List.length_drop]
  rw [Nat.sub_sub]
  exact before

theorem SlotAct.numbered {u v : Slots} (act : SlotAct u v) (h : u.journal.Numbered) : v.journal.Numbered := by
  cases act with
  | released n => exact h.drop n
  | written e _ => exact h.write e
  | claimed => exact h
  | filled _ _ _ _ e => exact h.write e
  | blank => exact ⟨by decide, by decide, by decide⟩

end Sys2Proof.Machine
end

section
/-! PROOFS. Every command as acts on the journal and the pending passages: the gates, the passages resolved, the decisions, time and the
starts, and the whole dispatch; and after it the statement that every step keeps the journal. -/

namespace Sys2Proof.Machine

/-! ## Operations that leave the journal -/

theorem slots_of_staff {s t : State} (journal : t.journal = s.journal) (staff : t.staff = s.staff) : t.slots = s.slots := by
  rw [State.slots, journal, staff, State.slots]

theorem passage_of_gates {s t : State} (gates : t.gates = s.gates) : t.staff.passage = s.staff.passage := by
  simp only [State.staff, State.gateAt, gates]

theorem slots_of_gates {s t : State} (journal : t.journal = s.journal) (gates : t.gates = s.gates) : t.slots = s.slots := by
  rw [State.slots, journal, passage_of_gates gates, State.slots]

theorem slotPath_of_eq {s t : State} (same : t.slots = s.slots) : SlotPath s.slots t.slots := same ▸ .refl

@[simp] theorem setEnable_journal (enable : Bool) (s : State) : (setEnable enable s).journal = s.journal := by
  unfold setEnable
  split <;> rfl

@[simp] theorem readyIfDue_journal (s : State) : (readyIfDue s).journal = s.journal := by rw [readyIfDue_frame]

@[simp] theorem rewindStream_journal (s : State) : (rewindStream s).journal = s.journal := rfl

@[simp] theorem deliver_journal (k : Nat) (s : State) : (deliver k s).1.journal = s.journal := by rw [(deliver_frame k s).1]

@[simp] theorem tenthTick_journal (s : State) : (tenthTick s).journal = s.journal := by
  unfold tenthTick
  split <;> rfl

@[simp] theorem tickPeriod_journal (s : State) : (tickPeriod s).journal = s.journal := by
  unfold tickPeriod
  split
  · rfl
  · exact tenthTick_journal _

@[simp] theorem noteMinute_journal (before : Nat) (s : State) : (noteMinute before s).journal = s.journal := by
  unfold noteMinute
  dsimp only
  repeat' split
  · rfl
  · exact minuteEvent_journal _
  · rfl

@[simp] theorem windowWatch_journal (s : State) : (windowWatch s).journal = s.journal := by
  unfold windowWatch windowCheck missImpulse
  dsimp only
  repeat' split
  all_goals rfl

@[simp] theorem gateSeconds_journal (s : State) : (gateSeconds s).journal = s.journal := by
  unfold gateSeconds
  split <;> rfl

@[simp] theorem backupSecond_journal (s : State) : (backupSecond s).journal = s.journal := by
  unfold backupSecond
  split <;> rfl

@[simp] theorem secondEvent_journal (s : State) : (secondEvent s).journal = s.journal := by simp [secondEvent]

@[simp] theorem followerClockSet_journal (s : State) : (followerClockSet s).journal = s.journal := by
  unfold followerClockSet
  split <;> rfl

@[simp] theorem timeStep_journal (before : Nat) (s : State) : (timeStep before s).journal = s.journal := by
  unfold timeStep
  dsimp only
  split <;> rfl

@[simp] theorem qualifyImpulse_journal (l : ActiveLine) (s : State) : (qualifyImpulse l s).journal = s.journal := by
  unfold qualifyImpulse takeImpulse disciplineOut alignTo
  dsimp only
  repeat' split
  all_goals simp [followerEvent, disciplineIn, clearMark]

@[simp] theorem applyStanding_journal (g : Nat) (s : State) : (applyStanding g s).journal = s.journal := by rw [applyStanding_frame]

@[simp] theorem applyStandings_journal (gs : List Nat) (s : State) : (applyStandings gs s).journal = s.journal := by
  rw [applyStandings_frame]

@[simp] theorem applyStanding_slots (g : Nat) (s : State) : (applyStanding g s).slots = s.slots :=
  slots_of_staff (applyStanding_journal g s) (applyStanding_staff g s)

@[simp] theorem applyStandings_slots (gs : List Nat) (s : State) : (applyStandings gs s).slots = s.slots :=
  slots_of_staff (applyStandings_journal gs s) (applyStandings_staff gs s)

/-- A gate replaced by one with its passage. -/
theorem State.setGate_slots {s : State} {g : Nat} {y : Gate} (passage : y.passage = (s.gateAt g).passage) :
    (s.setGate g y).slots = s.slots := by
  simp only [State.slots, Slots.mk.injEq, State.setGate_journal, true_and]
  funext h
  change ((s.setGate g y).gateAt h).passage = (s.gateAt h).passage
  rw [State.gateAt_setGate]
  split
  · rename_i here
    rw [here.1, passage]
  · rfl

/-- The acts of the loops leave the slots. -/
theorem LoopPath.slots {s t : State} (path : LoopPath s t) : t.slots = s.slots := by
  induction path with
  | refl => rfl
  | tail _ act ih =>
    refine Eq.trans ?_ ih
    cases act with
    | linked => rfl
    | turned => rfl
    | moved => exact applyStandings_slots _ _

/-- The gates all replaced, each by one with its passage. -/
theorem slots_of_units {s t : State} {f : Nat → Gate → Gate} (journal : t.journal = s.journal) (made : t.gates = mapUnits f s.gates)
    (passage : ∀ g, (f g (s.gateAt g)).passage = (s.gateAt g).passage) : t.slots = s.slots := by
  simp only [State.slots, Slots.mk.injEq, journal, true_and]
  funext g
  change (t.gateAt g).passage = (s.gateAt g).passage
  by_cases isGate : g < 16
  · rw [State.gateAt_of_units made isGate, passage]
  · rw [t.gateAt_beyond isGate, s.gateAt_beyond isGate]

theorem secondEvent_slots (s : State) : (secondEvent s).slots = s.slots := by
  have gates : (windowWatch (noteMinute s.plantMinute { s with time := s.time.secondEvent s.live })).gates = s.gates :=
    (State.site_eq (windowWatch_site _)).2.1.trans (State.site_eq (noteMinute_site _ _)).2.1
  have counted : (gateSeconds (windowWatch (noteMinute s.plantMinute { s with time := s.time.secondEvent s.live }))).slots = s.slots :=
    slots_of_staff (gateSeconds_journal _) (gateSeconds_staff _) |>.trans (slots_of_gates (by simp) gates)
  exact (slots_of_gates (backupSecond_journal _) (State.site_eq (backupSecond_site _)).2.1).trans counted

theorem crystalPeriod_slots (s : State) : (crystalPeriod s).slots = s.slots := by
  have divided : (dividerPeriod s).slots = s.slots := by
    unfold dividerPeriod
    split
    · exact secondEvent_slots s
    · rfl
  unfold crystalPeriod
  split
  · exact (slots_of_gates (tickPeriod_journal _) (State.site_eq (tickPeriod_site _)).2.1).trans divided
  · rfl

/-! ## Passages resolved (R93, R94, R100, R105, R106, R112, R116) -/

/-- The outcome of the entry of a passage resolved by a cause (R93). -/
def Resolution.outcome (cause : Resolution) (d : Direction) : JournalOutcome :=
  match cause, d with
  | .passed, _ => .passed
  | .fire, .outward => .fireExit
  | .expired, _ | .lockdown, _ | .fire, .inward | .restart, _ => .voided

/-- A commit with an entry writes it in place of its claim (R92). -/
theorem commitPunch_journal (g : Nat) (p : Passage) (outcome : JournalOutcome) (ofPassage : Bool) (w : WorkerRecord) (s : State) :
    (commitPunch g p (some outcome) ofPassage w s).journal =
      s.journal.fill (punchEntry g p outcome (commitWork g p false ⟨s, w⟩).worker.pendingSet false) :=
  congrArg State.journal (completeCommit_eq g p (some outcome) ofPassage false s w)

theorem commitPunch_journal_unrecorded (g : Nat) (p : Passage) (ofPassage : Bool) (w : WorkerRecord) (s : State) :
    (commitPunch g p none ofPassage w s).journal = s.journal := by
  change (completeCommit g p none ofPassage (commitWork g p true ⟨s, w⟩)).journal = s.journal
  rw [completeCommit_eq]

theorem commitPassage_journal (g : Nat) (p : Passage) (outcome : JournalOutcome) (s : State) :
    ∃ anomalies, (commitPassage g p outcome s).journal = s.journal.fill (punchEntry g p outcome anomalies false) := by
  unfold commitPassage
  split
  · exact ⟨_, commitPunch_journal ..⟩
  · exact ⟨AnomalySet.empty, rfl⟩

theorem voidPassage_journal (g : Nat) (p : Passage) (restart : Bool) (s : State) :
    (voidPassage g p restart s).journal = s.journal.fill (punchEntry g p .voided AnomalySet.empty restart) := by
  unfold voidPassage
  dsimp only
  split <;> rfl

/-- A passage resolved writes its one entry in place of its claim (R93, R94, R120). -/
theorem resolvePassage_journal (g : Nat) (p : Passage) (cause : Resolution) (s : State) :
    ∃ anomalies, (resolvePassage g p cause s).journal =
      s.journal.fill (punchEntry g p (cause.outcome p.direction) anomalies (cause == .restart)) := by
  cases cause with
  | passed => exact commitPassage_journal g p .passed s
  | expired => exact ⟨_, voidPassage_journal g p false s⟩
  | lockdown => exact ⟨_, voidPassage_journal g p false s⟩
  | restart => exact ⟨_, voidPassage_journal g p true s⟩
  | fire =>
    unfold resolvePassage Resolution.outcome
    cases p.direction with
    | inward => exact ⟨_, voidPassage_journal g p false s⟩
    | outward => exact commitPassage_journal g p .fireExit s

/-- A gate that holds a passage is one of the sixteen. -/
theorem State.isGate_of_passage {s : State} {g : Nat} {p : Passage} (held : (s.gateAt g).passage = some p) : g < 16 := by
  by_contra beyond
  rw [s.gateAt_beyond beyond] at held
  cases held

/-- A gate gives up its passage, and the passage is resolved (R93). -/
theorem slotPath_resolve {s : State} {g : Nat} {p : Passage} (held : (s.gateAt g).passage = some p) (cause : Resolution) :
    SlotPath s.slots (resolvePassage g p cause (s.setGate g (s.gateAt g).disarm)).slots := by
  obtain ⟨anomalies, journal⟩ := resolvePassage_journal g p cause (s.setGate g (s.gateAt g).disarm)
  have gates := (State.site_eq (resolvePassage_site g p cause (s.setGate g (s.gateAt g).disarm))).2.1
  have passage := (passage_of_gates gates).trans (congrArg Staff.passage (s.disarm_staff g))
  have e : (resolvePassage g p cause (s.setGate g (s.gateAt g).disarm)).slots =
      ⟨s.journal.fill (punchEntry g p (cause.outcome p.direction) anomalies (cause == .restart)),
        Function.update s.staff.passage g none⟩ := by
    rw [State.slots, journal, passage]
    rfl
  rw [e]
  exact .single (.filled s.slots g p (State.isGate_of_passage held) held _)

theorem slotPath_endArming (g : Nat) (cause : Resolution) (s : State) : SlotPath s.slots (endArming g cause s).slots := by
  unfold endArming
  dsimp only
  split
  · exact slotPath_resolve ‹_› cause
  · rename_i free
    exact slotPath_of_eq (State.setGate_slots free.symm)

theorem slotPath_lockdownPassage (g : Nat) (s : State) : SlotPath s.slots (lockdownPassage g s).slots := by
  unfold lockdownPassage
  split
  · split
    · exact slotPath_endArming ..
    · exact .refl
  · exact .refl

theorem slotPath_passagePulse (g : Nat) (d : Direction) (s : State) : SlotPath s.slots (passagePulse g d s).slots := by
  unfold passagePulse
  split
  · exact slotPath_endArming ..
  · split <;> exact .refl

theorem slotPath_gateFire (g : Nat) (s : State) : SlotPath s.slots (gateFire g s).slots := by
  unfold gateFire
  rw [applyStanding_slots]
  split
  · exact slotPath_endArming ..
  · exact .refl

theorem slotPath_restartVoid (s : State) (g : Nat) : SlotPath s.slots (restartVoid s g).slots := by
  unfold restartVoid
  split
  · exact slotPath_resolve ‹_› .restart
  · exact .refl

/-- An act at each gate of a list. -/
theorem slotPath_foldl {act : State → Nat → State} (one : ∀ s g, SlotPath s.slots (act s g).slots) (gs : List Nat) :
    ∀ s : State, SlotPath s.slots (gs.foldl act s).slots := by
  induction gs with
  | nil => exact fun _ => .refl
  | cons g rest ih => exact fun s => (one s g).trans (ih (act s g))

/-! ## Gates (R96, R100, R101, R104, R107, R108) -/

theorem orderMode_slotPath {gate : Nat} {m : ControlMode} {act : State → State} (s : State)
    (acts : ∀ u : State, SlotPath u.slots (act u).slots) : SlotPath s.slots (orderMode gate m act s).1.slots := by
  unfold orderMode
  split
  · exact .refl
  · split
    · exact .refl
    · have moded : (setMode gate m s).slots = s.slots := (applyStanding_slots ..).trans (State.setGate_slots (by rfl))
      have path := acts (setMode gate m s)
      rw [moded] at path
      exact path

/-- What an untracked release in direction OUT makes of a gate under a standing (R104, R107). -/
def Gate.untracked (x : Gate) (d : Standing) : Gate :=
  match x.config.kind with
  | .hinged => x.hingedRelease .untracked
  | .turnstile =>
    if d.holds .outward = true ∨ (∃ a ∈ x.arming, a.cause = .punch ∨ (a.direction = .outward ∧ a.cause = .host)) then x
    else x.arm .outward .untracked

theorem untrackedRelease_eq (g : Nat) (s : State) :
    untrackedRelease g s = s.setGate g ((s.gateAt g).untracked (s.standing g)) := by
  have self := State.setGate_self s g
  have kept : ∀ a : Arming, (a.cause != .untracked && a.direction == .outward || a.cause == .punch) = true ↔
      a.cause = .punch ∨ (a.direction = .outward ∧ a.cause = .host) := by
    rintro ⟨d, cause⟩
    cases d <;> cases cause <;> decide
  unfold untrackedRelease Gate.untracked
  dsimp only
  cases (s.gateAt g).config.kind with
  | hinged => rfl
  | turnstile =>
    cases (s.gateAt g).arming with
    | none =>
      simp only [Bool.or_false, Option.mem_def, reduceCtorEq, false_and, exists_false, or_false]
      rw [apply_ite (s.setGate g), self]
    | some a =>
      simp only [Bool.or_eq_true, kept, Option.mem_def, Option.some.injEq, exists_eq_left']
      rw [apply_ite (s.setGate g), self]

@[simp] theorem untrackedRelease_journal (g : Nat) (s : State) : (untrackedRelease g s).journal = s.journal := by
  rw [untrackedRelease_eq, State.setGate_journal]

@[simp] theorem untrackedRelease_slots (g : Nat) (s : State) : (untrackedRelease g s).slots = s.slots :=
  slots_of_staff (untrackedRelease_journal g s) (untrackedRelease_staff g s)

theorem configureGate_slots {g : Nat} {c : GateConfig} (isGate : g < 16) (in0 in1 : Bool) {s : State}
    (free : (s.gateAt g).passage = none) : (configureGate g c in0 in1 s).slots = s.slots := by
  have own := repartner_gate g c.partner s isGate
  have paired : ({ s with gates := repartner g c.partner s.gates } : State).slots = s.slots :=
    slots_of_units (f := fun i (x : Gate) =>
      { x with config := { x.config with partner := partnered g c.partner (fun _ => x.config.partner) i } }) rfl rfl fun _ => rfl
  unfold configureGate
  dsimp only
  rw [applyStanding_slots]
  generalize ({ s with gates := repartner g c.partner s.gates } : State) = u at own paired ⊢
  have free' : (u.gateAt g).passage = none := by rw [own, free]
  rw [← paired]
  split
  · exact State.setGate_slots (by rfl)
  · rw [clearAlarm_frame]
    exact State.setGate_slots (s := { u with link := (clearAlarm g (s.gateAt g) u).link })
      ((Gate.restartKind_frame ..).1.trans free'.symm)

/-! ## Decisions (R82 to R89) -/

theorem journalClaim_journal (s : State) : (journalClaim s).journal = s.journal.claim := by
  rw [journalClaim_frame]
  rfl

theorem journalClaim_gates (s : State) : (journalClaim s).gates = s.gates := by rw [journalClaim_frame]

/-- A claim given up again by its own act's entry leaves the reserved count as it was (R88). -/
theorem Journal.claim_fill (j : Journal) (e : JournalEntry) : j.claim.fill e = j.write e := by
  simp only [Journal.fill, Journal.claim, Journal.write, Nat.add_sub_cancel]

theorem Journal.exitRoom_iff (j : Journal) : j.exitRoom = true ↔ j.sum < 2048 := decide_eq_true_iff

theorem Journal.entryRoom_iff (j : Journal) : j.entryRoom = true ↔ j.sum < 1984 := decide_eq_true_iff

theorem slotPath_refusePunch (g : Nat) (p : Passage) (reason : Denial) (see : Bool) (s : State) :
    SlotPath s.slots (refusePunch g p reason see s).state.slots := by
  unfold refusePunch
  dsimp only
  split
  · rename_i room
    have below := (Journal.entryRoom_iff s.journal).mp room
    rw [journalDirect_frame]
    exact .single (.written s.slots _ (by change s.journal.sum < 2048; omega))
  · exact .refl

/-- A punch committed at once with its claim writes one entry (R83, R88). -/
theorem slotPath_commitNow {s : State} (room : s.journal.sum < 2048) (display g : Nat) (p : Passage) (outcome : JournalOutcome)
    (w : WorkerRecord) : SlotPath s.slots (commitNow display g p (some outcome) w (journalClaim s)).state.slots := by
  let done := commitPunch g p (some outcome) false w (journalClaim s)
  have gates : done.gates = s.gates := (State.site_eq (commitPunch_site ..)).2.1.trans (journalClaim_gates s)
  have e : done.slots = { s.slots with journal := s.journal.write (punchEntry g p outcome
      (commitWork g p false ⟨journalClaim s, w⟩).worker.pendingSet false) } := by
    rw [State.slots, passage_of_gates gates, commitPunch_journal, journalClaim_journal, Journal.claim_fill]
    rfl
  change SlotPath s.slots done.slots
  rw [e]
  exact .single (.written s.slots _ room)

/-- A punch committed at once without an entry leaves the slots (R83, R87). -/
theorem commitNow_slots_unrecorded (display g : Nat) (p : Passage) (w : WorkerRecord) (s : State) :
    (commitNow display g p none w s).state.slots = s.slots :=
  slots_of_gates (commitPunch_journal_unrecorded g p false w s) (State.site_eq (commitPunch_site ..)).2.1

/-- A turnstile is one of the sixteen gates. -/
theorem State.isGate_of_turnstile {s : State} {g : Nat} (turnstile : (s.gateAt g).config.kind = .turnstile) : g < 16 := by
  by_contra beyond
  rw [s.gateAt_beyond beyond] at turnstile
  cases turnstile

theorem slotPath_acceptPunch {s : State} (room : s.journal.sum < 2048) (display : Nat) {g : Nat} (p : Passage) (w : WorkerRecord)
    (free : (s.gateAt g).passage = none) : SlotPath s.slots (acceptPunch display g p w s).state.slots := by
  have now := slotPath_commitNow room display g p .passed w
  unfold acceptPunch
  dsimp only
  split
  · rename_i turnstile
    split
    · exact now
    · have isGate := State.isGate_of_turnstile turnstile
      let pended := setWorker { w with pendingGate := some g } (journalClaim s)
      have e : (takePassage g p pended).slots = ⟨s.journal.claim, Function.update s.staff.passage g (some p)⟩ := by
        have passage : pended.staff.passage = s.staff.passage := passage_of_gates (journalClaim_gates s)
        have taken : (takePassage g p pended).staff = { pended.staff with passage := Function.update pended.staff.passage g (some p) } :=
          State.setGate_staff_passage isGate (by rfl)
        rw [State.slots, taken, passage]
        exact congrArg (Slots.mk · _) (journalClaim_journal s)
      rw [e]
      exact .single (.claimed s.slots g p isGate free room)
  · refine now.trans (slotPath_of_eq (State.setGate_slots ?_))
    rw [Gate.hingedRelease_frame]

theorem slotPath_decidePunch (g : Nat) (p : Passage) (s : State) : SlotPath s.slots (decidePunch g p s).state.slots := by
  unfold decidePunch
  split
  · exact slotPath_refusePunch ..
  · split
    · split
      · exact slotPath_refusePunch ..
      · exact slotPath_of_eq (untrackedRelease_slots ..)
    · split
      · split
        · exact slotPath_refusePunch ..
        · unfold fireExit
          split
          · rename_i room
            exact slotPath_commitNow ((Journal.exitRoom_iff _).mp room) ..
          · exact slotPath_of_eq (commitNow_slots_unrecorded ..)
      · split
        · exact .refl
        · rename_i w _ _ _ goes
          obtain ⟨⟨⟨free, -⟩, -⟩, -⟩ : (((s.gateAt g).passage = none ∧ (s.gateAt g).servesHost = false) ∧
              s.heldByPartner g = false) ∧ w.pendingGate = none := by simpa [waits] using goes
          split
          · unfold entryPunch
            split
            · exact slotPath_refusePunch ..
            · split
              · rename_i room
                have below := (Journal.entryRoom_iff _).mp room
                exact slotPath_acceptPunch (by omega) _ p w free
              · exact slotPath_refusePunch ..
          · unfold exitPunch
            split
            · rename_i room
              exact slotPath_acceptPunch ((Journal.exitRoom_iff _).mp room) 3 p w free
            · have unrecorded := commitNow_slots_unrecorded 5 g p w s
              exact slotPath_of_eq ((untrackedRelease_slots ..).trans unrecorded)

theorem slotPath_takePunch (s : State) : SlotPath s.slots (takePunch s).slots := by
  unfold takePunch
  split
  · exact .refl
  · rename_i l o _
    split
    · exact .refl
    · rename_i b _
      exact slotPath_decidePunch b.gate (o.passage l b.direction) { s with punch := ⟨some o, l⟩ }

/-! ## Starts (R116, R125, R166) -/

/-- A warm start voids the pending passages in their order and leaves no other (R116, R125). -/
theorem slotPath_warmStart (cause : StartCause) (duration : Nat) (v : InputLevels) (s : State) :
    SlotPath s.slots (warmStart cause duration v s).slots := by
  have path := slotPath_foldl slotPath_restartVoid allGates (s.warmBegun cause duration v)
  have free := foldl_restartVoid_passage allGates (s.warmBegun cause duration v)
  rw [warmStart_begun, applyStandings_slots]
  generalize allGates.foldl restartVoid (s.warmBegun cause duration v) = voided at path free
  have ended : ((readyIfDue voided).begun v).slots = voided.slots := by
    refine slots_of_units (f := fun g x => x.begin g v) (readyIfDue_journal voided) (by rw [readyIfDue_frame]; rfl) fun g => ?_
    rw [(Gate.begin_staff ..).1]
    refine (free g ?_).symm
    by_cases isGate : g < 16
    · exact .inl (List.mem_range.mpr isGate)
    · exact .inr (congrArg Gate.passage (State.gateAt_beyond _ isGate))
  rw [ended]
  exact path

theorem slotPath_coldStart (cause : StartCause) (v : InputLevels) (s : State) : SlotPath s.slots (coldStart cause v s).slots := by
  have e : (coldStart cause v s).slots = ⟨Journal.cold, fun _ => none⟩ := by
    rw [State.slots, coldStart_staff]
    rfl
  rw [e]
  exact .single (.blank _)

theorem slotPath_restoreStart (v : InputLevels) (s : State) : SlotPath s.slots (restoreStart v s).slots := by
  unfold restoreStart
  split
  · exact slotPath_warmStart ..
  · exact slotPath_coldStart ..

theorem slotPath_startAfter (kind : Nat) (v : InputLevels) (s : State) : SlotPath s.slots (startAfter kind v s).slots := by
  unfold startAfter
  split
  · exact slotPath_warmStart ..
  · split
    · exact slotPath_coldStart ..
    · exact .refl

/-! ## Every command -/

/-- An outcome whose next state is led to by acts on the slots of `s`. -/
abbrev LeadsSlots (s : State) (o : Host.Outcome State Fault Refusal) : Prop := Leaves (fun t => SlotPath s.slots t.slots) o

theorem leadsSlots_serve {f : State → State × Reply} {s : State} (k tag : Nat) (acts : SlotPath s.slots (f s).1.slots) :
    LeadsSlots s (serve k tag f s) :=
  leaves_serve_of_linked k tag (fun _ _ path => path) .refl acts

theorem leadsSlots_whileLive {f : State → State} {s : State} (acts : SlotPath s.slots (f s).slots) : LeadsSlots s (whileLive f s) :=
  leaves_whileLive .refl acts

/-- An outcome that leaves the journal as it is in `s`. -/
abbrev KeepsJournal (s : State) (o : Host.Outcome State Fault Refusal) : Prop := Leaves (fun t => t.journal = s.journal) o

theorem keepsJournal_serve {f : State → State × Reply} {s : State} (k tag : Nat) (acts : (f s).1.journal = s.journal) :
    KeepsJournal s (serve k tag f s) :=
  leaves_serve_of_linked k tag (fun _ _ same => same) rfl acts

theorem keepsJournal_whileLive {f : State → State} {s : State} (acts : (f s).journal = s.journal) : KeepsJournal s (whileLive f s) :=
  leaves_whileLive rfl acts

/-- Of the commands that leave the site, all but JOURNAL_RELEASE leave the journal too. -/
theorem exec_journal {i : Instr} (reads : writesSite i = false) (other : ∀ tag n expected, i ≠ .journalRelease tag n expected)
    (s : State) : KeepsJournal s (exec i s) := by
  cases i with
  | clockSet | loopConfig | loopStart | loopStop | loopTest | loopStatus | gateConfig | gateCommandNormal | gateCommandFree
  | gateCommandLockdown | gateCommandRelease | replySent | secondEvent | pollSent | wakeSent | verdictSent | responseWindowExpired
  | loopAnswerReceived | loopFrameAborted | huntBoundExpired | abortQuietEnded | testFrameSettled | punchTaken | passagePulse
  | turnstileReleaseExpired | hingedReleaseExpired | heldOpenExpired | contactOpens | contactCloses | fireTaken | fireCleared | mainLoss
  | mainRestored | resetnLow | resetnReleased | firstPower => exact Bool.noConfusion reads
  | journalRelease tag n expected => exact absurd rfl (other tag n expected)
  | clockConfig | clockRead | shiftDefine | shiftDelete | crewDefine | tallyConfig | rateSet | calendarReadShift | calendarReadCrew
  | calendarReadDay | calendarReadTally | calendarReadRates | workerPut | workerGet | workerRemove | workerPresence | collectChanged
  | gateRead | musterRead | journalRead | periodClose | closeRead | closeRelease | periodRead | cadenceDefine
  | bellEntryPut | bellEntryRemove | zoneConfig | bellManual | bellSilence | bellRead | restart | factoryClear | status | reportFetch =>
    simp only [exec, execClockConfig, execClockRead, execShiftDefine, execShiftDelete, execCrewDefine, execTallyConfig, execRateSet,
      execCalendarReadShift, execCalendarReadCrew, execCalendarReadDay, execCalendarReadTally, execCalendarReadRates, execWorkerPut,
      execWorkerGet, execWorkerRemove, execWorkerPresence, execCollectChanged, execGateRead, execMusterRead, execJournalRead,
      execPeriodClose, closePeriod, execCloseRead, execCloseRelease, execPeriodRead, execCadenceDefine,
      execBellEntryPut, execBellEntryRemove, execZoneConfig, execBellManual, execBellSilence, execBellRead, execRestart,
      execFactoryClear, execStatus, execReportFetch]
    refine keepsJournal_serve _ _ ?_
    repeat' split
    all_goals simp
  | unknownKind kind tag body =>
    simp only [exec, execUnknownKind]
    split
    · exact keepsJournal_serve _ _ rfl
    · split
      · exact leaves_next rfl
      · exact keepsJournal_serve _ _ rfl
  | requestOverrun | stationFrameDiscarded | byteGapTimeout | impulseEvent | readyEvent | cadenceStepEnded =>
    simp only [exec, execRequestOverrun, execStationFrameDiscarded, execByteGapTimeout, execImpulseEvent, execReadyEvent,
      execCadenceStepEnded]
    refine keepsJournal_whileLive ?_
    repeat' split
    all_goals simp
  | backupLow | tenthTick =>
    simp only [exec, execBackupLow, execTenthTick]
    refine leaves_next ?_
    repeat' split
    all_goals simp

theorem execJournalRelease_slots (tag n expected : Nat) (s : State) : LeadsSlots s (execJournalRelease tag n expected s) := by
  unfold execJournalRelease
  refine leadsSlots_serve _ _ ?_
  repeat' split
  · exact .refl
  · exact .refl
  · exact .refl
  · exact .single (.released s.slots n)

theorem execGateCommandRelease_slots (tag gate direction : Nat) (s : State) :
    LeadsSlots s (execGateCommandRelease tag gate direction s) := by
  unfold execGateCommandRelease
  refine leadsSlots_serve _ _ ?_
  split
  · split
    · exact .refl
    · split
      · exact .refl
      · refine slotPath_of_eq (State.setGate_slots ?_)
        split
        · rfl
        · rw [Gate.hingedRelease_frame]
  · exact .refl

theorem execPassagePulse_slots (gate : Fin 16) (input : ActiveInput) (s : State) : LeadsSlots s (execPassagePulse gate input s) := by
  unfold execPassagePulse
  refine leadsSlots_whileLive ?_
  dsimp only
  split
  · exact .refl
  · have held : (s.setGate gate ((s.gateAt gate).holdPulse input.direction)).slots = s.slots :=
      State.setGate_slots (by cases input.direction <;> rfl)
    rw [← held]
    exact slotPath_passagePulse ..

theorem slotPath_bells {s u : State} (b : Bells) (path : SlotPath s.slots u.slots) :
    SlotPath s.slots ({ u with bells := b } : State).slots := path

/-- Every command is a sequence of acts on the slots. -/
theorem exec_slots (i : Instr) (s : State) : LeadsSlots s (exec i s) := by
  by_cases turns : turnsLoop i = true
  · exact fun t next => slotPath_of_eq (exec_loopPath turns s t next).slots
  by_cases release : ∃ tag n expected, i = .journalRelease tag n expected
  · obtain ⟨tag, n, expected, rfl⟩ := release
    exact execJournalRelease_slots tag n expected s
  by_cases still : writesSite i = false
  · exact fun t next => slotPath_of_eq (slots_of_gates
      (exec_journal still (fun tag n expected e => release ⟨tag, n, expected, e⟩) s t next) (State.site_eq (exec_site still s t next)).2.1)
  cases i with
  | clockSet tag day second =>
    simp only [exec, execClockSet]
    refine leadsSlots_serve _ _ ?_
    split
    · exact .refl
    · refine slotPath_of_eq (slots_of_gates (by simp [setClock]) ?_)
      refine (State.site_eq (followerClockSet_site _)).2.1.trans ?_
      unfold timeStep
      dsimp only
      split <;> rfl
  | loopConfig tag loop fields =>
    simp only [exec, execLoopConfig]
    refine leadsSlots_serve _ _ ?_
    repeat' split
    · exact .refl
    · exact .refl
    · exact .refl
    · exact slotPath_of_eq (applyStandings_slots _ _)
  | gateConfig tag gate fields in0 in1 =>
    simp only [exec, execGateConfig]
    refine leadsSlots_serve _ _ ?_
    split
    · rename_i inRange _
      split
      · exact .refl
      · rename_i free
        have isGate := (within_iff 0 gate 15).mp inRange
        exact slotPath_of_eq (configureGate_slots (by omega) in0 in1 (by simpa using free))
    · exact .refl
  | gateCommandNormal tag gate => exact leadsSlots_serve _ _ (orderMode_slotPath s fun _ => .refl)
  | gateCommandFree tag gate => exact leadsSlots_serve _ _ (orderMode_slotPath s fun _ => .refl)
  | gateCommandLockdown tag gate => exact leadsSlots_serve _ _ (orderMode_slotPath s (slotPath_lockdownPassage gate))
  | gateCommandRelease tag gate direction => exact execGateCommandRelease_slots tag gate direction s
  | replySent levels =>
    simp only [exec, execReplySent]
    refine leadsSlots_whileLive ?_
    split
    · exact .refl
    · split
      · exact slotPath_startAfter _ levels { s with link := { s.link with held := none } }
      · exact .refl
  | secondEvent =>
    refine leaves_next ?_
    split
    · exact slotPath_of_eq (secondEvent_slots s)
    · exact .refl
  | punchTaken =>
    simp only [exec, execPunchTaken]
    refine leadsSlots_whileLive ?_
    split
    · exact .refl
    · exact slotPath_takePunch s
  | passagePulse gate input => exact execPassagePulse_slots gate input s
  | turnstileReleaseExpired gate =>
    simp only [exec, execTurnstileReleaseExpired]
    refine leadsSlots_whileLive ?_
    split
    · exact slotPath_endArming ..
    · exact .refl
  | hingedReleaseExpired gate | heldOpenExpired gate =>
    simp only [exec, execHingedReleaseExpired, execHeldOpenExpired]
    refine leadsSlots_whileLive ?_
    split
    · exact slotPath_of_eq (State.setGate_slots (s := s) (g := gate) (by rfl))
    · exact .refl
  | contactOpens gate | contactCloses gate =>
    simp only [exec, execContactOpens, execContactCloses, contactOpens, contactCloses]
    refine leadsSlots_whileLive ?_
    split
    · split
      all_goals exact slotPath_of_eq (State.setGate_slots (s := s) (g := gate) (by rfl))
    · exact .refl
  | fireTaken =>
    simp only [exec, execFireTaken]
    refine leadsSlots_whileLive ?_
    split
    · exact .refl
    · have path := slotPath_foldl (fun u g => slotPath_gateFire g u) allGates
        (queueReport (.fireEvent true s.plantSecond) { s with fire := true })
      exact slotPath_bells _ path
  | fireCleared =>
    simp only [exec, execFireCleared]
    refine leadsSlots_whileLive ?_
    split
    · exact .refl
    · have path := slotPath_of_eq (applyStandings_slots allGates (queueReport (.fireEvent false s.plantSecond) { s with fire := false }))
      exact slotPath_bells _ path
  | mainLoss vbakLow =>
    refine leaves_next ?_
    split <;> exact .refl
  | resetnLow | firstPower => exact leaves_next .refl
  | mainRestored levels =>
    refine leaves_next ?_
    split
    · exact .refl
    · dsimp only
      split
      · exact slotPath_restoreStart levels { s with supply := { s.supply with state := .run } }
      · exact .refl
  | resetnReleased levels =>
    refine leaves_next ?_
    split
    · exact .refl
    · let released : State := { s with supply := { s.supply with resetnHigh := true } }
      dsimp only
      split
      · exact .refl
      · split
        · exact slotPath_restoreStart levels released
        · exact slotPath_warmStart .resetn 0 levels released
  | _ => simp [turnsLoop, writesSite] at turns still

/-- Every step is a sequence of acts on the slots. -/
theorem step_slots {s t : State} (next : step s = .next t) : SlotPath s.slots t.slots := by
  unfold step at next
  split at next
  · obtain rfl := Host.Outcome.next.inj next
    exact slotPath_of_eq (crystalPeriod_slots s)
  · have path := exec_slots _ _ t next
    exact path

/-- Settles O53: each law is kept by every act on the slots. -/
theorem everyStepKeepsTheJournal : Obligations.EveryStepKeepsTheJournal :=
  ⟨fun _ fits _ next => (step_slots next).keeps (P := Slots.Fit) SlotAct.fit fits,
    fun _ numbered _ next => (step_slots next).keeps (P := fun u => u.journal.Numbered) SlotAct.numbered numbered⟩

end Sys2Proof.Machine
end

section
/-! PROOFS. The gates (Sections 6.1 to 6.5): what a standing, an interlock and the outputs read, the orders of the host, the pulses and the
expiries of a turnstile; and after each its statement. -/

namespace Sys2Proof.Machine

/-! ## Standing, interlock and outputs (R97 to R99, R103) -/

/-- The standing of a gate, as the first of its rules that applies (R98). -/
theorem standing_eq (s : State) (g : Nat) : s.standing g =
    let x := s.gateAt g
    if s.fire = true ∨ x.mode = .free then .both
    else if x.mode = .normal ∧ s.cutOff g = true ∧ x.config.policy = .free then .both
    else if x.mode = .normal ∧ s.cutOff g = true ∧ x.config.policy = .exitFree ∧ x.config.kind = .turnstile then .outOnly
    else .nothing := by
  unfold State.standing
  dsimp only
  cases s.fire with
  | true => simp
  | false =>
    cases (s.gateAt g).mode with
    | free => simp
    | lockdown => simp
    | normal =>
      cases s.cutOff g with
      | false => simp
      | true =>
        cases (s.gateAt g).config.policy with
        | locked => simp
        | free => simp
        | exitFree => cases (s.gateAt g).config.kind <;> simp

/-- Fire holds every gate in both directions (R98, R111). -/
theorem standing_of_fire {s : State} (fire : s.fire = true) (g : Nat) : s.standing g = .both := by
  rw [standing_eq]
  exact if_pos (.inl fire)

theorem gateBusy_iff (s : State) (g : Nat) : s.gateBusy g = true ↔
    ((s.gateAt g).config.kind = .turnstile ∧ (s.gateAt g).arming ≠ none) ∨
      ((s.gateAt g).config.kind = .hinged ∧ (s.gateAt g).hinged ≠ .locked ∧ (s.gateAt g).hinged ≠ .free) := by
  unfold State.gateBusy State.gateState
  dsimp only
  cases (s.gateAt g).config.kind with
  | turnstile =>
    cases (s.gateAt g).arming with
    | some a => simp [GateState.busy]
    | none =>
      by_cases empty : s.standing g = .nothing <;> simp [empty, GateState.busy]
  | hinged => cases (s.gateAt g).hinged <;> simp [GateState.busy]

theorem heldByPartner_iff (s : State) (g : Nat) : s.heldByPartner g = true ↔
    (∃ p ∈ (s.gateAt g).config.partner, s.gateBusy p = true) ∧ (s.gateAt g).mode ≠ .free ∧ s.standing g = .nothing := by
  unfold State.heldByPartner
  cases (s.gateAt g).config.partner with
  | none => simp
  | some p => simp [and_assoc]

theorem gateOutputs_not_working {s : State} (off : ¬ s.Works) (g : Nat) : s.gateOutputs g = ⟨false, false⟩ := by
  have dead : s.live = false := by simpa using mt s.live_iff.mp off
  simp [State.gateOutputs, dead]

theorem gateOutputs_turnstile {s : State} (works : s.Works) {g : Nat} (turnstile : (s.gateAt g).config.kind = .turnstile) :
    s.gateOutputs g = ⟨s.releases g .inward, s.releases g .outward⟩ := by
  simp [State.gateOutputs, State.live_of_works works, turnstile]

theorem gateOutputs_hinged {s : State} (works : s.Works) {g : Nat} (hinged : (s.gateAt g).config.kind = .hinged) :
    s.gateOutputs g = ⟨s.strike g, false⟩ := by
  simp [State.gateOutputs, State.live_of_works works, hinged]

theorem releases_iff (s : State) (g : Nat) (d : Direction) : s.releases g d = true ↔
    (∃ a ∈ (s.gateAt g).arming, a.direction = d) ∨ (s.standing g).holds d = true := by
  simp [State.releases, Option.any_eq_true]

/-- Direction IN is held by the full standing alone, OUT by any that is not empty (R98). -/
theorem Standing.holds_inward (d : Standing) : d.holds .inward = true ↔ d = .both := by cases d <;> decide

theorem Standing.holds_outward (d : Standing) : d.holds .outward = true ↔ d ≠ .nothing := by cases d <;> decide

theorem strike_iff (s : State) (g : Nat) : s.strike g = true ↔ (s.gateAt g).hinged = .free ∨ (s.gateAt g).hinged = .released .punch ∨
    (s.gateAt g).hinged = .released .host ∨ (s.gateAt g).hinged = .released .untracked := by
  unfold State.strike
  cases (s.gateAt g).hinged with
  | released cause => cases cause <;> simp
  | locked | opened | held | forced | free => simp

/-- Settles O36. -/
theorem standingIsTheFirstThatApplies : Obligations.StandingIsTheFirstThatApplies := by
  unfold Obligations.StandingIsTheFirstThatApplies
  intro s g x bound reached
  have at_g : s.gateAt g = x := s.gateAt_fin g
  have cut : s.cutOff g = (bound && !reached) := rfl
  refine ⟨?_, ?_, ?_, fun off => gateOutputs_not_working off g, fun works turnstile => ?_, fun works hinged => ?_⟩
  · rw [standing_eq, at_g, cut]
    simp only [Bool.and_eq_true, Bool.not_eq_true', and_assoc]
  · rw [gateBusy_iff, at_g]
  · rw [heldByPartner_iff, at_g]
  · rw [gateOutputs_turnstile works (at_g ▸ turnstile), ← Standing.holds_inward, ← Standing.holds_outward, releases_iff, releases_iff, at_g]
    exact ⟨.rfl, .rfl⟩
  · rw [gateOutputs_hinged works (at_g ▸ hinged), strike_iff, at_g]
    exact ⟨.rfl, rfl⟩

/-! ## Mode orders (R100, R109) -/

theorem orderMode_beyond {gate : Nat} (beyond : 15 < gate) (m : ControlMode) (act : State → State) (s : State) :
    orderMode gate m act s = refuse .badValue s := by
  have outside : within 0 gate 15 = false := by
    rw [← Bool.not_eq_true, within_iff]
    omega
  simp [orderMode, outside]

theorem orderMode_held {gate : Nat} (isGate : gate ≤ 15) {m : ControlMode} {s : State} (held : (s.gateAt gate).mode = m)
    (act : State → State) : orderMode gate m act s = okay s := by
  simp [orderMode, (within_iff 0 gate 15).mpr ⟨Nat.zero_le _, isGate⟩, held]

theorem orderMode_new {gate : Nat} (isGate : gate ≤ 15) {m : ControlMode} {s : State} (new : (s.gateAt gate).mode ≠ m)
    (act : State → State) : orderMode gate m act s = okay (act (setMode gate m s)) := by
  simp [orderMode, (within_iff 0 gate 15).mpr ⟨Nat.zero_le _, isGate⟩, new]

/-- A gate replaced twice. -/
theorem State.setGate_setGate (s : State) (g : Nat) (x y : Gate) : (s.setGate g x).setGate g y = s.setGate g y := by
  unfold State.setGate
  rw [Vector.setIfInBounds_setIfInBounds]

/-- The mode set, and the standing under it applied at the gate (R100, R109, R110). -/
theorem setMode_eq {g : Nat} (isGate : g ≤ 15) (m : ControlMode) (s : State) :
    let x := s.gateAt g
    let set : State := { s with gates := s.gates.setIfInBounds g { x with mode := m } }
    let y := ({ x with mode := m } : Gate).under (set.standing g)
    setMode g m s = { s with
      gates := s.gates.setIfInBounds g y, link := s.link.alarmEnded g x y (s.time.day * 86400 + s.time.second) } := by
  intro x set y
  have at_g : set.gateAt g = { x with mode := m } := (s.gateAt_setGate g g _).trans (if_pos ⟨rfl, by omega⟩)
  have applied := applyStanding_eq g set
  rw [at_g] at applied
  have twice : set.setGate g y = s.setGate g y := s.setGate_setGate g _ y
  rw [twice] at applied
  exact applied

/-- LOCKDOWN leaves a gate without a pending entry to its mode (R100). -/
theorem lockdownPassage_none {g : Nat} {s : State} (free : ∀ p ∈ (s.gateAt g).passage, p.direction = .outward) :
    lockdownPassage g s = s := by
  unfold lockdownPassage
  split
  · rename_i p held
    rw [if_neg (by rw [free p held]; decide)]
  · rfl

/-- A standing takes no passage from a gate, and its mode none (R100, R109). -/
theorem setMode_passage (g : Nat) (m : ControlMode) (s : State) (h : Nat) :
    ((setMode g m s).gateAt h).passage = (s.gateAt h).passage :=
  congrArg (fun u : Staff => u.passage h) (setMode_staff g m s)

/-- A mode order whose act finds nothing to do. -/
theorem orderMode_eq {gate : Nat} (isGate : gate ≤ 15) {m : ControlMode} {s : State} (new : (s.gateAt gate).mode ≠ m)
    {act : State → State} (idle : act (setMode gate m s) = setMode gate m s) (tag : Nat) (ready : s.Ready) :
    let x := s.gateAt gate
    let set : State := { s with gates := s.gates.setIfInBounds gate { x with mode := m } }
    let y := ({ x with mode := m } : Gate).under (set.standing gate)
    serve 0x41 tag (orderMode gate m act) s = .next (State.answered { s with
      gates := s.gates.setIfInBounds gate y
      link := s.link.alarmEnded gate x y (s.time.day * 86400 + s.time.second) } 0x41 tag .ok .nothing) := by
  intro x set y
  rw [serve_ready ready, orderMode_new isGate new, idle, setMode_eq isGate]
  rfl

/-! ## Passages voided (R93, R94) -/

/-- The void of a passage: its entry in place of its claim, and its record's pending gate cleared (R94). -/
theorem voidPassage_ordered {s : State} (ordered : BadgesAscend s.workers) (g : Nat) (p : Passage) (restart : Bool) :
    voidPassage g p restart s = { s with
      journal := s.journal.fill (punchEntry g p .voided AnomalySet.empty restart)
      workers := s.workers.map (WorkerRecord.unpend p.badge) } := by
  let filled : State := { s with journal := s.journal.fill (punchEntry g p .voided AnomalySet.empty restart) }
  have written : voidPassage g p restart s = match filled.worker p.badge with
    | some w => setWorker { w with pendingGate := none } filled
    | none => filled := rfl
  rw [written]
  cases found : filled.worker p.badge with
  | none =>
    have same := map_unpend_absent found
    exact (congrArg (fun ws => ({ filled with workers := ws } : State)) same).symm
  | some w => exact setWorker_unpend (s := filled) ordered found

theorem endArming_free {s : State} {g : Nat} (free : (s.gateAt g).passage = none) (cause : Resolution) :
    endArming g cause s = s.setGate g (s.gateAt g).disarm := by
  simp only [endArming, free]

theorem endArming_held {s : State} {g : Nat} {p : Passage} (held : (s.gateAt g).passage = some p) (cause : Resolution) :
    endArming g cause s = resolvePassage g p cause (s.setGate g (s.gateAt g).disarm) := by
  simp only [endArming, held]

/-- The mode alone is set at a turnstile, whose state follows its standing by definition (R100, R103). -/
theorem setMode_turnstile {g : Nat} {s : State} (turnstile : (s.gateAt g).config.kind = .turnstile) (m : ControlMode) :
    setMode g m s = s.setGate g { s.gateAt g with mode := m } := by
  have isGate := State.isGate_of_turnstile turnstile
  have at_g : (s.setGate g { s.gateAt g with mode := m }).gateAt g = { s.gateAt g with mode := m } :=
    (s.gateAt_setGate g g _).trans (if_pos ⟨rfl, isGate⟩)
  unfold setMode applyStanding
  dsimp only
  rw [at_g]
  dsimp only
  rw [turnstile]

/-- LOCKDOWN at a turnstile that holds a pending entry: the gate disarmed and the passage voided (R93, R94, R100). -/
theorem lockdown_pending {g : Nat} {s : State} (turnstile : (s.gateAt g).config.kind = .turnstile) {p : Passage}
    (held : (s.gateAt g).passage = some p) (entry : p.direction = .inward) (ordered : BadgesAscend s.workers) :
    lockdownPassage g (setMode g .lockdown s) = { s with
      gates := s.gates.setIfInBounds g { s.gateAt g with mode := .lockdown, arming := none, releaseTimer := none, passage := none }
      journal := s.journal.fill (punchEntry g p .voided AnomalySet.empty false)
      workers := s.workers.map (WorkerRecord.unpend p.badge) } := by
  let u := s.setGate g { s.gateAt g with mode := .lockdown }
  have at_g : u.gateAt g = { s.gateAt g with mode := .lockdown } :=
    (s.gateAt_setGate g g _).trans (if_pos ⟨rfl, State.isGate_of_turnstile turnstile⟩)
  have held' : (u.gateAt g).passage = some p := by rw [at_g]; exact held
  rw [setMode_turnstile turnstile]
  change lockdownPassage g u = _
  unfold lockdownPassage
  rw [held']
  dsimp only
  rw [if_pos entry, endArming_held held', at_g, s.setGate_setGate]
  exact voidPassage_ordered (s := s.setGate g _) ordered g p false

/-! ## Host releases (R101) -/

theorem directionOf_eq (n : Nat) : directionOf n = if 1 < n then none else some (if n = 0 then .inward else .outward) := by
  match n with
  | 0 => rfl
  | 1 => rfl
  | n + 2 => simp [directionOf]

theorem releaseNeedless_iff (g : Nat) (d : Direction) (s : State) : releaseNeedless g d s = true ↔ s.fire = true ∨
    ((s.gateAt g).config.kind = .turnstile ∧ (s.standing g).holds d = true) ∨
      ((s.gateAt g).config.kind = .hinged ∧ s.standing g ≠ .nothing) := by
  unfold releaseNeedless
  cases (s.gateAt g).config.kind <;> simp

/-- A host release at a hinged gate that is not busy, and so LOCKED or FREE (R101, R107). -/
theorem hingedRelease_of_not_busy {s : State} {g : Nat} (hinged : (s.gateAt g).config.kind = .hinged) (idle : s.gateBusy g = false)
    (cause : ReleaseCause) : (s.gateAt g).hingedRelease cause =
      if (s.gateAt g).hinged = .free then s.gateAt g
      else { s.gateAt g with hinged := .released cause, releaseTimer := some (s.gateAt g).config.release } := by
  have quiet : (s.gateAt g).hinged = .locked ∨ (s.gateAt g).hinged = .free := by
    by_contra other
    obtain ⟨notLocked, notFree⟩ := not_or.mp other
    exact absurd ((gateBusy_iff s g).mpr (.inr ⟨hinged, notLocked, notFree⟩)) (by rw [idle]; decide)
  unfold Gate.hingedRelease
  obtain locked | free := quiet
  · simp [locked]
  · simp [free]

theorem exec_release {s : State} (ready : s.Ready) (tag gate dir : Nat) :
    let x := s.gateAt gate
    let d : Direction := if dir = 0 then .inward else .outward
    exec (.gateCommandRelease tag gate dir) s = .next (
      if 15 < gate ∨ 1 < dir then s.answered 0x41 tag .badValue .nothing
      else if releaseNeedless gate d s = true then s.answered 0x41 tag .state .nothing
      else if s.gateBusy gate = true ∨ s.heldByPartner gate = true then s.answered 0x41 tag .busy .nothing
      else State.answered (s.setGate gate (match x.config.kind with
        | .turnstile => x.arm d .host
        | .hinged => x.hingedRelease .host)) 0x41 tag .ok .nothing) := by
  intro x d
  have request : exec (.gateCommandRelease tag gate dir) s = execGateCommandRelease tag gate dir s := rfl
  rw [request, execGateCommandRelease, serve_ready ready, directionOf_eq]
  by_cases beyond : 15 < gate
  · have outside : within 0 gate 15 = false := by
      rw [← Bool.not_eq_true, within_iff]
      omega
    rw [outside, if_pos (Or.inl beyond)]
    rfl
  · have inside : within 0 gate 15 = true := (within_iff ..).mpr ⟨Nat.zero_le _, by omega⟩
    rw [inside]
    by_cases unknown : 1 < dir
    · rw [if_pos unknown, if_pos (Or.inr unknown)]
      rfl
    · rw [if_neg unknown, if_neg (not_or.mpr ⟨beyond, unknown⟩)]
      dsimp only
      by_cases needless : releaseNeedless gate d s = true
      · rw [if_pos needless, if_pos needless]
        rfl
      · rw [if_neg needless, if_neg needless]
        by_cases waits : s.gateBusy gate = true ∨ s.heldByPartner gate = true
        · rw [if_pos (by simpa using waits), if_pos waits]
          rfl
        · rw [if_neg (by simpa using waits), if_neg waits]
          rfl

/-- Settles O35: the three mode orders as one, the passage that LOCKDOWN voids, and RELEASE by its checks. -/
theorem gateOrdersFollowTheirChecks : Obligations.GateOrdersFollowTheirChecks := by
  unfold Obligations.GateOrdersFollowTheirChecks
  refine ⟨fun s tag gate ready => ?_, fun s tag gate dir ready => ?_⟩
  · intro x now order
    have ordered_as : ∀ (c : Instr) (m : ControlMode) (act : State → State),
        exec c s = serve 0x41 tag (orderMode gate m act) s →
        (m ≠ .lockdown ∨ (∀ p ∈ x.passage, p.direction = .outward) → act (setMode gate m s) = setMode gate m s) → order c m := by
      intro c m act request idle
      refine ⟨fun beyond => ?_, fun isGate held => ?_, fun isGate new leaves => ?_⟩
      · rw [request, serve_ready ready, orderMode_beyond beyond]
        rfl
      · rw [request, serve_ready ready, orderMode_held isGate held]
        rfl
      · rw [request]
        exact orderMode_eq isGate new (idle leaves) tag ready
    refine ⟨ordered_as _ _ id rfl fun _ => rfl, ordered_as _ _ id rfl fun _ => rfl, ordered_as _ _ (lockdownPassage gate) rfl fun leaves => ?_,
      fun isGate new turnstile p held entry ordered => ?_⟩
    · refine lockdownPassage_none fun p held => ?_
      rw [setMode_passage] at held
      exact leaves.resolve_left (fun ne => ne rfl) p held
    · have request : exec (.gateCommandLockdown tag gate) s = serve 0x41 tag (orderMode gate .lockdown (lockdownPassage gate)) s := rfl
      rw [request, serve_ready ready, orderMode_new isGate new, lockdown_pending turnstile held entry ordered.2.1]
      rfl
  · intro x d
    refine (exec_release ready tag gate dir).trans (congrArg Host.Outcome.next ?_)
    refine if_congr .rfl rfl (if_congr (releaseNeedless_iff gate d s) rfl ?_)
    by_cases waits : s.gateBusy gate = true ∨ s.heldByPartner gate = true
    · rw [if_pos waits, if_pos waits]
    · rw [if_neg waits, if_neg waits]
      have idle : s.gateBusy gate = false := by simpa using (not_or.mp waits).1
      have taken : (match x.config.kind with
          | .turnstile => x.arm d .host
          | .hinged => x.hingedRelease .host) =
          match x.config.kind with
          | .turnstile => { x with arming := some ⟨d, .host⟩, releaseTimer := some x.config.release }
          | .hinged => if x.hinged = .free then x
            else { x with hinged := .released .host, releaseTimer := some x.config.release } := by
        cases kind : x.config.kind with
        | turnstile => rfl
        | hinged => exact hingedRelease_of_not_busy kind idle .host
      exact congrArg (fun y => State.answered (s.setGate gate y) 0x41 tag .ok .nothing) taken

end Sys2Proof.Machine
end

section
/-! PROOFS. The pulses and the expiries of a turnstile (Sections 6.1, 6.5): the end of an arming and what becomes of its passage; and after it
the statement. -/

namespace Sys2Proof.Machine

/-! ## Pulses (R97, R105) -/

/-- An input delivers where the part works and its qualifier does not wait (R97). -/
theorem inputDelivers_iff (s : State) (g : Nat) (i : ActiveInput) : s.inputDelivers g i ↔
    s.Works ∧ ((s.gateAt g).pulseHeld i.direction && !i.rearmed) = false := by
  have waits : s.inputDelivers g i ↔ s.Works ∧ (i.rearmed = true ∨ (s.gateAt g).pulseHeld i.direction = false) := .rfl
  rw [waits]
  cases i.rearmed <;> simp

theorem exec_passagePulse_quiet {s : State} {g : Fin 16} {i : ActiveInput}
    (quiet : (s.gateAt g).config.kind = .hinged ∨ ¬ s.inputDelivers g i) : exec (.passagePulse g i) s = .next s := by
  have event : exec (.passagePulse g i) s = execPassagePulse g i s := rfl
  rw [event, execPassagePulse]
  by_cases works : s.Works
  · rw [whileLive_working works]
    have held : (decide ((s.gateAt g).config.kind = .hinged) || ((s.gateAt g).pulseHeld i.direction && !i.rearmed)) = true := by
      obtain hinged | waits := quiet
      · simp [hinged]
      · have pulse : ((s.gateAt g).pulseHeld i.direction && !i.rearmed) = true := by
          rw [← Bool.not_eq_false]
          exact fun free => waits ((inputDelivers_iff s g i).mpr ⟨works, free⟩)
        rw [pulse, Bool.or_true]
    dsimp only
    rw [if_pos held]
  · exact whileLive_not_working works _

/-- A pulse delivered at a turnstile (R97, R105). -/
theorem exec_passagePulse_delivered {s : State} {g : Fin 16} {i : ActiveInput} (turnstile : (s.gateAt g).config.kind = .turnstile)
    (delivers : s.inputDelivers g i) :
    exec (.passagePulse g i) s = .next (passagePulse g i.direction (s.setGate g ((s.gateAt g).holdPulse i.direction))) := by
  obtain ⟨works, free⟩ := (inputDelivers_iff s g i).mp delivers
  have event : exec (.passagePulse g i) s = execPassagePulse g i s := rfl
  rw [event, execPassagePulse, whileLive_working works]
  dsimp only
  rw [free, turnstile]
  rfl

/-- A pulse in the armed direction ends the arming (R105). -/
theorem passagePulse_armed {u : State} {g : Nat} {a : Arming} (arming : (u.gateAt g).arming = some a) :
    passagePulse g a.direction u = endArming g .passed u := by
  simp [passagePulse, arming]

/-- A pulse outside the armed direction is quiet within the standing and raises FORCED outside it (R105, R110). -/
theorem passagePulse_unarmed {u : State} {g : Nat} {d : Direction} (other : ∀ a ∈ (u.gateAt g).arming, a.direction ≠ d) :
    passagePulse g d u = if (u.standing g).holds d then u else gateAlarm g .forced .raised (some d) u := by
  have unarmed : ((u.gateAt g).arming.any fun a => a.direction == d) = false := by
    rw [← Bool.not_eq_true, Option.any_eq_true]
    rintro ⟨a, arming, same⟩
    exact other a arming (by simpa using same)
  simp [passagePulse, unarmed]

/-- An input's qualifier is no part of a standing (R97, R98). -/
theorem standing_holdPulse (s : State) (g : Fin 16) (d : Direction) :
    (s.setGate g ((s.gateAt g).holdPulse d)).standing g = s.standing g := by
  refine standing_of_post (cutOff_of_loops rfl g) rfl ?_
  rw [State.gateAt_setGate_self]
  exact (Gate.standsAs_holdPulse ..).post

/-! ## The end of an arming (R105, R106) -/

theorem commitPassage_found {s : State} {p : Passage} {w : WorkerRecord} (found : s.worker p.badge = some w) (g : Nat)
    (outcome : JournalOutcome) : commitPassage g p outcome s = commitPunch g p (some outcome) true w s := by
  simp only [commitPassage, found]

theorem exec_turnstileReleaseExpired {s : State} (works : s.Works) {g : Fin 16} (turnstile : (s.gateAt g).config.kind = .turnstile)
    (armed : (s.gateAt g).arming.isSome = true) (ended : (s.gateAt g).releaseTimer = some 0) :
    exec (.turnstileReleaseExpired g) s = .next (endArming g .expired s) := by
  have event : exec (.turnstileReleaseExpired g) s = execTurnstileReleaseExpired g s := rfl
  rw [event, execTurnstileReleaseExpired, whileLive_working works]
  dsimp only
  rw [if_pos ⟨turnstile, armed, ended⟩]

/-- A gate of the bank replaced, as the statements write it. -/
theorem State.setGate_fin (s : State) (g : Fin 16) (y : Gate) : s.setGate g y = { s with gates := s.gates.set g y } := by
  have same : s.gates.setIfInBounds g y = s.gates.set g y := by
    apply Vector.ext
    intro i hi
    rw [Vector.getElem_setIfInBounds, Vector.getElem_set]
  rw [State.setGate, same]

/-- Settles O37: the pulse with its input's qualifier, and the two ends of an arming. -/
theorem pulsesAndExpiriesEndAnArming : Obligations.PulsesAndExpiriesEndAnArming := by
  unfold Obligations.PulsesAndExpiriesEndAnArming
  refine ⟨fun s g i quiet => exec_passagePulse_quiet quiet, fun s g p outcome w found => commitPassage_found found g outcome,
    fun s g i works turnstile => ?_⟩
  intro x dir seen
  have at_g : s.gateAt g = x := s.gateAt_fin g
  have pulsed : (s.gateAt g).holdPulse dir = seen := by
    rw [at_g]
    rfl
  have seen_frame : seen.arming = x.arming ∧ seen.passage = x.passage := by
    rw [← pulsed, at_g]
    cases dir <;> exact ⟨rfl, rfl⟩
  let u := s.setGate g seen
  have at_u : u.gateAt g = seen := s.gateAt_setGate_self g seen
  have delivered : s.inputDelivers g i → exec (.passagePulse g i) s = .next (passagePulse g dir u) := fun delivers => by
    rw [exec_passagePulse_delivered turnstile delivers, pulsed]
  refine ⟨fun a arming direction delivers => ?_, fun other delivers => ?_, fun armed expired => ?_⟩
  · intro ended
    have disarmed : u.setGate g (u.gateAt g).disarm = ended := by
      rw [at_u, s.setGate_setGate, s.setGate_fin]
      rfl
    have arming_u : (u.gateAt g).arming = some a := by rw [at_u, seen_frame.1, arming]
    have passage_u : (u.gateAt g).passage = x.passage := by rw [at_u, seen_frame.2]
    have ends := delivered delivers
    rw [← direction, passagePulse_armed arming_u] at ends
    refine ⟨fun free => ?_, fun p held => ?_⟩
    · rw [ends, endArming_free (passage_u.trans free), disarmed]
    · rw [ends, endArming_held (passage_u.trans held), disarmed]
      rfl
  · have other_u : ∀ a ∈ (u.gateAt g).arming, a.direction ≠ dir := by
      rw [at_u, seen_frame.1]
      exact other
    have standing : u.standing g = s.standing g := by
      have same := standing_holdPulse s g dir
      rw [pulsed] at same
      exact same
    rw [delivered delivers, passagePulse_unarmed other_u, standing, ← s.setGate_fin g seen]
    rfl
  · intro ended
    have disarmed : s.setGate g (s.gateAt g).disarm = ended := by
      rw [at_g, s.setGate_fin]
      rfl
    have ends := exec_turnstileReleaseExpired works turnstile (by rw [at_g]; exact armed) (by rw [at_g]; exact expired)
    have passage : (s.gateAt g).passage = x.passage := by rw [at_g]
    refine ⟨fun free => ?_, fun p held ordered => ?_⟩
    · rw [ends, endArming_free (passage.trans free), disarmed]
    · rw [ends, endArming_held (passage.trans held), disarmed]
      exact congrArg Host.Outcome.next (voidPassage_ordered (s := ended) ordered.2.1 g p false)

end Sys2Proof.Machine
end

section
/-! PROOFS. What the work of a commit reads of the part (Sections 5.4, 5.5): the calendar and the record in hand, and the passback mode of
the gate. -/

namespace Sys2Proof.Machine

/-- The work carried over to the part `t`: its calendar, its period and its record. -/
def CommitWork.within (x : CommitWork) (t : State) : CommitWork :=
  ⟨{ t with calendar := x.state.calendar, period := x.state.period }, x.worker⟩

@[simp] theorem CommitWork.within_worker (x : CommitWork) (t : State) : (x.within t).worker = x.worker := rfl

@[simp] theorem CommitWork.within_calendar (x : CommitWork) (t : State) : (x.within t).state.calendar = x.state.calendar := rfl

theorem finalizeWork_within (a : Attendance) (x : CommitWork) (t : State) :
    finalizeWork a (x.within t) = (finalizeWork a x).within t := by
  unfold finalizeWork releaseFinalized
  cases a.kind <;> cases a.tag <;> rfl

theorem openEntry_within (tm : Nat) (soft : Bool) (x : CommitWork) (t : State) :
    openEntry tm soft (x.within t) = (openEntry tm soft x).within t := by
  cases found : x.state.calendar.matchEntry x.worker.crew tm with
  | some win =>
    simp only [openEntry, CommitWork.within_worker, CommitWork.within_calendar, found]
    rfl
  | none =>
    by_cases authorized : x.worker.unschedAuth = true
    all_goals
      simp only [openEntry, CommitWork.within_worker, CommitWork.within_calendar, found, authorized]
      rfl

theorem finalizeLate_within (a : Attendance) (x : CommitWork) (t : State) :
    finalizeLate a (x.within t) = (finalizeLate a x).within t := by
  unfold finalizeLate
  split
  · exact finalizeWork_within _ { x with worker := raise .missedOut (some a.tag) x.worker } t
  · exact finalizeWork_within a x t

/-- The commit of an entry reads the calendar and the record alone (R90). -/
theorem commitEntry_within (tm : Nat) (softMode : Bool) (x : CommitWork) (t : State) :
    commitEntry tm softMode (x.within t) = (commitEntry tm softMode x).within t := by
  cases attended : x.worker.attendance with
  | none =>
    simp only [commitEntry, CommitWork.within_worker, attended, openEntry_within]
    rfl
  | some a =>
    by_cases late : a.pastEnd tm = true
    · simp only [commitEntry, CommitWork.within_worker, attended, late, if_true, finalizeLate_within, openEntry_within]
      rfl
    · by_cases inside : x.worker.presence = .inside
      all_goals
        simp only [commitEntry, CommitWork.within_worker, attended, late, inside]
        rfl

/-- The commit of an exit reads the calendar and the record alone (R91). -/
theorem commitExit_within (tm : Nat) (unrecorded : Bool) (x : CommitWork) (t : State) :
    commitExit tm unrecorded (x.within t) = (commitExit tm unrecorded x).within t := by
  cases attended : x.worker.attendance with
  | none =>
    simp only [commitExit, CommitWork.within_worker, attended]
    rfl
  | some a =>
    by_cases isOpen : a.isOpen = true
    · let left : CommitWork :=
        { x with worker := raiseIf unrecorded .unrecordedExit (some a.tag) { x.worker with attendance := some (a.closeAt tm) } }
      have finalized := finalizeWork_within (a.closeAt tm) left t
      by_cases ends : exitFinalizes x.state.calendar tm a = true
      · simp only [commitExit, CommitWork.within_worker, CommitWork.within_calendar, attended, isOpen, ends, if_true]
        exact congrArg (fun y : CommitWork => ({ y with worker := { y.worker with presence := .outside } } : CommitWork)) finalized
      · simp only [commitExit, CommitWork.within_worker, CommitWork.within_calendar, attended, isOpen, ends]
        rfl
    · simp only [commitExit, CommitWork.within_worker, attended, isOpen]
      rfl

/-- A commit reads of the part its calendar and, where it is an entry's, the passback mode of its gate (R90, R91). -/
theorem commitWork_within {g : Nat} {p : Passage} {s t : State}
    (config : p.direction = .inward → (t.gateAt g).config = (s.gateAt g).config) (calendar : t.calendar = s.calendar)
    (period : t.period = s.period) (unrecorded : Bool) (w : WorkerRecord) :
    commitWork g p unrecorded ⟨t, w⟩ = (commitWork g p unrecorded ⟨s, w⟩).within t := by
  have same : (⟨t, w⟩ : CommitWork) = CommitWork.within ⟨s, w⟩ t := by rw [CommitWork.within, ← calendar, ← period]
  unfold commitWork
  cases direction : p.direction with
  | inward =>
    dsimp only
    rw [config direction, same]
    exact commitEntry_within ..
  | outward =>
    dsimp only
    rw [same]
    exact commitExit_within ..

end Sys2Proof.Machine
end

section
/-! PROOFS. Fire (Sections 6.8, 10.6): the passages resolved at the gates in their order, the gates freed, the end of fire; and after it the
statement. -/

namespace Sys2Proof.Machine

/-! ## One passage (R93) -/

/-- The part `s` with other gates, another link and another fire state, of which nothing that resolves a passage under fire reads. -/
def State.posted (s : State) (gates : Vector Gate 16) (link : StationLink) (fire : Bool) : State :=
  { s with gates := gates, link := link, fire := fire }

theorem commitPunch_posted {p : Passage} (exit : p.direction = .outward) (g : Nat) (outcome : JournalOutcome) (w : WorkerRecord) (s : State)
    (gates : Vector Gate 16) (link : StationLink) (fire : Bool) :
    commitPunch g p (some outcome) true w (s.posted gates link fire) =
      (commitPunch g p (some outcome) true w s).posted gates link fire := by
  have carried : commitWork g p false ⟨s.posted gates link fire, w⟩ =
      (commitWork g p false ⟨s, w⟩).within (s.posted gates link fire) :=
    commitWork_within (s := s) (t := s.posted gates link fire) (fun entry => by rw [exit] at entry; cases entry) rfl rfl false w
  have there := completeCommit_eq g p (some outcome) true false (s.posted gates link fire) w
  have here := completeCommit_eq g p (some outcome) true false s w
  unfold commitPunch
  rw [Option.isNone_some, here, there, carried]
  rfl

theorem commitPassage_posted {p : Passage} (exit : p.direction = .outward) (g : Nat) (outcome : JournalOutcome) (s : State)
    (gates : Vector Gate 16) (link : StationLink) (fire : Bool) :
    commitPassage g p outcome (s.posted gates link fire) = (commitPassage g p outcome s).posted gates link fire := by
  have worker : (s.posted gates link fire).worker p.badge = s.worker p.badge := rfl
  unfold commitPassage
  rw [worker]
  cases s.worker p.badge with
  | none => rfl
  | some w => exact commitPunch_posted exit g outcome w s gates link fire

theorem voidPassage_posted (g : Nat) (p : Passage) (restart : Bool) (s : State) (gates : Vector Gate 16) (link : StationLink) (fire : Bool) :
    voidPassage g p restart (s.posted gates link fire) = (voidPassage g p restart s).posted gates link fire := by
  let e := punchEntry g p .voided AnomalySet.empty restart
  have worker : (journalClaimed e (s.posted gates link fire)).worker p.badge = (journalClaimed e s).worker p.badge := rfl
  unfold voidPassage
  dsimp only
  rw [worker]
  cases (journalClaimed e s).worker p.badge <;> rfl

/-- What resolves a passage under fire reads no gate (R93). -/
theorem resolveFire_posted (g : Nat) (p : Passage) (s : State) (gates : Vector Gate 16) (link : StationLink) (fire : Bool) :
    resolvePassage g p .fire (s.posted gates link fire) = (resolvePassage g p .fire s).posted gates link fire := by
  unfold resolvePassage
  cases exit : p.direction with
  | inward => exact voidPassage_posted ..
  | outward => exact commitPassage_posted exit ..

/-- The passage that a turnstile holds resolved under fire (R93, R112). -/
def Gate.resolveFire (x : Gate) (g : Nat) (s : State) : State :=
  match x.config.kind, x.passage with
  | .turnstile, some p => resolvePassage g p .fire s
  | _, _ => s

/-- A gate whose arming fire has ended (R112). -/
def Gate.fired (x : Gate) : Gate :=
  match x.config.kind with
  | .turnstile => x.disarm
  | .hinged => x

theorem Gate.resolveFire_posted (x : Gate) (g : Nat) (s : State) (gates : Vector Gate 16) (link : StationLink) (fire : Bool) :
    x.resolveFire g (s.posted gates link fire) = (x.resolveFire g s).posted gates link fire := by
  unfold Gate.resolveFire
  split
  · exact Machine.resolveFire_posted ..
  · rfl

/-- The passages of several gates, each gate as `x` gives it, in their order (R93; log 15). -/
def resolveAll (x : Nat → Gate) (gs : List Nat) (s : State) : State := gs.foldl (fun u g => (x g).resolveFire g u) s

theorem resolveAll_posted (x : Nat → Gate) (gs : List Nat) (gates : Vector Gate 16) (link : StationLink) (fire : Bool) :
    ∀ s : State, resolveAll x gs (s.posted gates link fire) = (resolveAll x gs s).posted gates link fire := by
  induction gs with
  | nil => exact fun _ => rfl
  | cons g rest ih =>
    intro s
    have first := (x g).resolveFire_posted g s gates link fire
    have later := ih ((x g).resolveFire g s)
    rw [← first] at later
    exact later

/-- The passages resolved touch neither the clock, the bells nor what the gates are (R93). -/
theorem resolveAll_frame (x : Nat → Gate) (gs : List Nat) : ∀ s : State,
    (resolveAll x gs s).time = s.time ∧ (resolveAll x gs s).bells = s.bells := by
  have one : ∀ (y : Gate) (g : Nat) (s : State), (y.resolveFire g s).time = s.time ∧ (y.resolveFire g s).bells = s.bells := by
    intro y g s
    unfold Gate.resolveFire
    split
    · rw [resolvePassage_frame]
      exact ⟨rfl, rfl⟩
    · exact ⟨rfl, rfl⟩
  induction gs with
  | nil => exact fun _ => ⟨rfl, rfl⟩
  | cons g rest ih =>
    intro s
    obtain ⟨time, bells⟩ := ih ((x g).resolveFire g s)
    obtain ⟨time', bells'⟩ := one (x g) g s
    exact ⟨time.trans time', bells.trans bells'⟩

/-! ## The gates (R109, R110, R112) -/

/-- The end of a gate's arming under fire. -/
theorem fired_eq (g : Nat) (u : State) :
    (match (u.gateAt g).config.kind with
      | .turnstile => endArming g .fire u
      | .hinged => u) =
    ((u.gateAt g).resolveFire g u).posted (u.gates.setIfInBounds g (u.gateAt g).fired) u.link u.fire := by
  unfold Gate.resolveFire Gate.fired
  cases (u.gateAt g).config.kind with
  | hinged => exact (State.setGate_self u g).symm
  | turnstile =>
    dsimp only
    cases held : (u.gateAt g).passage with
    | none => exact endArming_free held .fire
    | some p => exact (endArming_held held .fire).trans (resolveFire_posted g p u _ u.link u.fire)

/-- A gate under fire: its passage resolved, its arming ended, and freed (R109, R110, R112). -/
theorem gateFire_eq {u : State} (fire : u.fire = true) {g : Nat} (isGate : g < 16) :
    gateFire g u = ((u.gateAt g).resolveFire g u).posted (u.gates.setIfInBounds g ((u.gateAt g).fired.under .both))
      (u.link.alarmEnded g (u.gateAt g).fired ((u.gateAt g).fired.under .both) (u.time.day * 86400 + u.time.second)) true := by
  let e := ((u.gateAt g).resolveFire g u).posted (u.gates.setIfInBounds g (u.gateAt g).fired) u.link u.fire
  have whole : gateFire g u = applyStanding g e := congrArg (applyStanding g) (fired_eq g u)
  have at_g : e.gateAt g = (u.gateAt g).fired := (u.gateAt_setGate g g _).trans (if_pos ⟨rfl, isGate⟩)
  have time : e.time = u.time := (resolveAll_frame u.gateAt [g] u).1
  have twice : (u.gates.setIfInBounds g (u.gateAt g).fired).setIfInBounds g ((u.gateAt g).fired.under .both) =
      u.gates.setIfInBounds g ((u.gateAt g).fired.under .both) := Vector.setIfInBounds_setIfInBounds ..
  have set : e.setGate g ((u.gateAt g).fired.under .both) =
      ((u.gateAt g).resolveFire g u).posted (u.gates.setIfInBounds g ((u.gateAt g).fired.under .both)) u.link true := by
    rw [← twice, ← fire]
    rfl
  rw [whole, applyStanding_eq, at_g, standing_of_fire (s := e) fire, time, set]
  rfl

/-- The gates of a list under fire, each from the part as it stood (R112; the order by log 15). -/
theorem foldl_gateFire (gs : List Nat) : gs.Nodup → (∀ g ∈ gs, g < 16) → ∀ u : State, u.fire = true →
    gs.foldl (fun s g => gateFire g s) u = (resolveAll u.gateAt gs u).posted
      (gs.foldl (fun v g => v.setIfInBounds g ((u.gateAt g).fired.under .both)) u.gates)
      (gs.foldl (fun k g => k.alarmEnded g (u.gateAt g).fired ((u.gateAt g).fired.under .both)
        (u.time.day * 86400 + u.time.second)) u.link) true := by
  induction gs with
  | nil =>
    intro _ _ u fire
    rw [← fire]
    rfl
  | cons g rest ih =>
    intro distinct gates u fire
    obtain ⟨apart, distinct'⟩ := List.nodup_cons.mp distinct
    have first := gateFire_eq fire (gates g List.mem_cons_self)
    have far : ∀ h ∈ rest, (gateFire g u).gateAt h = u.gateAt h := by
      intro h member
      rw [first]
      exact (u.gateAt_setGate g h _).trans (if_neg fun e : h = g ∧ g < 16 => apart (e.1 ▸ member))
    have time : (gateFire g u).time = u.time := by
      rw [first]
      exact (resolveAll_frame u.gateAt [g] u).1
    have passages : resolveAll (gateFire g u).gateAt rest (gateFire g u) = resolveAll u.gateAt rest (gateFire g u) :=
      List.foldl_ext _ _ _ fun v h member => by rw [far h member]
    have later := ih distinct' (fun h member => gates h (List.mem_cons_of_mem g member)) (gateFire g u) (by rw [first]; rfl)
    have after : resolveAll u.gateAt rest (gateFire g u) = (resolveAll u.gateAt (g :: rest) u).posted
        (gateFire g u).gates (gateFire g u).link true := by
      rw [first]
      exact resolveAll_posted u.gateAt rest _ _ _ _
    have freed : rest.foldl (fun v h => v.setIfInBounds h (((gateFire g u).gateAt h).fired.under .both)) (gateFire g u).gates =
        (g :: rest).foldl (fun v h => v.setIfInBounds h ((u.gateAt h).fired.under .both)) u.gates := by
      have first_gates : (gateFire g u).gates = u.gates.setIfInBounds g ((u.gateAt g).fired.under .both) := by rw [first]; rfl
      rw [List.foldl_cons, first_gates]
      exact List.foldl_ext _ _ _ fun v h member => by rw [far h member]
    have cleared : rest.foldl (fun k h => StationLink.alarmEnded k h ((gateFire g u).gateAt h).fired
          (((gateFire g u).gateAt h).fired.under .both) ((gateFire g u).time.day * 86400 + (gateFire g u).time.second)) (gateFire g u).link =
        (g :: rest).foldl (fun k h => k.alarmEnded h (u.gateAt h).fired ((u.gateAt h).fired.under .both)
          (u.time.day * 86400 + u.time.second)) u.link := by
      have first_link : (gateFire g u).link = u.link.alarmEnded g (u.gateAt g).fired ((u.gateAt g).fired.under .both)
          (u.time.day * 86400 + u.time.second) := by rw [first]; rfl
      rw [List.foldl_cons, first_link, time]
      exact List.foldl_ext _ _ _ fun k h member => by rw [far h member]
    rw [List.foldl_cons, later, passages, after, freed, cleared]
    rfl

/-- The part under fire before the gates are freed, from the part with every passage resolved: every arming ended, evacuation sounding
(R112, R159). -/
def State.freed (s resolved : State) : State :=
  { resolved with
    fire := true, link := s.link.queue (.fireEvent true (s.time.day * 86400 + s.time.second))
    bells := s.bells.evacuate s.bells.fireMask, gates := Vector.ofFn fun g => s.gates[g].fired }

@[simp] theorem State.freed_standing (s resolved : State) (g : Nat) : (s.freed resolved).standing g = .both :=
  standing_of_fire (by rfl) g

@[simp] theorem State.freed_gate (s resolved : State) (g : Fin 16) : (s.freed resolved).gates[g] = s.gates[g].fired := by
  simp [State.freed]

theorem State.freed_time (s resolved : State) : (s.freed resolved).time = resolved.time := by rw [State.freed]

/-- The gates freed in their order are the standings taken at once (R109, R110; log 15). -/
theorem State.freed_standingsTaken (s resolved : State) (time : resolved.time = s.time) :
    (s.freed resolved).standingsTaken (fun _ => true) =
      { resolved.posted (allGates.foldl (fun v g => v.setIfInBounds g ((s.gateAt g).fired.under .both)) s.gates)
          (allGates.foldl (fun k g => StationLink.alarmEnded k g (s.gateAt g).fired ((s.gateAt g).fired.under .both)
            (s.time.day * 86400 + s.time.second)) (s.link.queue (.fireEvent true (s.time.day * 86400 + s.time.second)))) true with
        bells := s.bells.onFireTaken } := by
  have gates : allGates.foldl (fun v g => v.setIfInBounds g ((s.gateAt g).fired.under .both)) s.gates =
      Vector.ofFn fun g => s.gates[g].fired.under .both := by
    apply Vector.ext
    intro i hi
    have member : i ∈ allGates := List.mem_range.mpr hi
    rw [getElem_foldl_setIfInBounds, if_pos member, Vector.getElem_ofFn]
    exact congrArg (fun x : Gate => x.fired.under .both) (s.gateAt_fin ⟨i, hi⟩)
  have names : allGates = (List.finRange 16).map fun g => g.val := by decide
  rw [gates, names, List.foldl_map]
  unfold State.standingsTaken
  have time' : (s.freed resolved).time = s.time := (State.freed_time s resolved).trans time
  simp only [if_true, State.freed_standing, State.freed_gate, time', State.gateAt_fin, State.posted, time]
  rfl

theorem exec_fireTaken {s : State} (works : s.Works) (clear : s.fire = false) :
    exec .fireTaken s = .next ((s.freed (resolveAll s.gateAt allGates s)).standingsTaken fun _ => true) := by
  let link := s.link.queue (.fireEvent true (s.time.day * 86400 + s.time.second))
  let taken := s.posted s.gates link true
  obtain ⟨time, bells⟩ := resolveAll_frame s.gateAt allGates s
  have walk := foldl_gateFire allGates List.nodup_range (fun g => List.mem_range.mp) taken rfl
  have passages : resolveAll s.gateAt allGates taken = (resolveAll s.gateAt allGates s).posted s.gates link true :=
    resolveAll_posted s.gateAt allGates s.gates link true s
  have at_taken : taken.gateAt = s.gateAt := funext fun g => congrArg (fun v : Vector Gate 16 => v.getD g Gate.cold) rfl
  have unmoved : taken.gates = s.gates ∧ taken.time = s.time ∧ taken.link = link := ⟨rfl, rfl, rfl⟩
  rw [at_taken, passages, unmoved.1, unmoved.2.1, unmoved.2.2] at walk
  have event : exec .fireTaken s = .next { allGates.foldl (fun s g => gateFire g s) taken with
      bells := (allGates.foldl (fun s g => gateFire g s) taken).bells.onFireTaken } := by
    have queued : queueReport (.fireEvent true s.plantSecond) { s with fire := true } = taken := rfl
    change execFireTaken s = _
    rw [execFireTaken, whileLive_working works]
    dsimp only
    rw [if_neg (by rw [clear]; decide), ← queued]
  rw [event, walk, State.freed_standingsTaken s _ time]
  have posted_twice : ∀ (resolved : State) (gates gates' : Vector Gate 16) (link' : StationLink), resolved.bells = s.bells →
      ({ (resolved.posted gates link true).posted gates' link' true with
        bells := ((resolved.posted gates link true).posted gates' link' true).bells.onFireTaken } : State) =
      { resolved.posted gates' link' true with bells := s.bells.onFireTaken } := by
    intro resolved gates gates' link' bells
    rw [← bells]
    rfl
  rw [posted_twice _ _ _ _ bells]

/-! ## The passages as the statement writes them (R93, R94) -/

/-- Two walks of a list agree where their steps do on every value that the first can reach. -/
theorem foldl_congr_of_invariant {α β : Type} {f h : β → α → β} {P : β → Prop} (same : ∀ u a, P u → f u a = h u a)
    (keeps : ∀ u a, P u → P (f u a)) (as : List α) : ∀ u, P u → as.foldl f u = as.foldl h u := by
  induction as with
  | nil => exact fun _ _ => rfl
  | cons a rest ih =>
    intro u holds
    rw [List.foldl_cons, List.foldl_cons, ← same u a holds]
    exact ih _ (keeps u a holds)

/-- A passage resolved under fire leaves the records in the order of their badges (R93). -/
theorem Gate.resolveFire_ordered (x : Gate) (g : Nat) {u : State} (ordered : BadgesAscend u.workers) :
    BadgesAscend (x.resolveFire g u).workers := by
  unfold Gate.resolveFire
  split
  · rwa [badgesAscend_iff, (resolvePassage_follows ..).badges, ← badgesAscend_iff]
  · exact ordered

theorem resolvePassage_fire_outward {p : Passage} (exit : p.direction = .outward) (g : Nat) (u : State) :
    resolvePassage g p .fire u = commitPassage g p .fireExit u := by
  simp only [resolvePassage, exit]

theorem resolvePassage_fire_inward {p : Passage} (entry : p.direction ≠ .outward) (g : Nat) {u : State}
    (ordered : BadgesAscend u.workers) :
    resolvePassage g p .fire u = { u with
      journal := u.journal.fill (punchEntry g p .voided AnomalySet.empty false)
      workers := u.workers.map (WorkerRecord.unpend p.badge) } := by
  have inward : p.direction = .inward := by
    cases direction : p.direction with
    | inward => rfl
    | outward => exact absurd direction entry
  rw [← voidPassage_ordered ordered]
  simp only [resolvePassage, inward]

/-- What the journal's entry of a passage resolved under fire says (R93). -/
def JournalEntry.resolution (e : JournalEntry) : Nat × Nat × Direction × Nat × JournalOutcome × Bool :=
  (e.gate, e.badge, e.direction, e.second, e.outcome, e.restartVoid)

def Passage.resolution (g : Nat) (p : Passage) : Nat × Nat × Direction × Nat × JournalOutcome × Bool :=
  (g, p.badge, p.direction, p.second, Resolution.fire.outcome p.direction, false)

/-- The journal takes one entry for each passage held, in the order of the gates (R93, R120; log 15). -/
theorem resolveAll_entries {s : State} (turnstiles : ∀ g, (s.gateAt g).config.kind = .hinged → (s.gateAt g).passage = none)
    (gs : List Nat) : ∀ u : State, ∃ es, (resolveAll s.gateAt gs u).journal.entries = u.journal.entries ++ es ∧
      es.map JournalEntry.resolution = (s.heldPassages gs).map fun x => x.2.resolution x.1 := by
  induction gs with
  | nil => exact fun u => ⟨[], (List.append_nil _).symm, rfl⟩
  | cons g rest ih =>
    intro u
    obtain ⟨es, entries, resolutions⟩ := ih ((s.gateAt g).resolveFire g u)
    cases held : (s.gateAt g).passage with
    | none =>
      have still : (s.gateAt g).resolveFire g u = u := by simp [Gate.resolveFire, held]
      have skipped : s.heldPassages (g :: rest) = s.heldPassages rest := by simp [State.heldPassages, held]
      rw [still] at entries
      exact ⟨es, (congrArg (fun v => (resolveAll s.gateAt rest v).journal.entries) still).trans entries, skipped ▸ resolutions⟩
    | some p =>
      have kind : (s.gateAt g).config.kind = .turnstile := by
        cases kind : (s.gateAt g).config.kind with
        | turnstile => rfl
        | hinged => rw [turnstiles g kind] at held; cases held
      have first : (s.gateAt g).resolveFire g u = resolvePassage g p .fire u := by simp only [Gate.resolveFire, kind, held]
      have named : s.heldPassages (g :: rest) = (g, p) :: s.heldPassages rest := by simp [State.heldPassages, held]
      obtain ⟨anomalies, journal⟩ := resolvePassage_journal g p .fire u
      rw [first, journal] at entries
      refine ⟨_ :: es, (congrArg (fun v => (resolveAll s.gateAt rest v).journal.entries) first).trans
        (entries.trans (List.append_assoc ..)), ?_⟩
      rw [named, List.map_cons, List.map_cons, resolutions]
      rfl

/-- A hinged gate holds no passage (R104). -/
theorem passage_of_hinged {x : Gate} (stands : x.armedRight = true) (hinged : x.config.kind = .hinged) : x.passage = none := by
  have idle : x.arming = none ∧ x.passage = none := by simpa [Gate.armedRight, hinged] using (Bool.and_eq_true_iff.mp stands).2
  exact idle.2

/-- A gate that has taken fire holds no passage (R104, R112). -/
theorem Gate.fired_passage {x : Gate} (stands : x.armedRight = true) : x.fired.passage = none := by
  unfold Gate.fired
  cases kind : x.config.kind with
  | turnstile => rfl
  | hinged => exact passage_of_hinged stands kind

/-! ## The end of fire (R111, R159) -/

theorem exec_fireCleared {s : State} (works : s.Works) (fire : s.fire = true) :
    exec .fireCleared s = .next (State.standingsTaken { s with
      fire := false, link := s.link.queue (.fireEvent false (s.time.day * 86400 + s.time.second))
      bells := s.bells.onFireCleared } fun _ => true) := by
  let ended : State := { s with fire := false, link := s.link.queue (.fireEvent false (s.time.day * 86400 + s.time.second)) }
  have taken : applyStandings allGates ended = ended.standingsTaken fun _ => true := applyStandings_filter (fun _ => true) ended
  have event : exec .fireCleared s = .next { applyStandings allGates ended with
      bells := (applyStandings allGates ended).bells.onFireCleared } := by
    change execFireCleared s = _
    rw [execFireCleared, whileLive_working works]
    dsimp only
    rw [if_neg (by rw [fire]; decide)]
    rfl
  rw [event, taken]
  rfl

/-- Settles O39: the passages resolved and the gates freed; the journal's entries of the passages; and the end of fire. -/
theorem fireFreesTheGates : Obligations.FireFreesTheGates := by
  unfold Obligations.FireFreesTheGates
  intro s works now resolved
  refine ⟨fun clear ordered => ?_, fun clear stands => ?_, fun fire => exec_fireCleared works fire⟩
  · intro freed
    have same : resolveAll s.gateAt allGates s = resolved := by
      have names : allGates = (List.finRange 16).map fun g => g.val := by decide
      rw [resolveAll, names, List.foldl_map]
      refine foldl_congr_of_invariant (P := fun u : State => BadgesAscend u.workers) (fun u (g : Fin 16) ascend => ?_)
        (fun u (g : Fin 16) ascend => (s.gateAt g).resolveFire_ordered g ascend) _ s ordered.2.1
      rw [s.gateAt_fin]
      unfold Gate.resolveFire
      cases s.gates[g].config.kind with
      | hinged => rfl
      | turnstile =>
        cases s.gates[g].passage with
        | none => rfl
        | some p =>
          by_cases exit : p.direction = .outward
          · exact (resolvePassage_fire_outward exit g u).trans (if_pos exit).symm
          · exact (resolvePassage_fire_inward exit g ascend).trans (if_neg exit).symm
    have whole : s.freed resolved = freed := rfl
    refine ⟨by rw [exec_fireTaken works clear, same, whole], fun g hinged closed => ?_⟩
    rw [← whole, State.standingsTaken_gate, if_pos rfl, State.freed_gate, State.freed_standing]
    have unarmed : s.gates[g].fired = s.gates[g] := by simp only [Gate.fired, hinged]
    rw [unarmed, Gate.under, if_pos ⟨hinged, by decide, closed⟩]
  · have stand : ∀ g : Fin 16, (s.gateAt g).armedRight = true := fun g => (stands g).1
    have turnstiles : ∀ g, (s.gateAt g).config.kind = .hinged → (s.gateAt g).passage = none := by
      intro g hinged
      by_cases isGate : g < 16
      · exact passage_of_hinged (stand ⟨g, isGate⟩) hinged
      · exact congrArg Gate.passage (s.gateAt_beyond isGate)
    obtain ⟨es, entries, resolutions⟩ := resolveAll_entries turnstiles allGates s
    have length : es.length = s.passages := by
      have count := congrArg List.length resolutions
      rwa [List.length_map, List.length_map, heldPassages_length] at count
    generalize same : resolveAll s.gateAt allGates s = u at entries
    have journal : ((s.freed u).standingsTaken fun _ => true).journal.entries = s.journal.entries ++ es := entries
    refine ⟨_, by rw [exec_fireTaken works clear, same], (passages_eq_zero _).mpr fun g => ?_, ?_, ?_, ?_⟩
    · by_cases isGate : g < 16
      · have at_g := State.gateAt_fin ((s.freed u).standingsTaken fun _ => true) ⟨g, isGate⟩
        rw [State.standingsTaken_gate, if_pos rfl, State.freed_gate, ← s.gateAt_fin] at at_g
        rw [at_g, Gate.under_passage, Gate.fired_passage (stand ⟨g, isGate⟩)]
      · exact congrArg Gate.passage (State.gateAt_beyond _ isGate)
    · rw [journal, List.length_append, length]
    · rw [journal, List.take_left]
    · rw [journal, List.drop_left]
      refine (Eq.trans resolutions (List.map_filterMap ..)).trans (congrArg (List.filterMap · (List.range 16)) (funext fun g => ?_))
      cases (s.gateAt g).passage with
      | none => rfl
      | some p => cases direction : p.direction <;> simp [Passage.resolution, Resolution.outcome, direction]

end Sys2Proof.Machine
end

section
/-! PROOFS. The decision of a punch (Section 5.3): its branches, its verdicts in the order of the checks, and what a refusal and an acceptance
do; and after each the statement. -/

namespace Sys2Proof.Machine

/-! ## The branches (R80, R82 to R88) -/

theorem decidePunch_unknown {g : Nat} {p : Passage} {s : State} (unknown : s.worker p.badge = none) :
    decidePunch g p s = refusePunch g p .unknownBadge false s := by
  simp only [decidePunch, unknown]

section
variable {g : Nat} {p : Passage} {s : State} {w : WorkerRecord} (found : s.worker p.badge = some w)
include found

theorem decidePunch_unset_inward (unset : s.time.validity = .unset) (entry : p.direction = .inward) :
    decidePunch g p s = refusePunch g p .clockUnset w.seesOffice s := by
  simp only [decidePunch, found, unset, entry, if_true]

theorem decidePunch_unset_outward (unset : s.time.validity = .unset) (exit : p.direction = .outward) :
    decidePunch g p s = releaseUntimed g w s := by
  simp only [decidePunch, found, unset, exit, if_true]

variable (set : s.time.validity = .set)
include set

theorem decidePunch_fire_inward (fire : s.fire = true) (entry : p.direction = .inward) :
    decidePunch g p s = refusePunch g p .evacuation w.seesOffice s := by
  simp only [decidePunch, found, set, fire, entry, reduceCtorEq, if_false, if_true]

theorem decidePunch_fire_outward (fire : s.fire = true) (exit : p.direction = .outward) :
    decidePunch g p s = fireExit g p w s := by
  simp only [decidePunch, found, set, fire, exit, reduceCtorEq, if_false, if_true]

variable (clear : s.fire = false)
include clear

theorem decidePunch_waits (busy : waits g w s = true) : decidePunch g p s = ⟨s, ⟨.wait, 7, w.seesOffice⟩⟩ := by
  simp only [decidePunch, found, set, clear, busy, reduceCtorEq, Bool.false_eq_true, if_false, if_true]

theorem decidePunch_inward (idle : waits g w s = false) (entry : p.direction = .inward) :
    decidePunch g p s = entryPunch g p w s := by
  simp only [decidePunch, found, set, clear, idle, entry, reduceCtorEq, Bool.false_eq_true, if_false]

theorem decidePunch_outward (idle : waits g w s = false) (exit : p.direction = .outward) :
    decidePunch g p s = exitPunch g p w s := by
  simp only [decidePunch, found, set, clear, idle, exit, reduceCtorEq, Bool.false_eq_true, if_false]

end

/-! ## Verdicts (R81, Table 5.1) -/

theorem WorkerRecord.seesOffice_eq (w : WorkerRecord) : w.seesOffice = decide (w.pendingSet ≠ AnomalySet.empty) := by
  unfold WorkerRecord.seesOffice AnomalySet.isEmpty
  by_cases empty : w.pendingSet = AnomalySet.empty <;> simp [empty]

theorem refusePunch_verdict (g : Nat) (p : Passage) (reason : Denial) (see : Bool) (s : State) :
    (refusePunch g p reason see s).verdict = ⟨.denied reason, reason.display, see⟩ := rfl

theorem commitNow_eq (display g : Nat) (p : Passage) (entry : Option JournalOutcome) (w : WorkerRecord) (s : State) :
    commitNow display g p entry w s = ⟨commitPunch g p entry false w s,
      ⟨.accept, display, (commitWork g p entry.isNone ⟨s, w⟩).worker.seesOffice⟩⟩ := rfl

section
variable {g : Nat} {s : State} (display : Nat) (p : Passage) (w : WorkerRecord)

/-- R88, R98: a punch whose direction the turnstile's standing holds. -/
theorem acceptPunch_held (turnstile : (s.gateAt g).config.kind = .turnstile) (holds : (s.standing g).holds p.direction = true) :
    acceptPunch display g p w s = commitNow display g p (some .passed) w (journalClaim s) := by
  simp only [acceptPunch, turnstile, holds, if_true]

/-- R88, first case: a punch that becomes a pending passage. -/
theorem acceptPunch_pending (turnstile : (s.gateAt g).config.kind = .turnstile) (lacks : (s.standing g).holds p.direction = false) :
    acceptPunch display g p w s =
      ⟨takePassage g p (setWorker { w with pendingGate := some g } (journalClaim s)), ⟨.accept, display, w.seesOffice⟩⟩ := by
  simp only [acceptPunch, turnstile, lacks, Bool.false_eq_true, if_false]

/-- R88, R107: a punch at a hinged gate. -/
theorem acceptPunch_hinged (hinged : (s.gateAt g).config.kind = .hinged) :
    acceptPunch display g p w s = (commitNow display g p (some .passed) w (journalClaim s)).andThen fun t =>
      t.setGate g ((t.gateAt g).hingedRelease .punch) := by
  simp only [acceptPunch, hinged]

end

theorem acceptPunch_verdict (display g : Nat) (p : Passage) (w : WorkerRecord) (s : State) :
    (acceptPunch display g p w s).verdict.code = .accept ∧ (acceptPunch display g p w s).verdict.display = display := by
  unfold acceptPunch
  dsimp only
  split
  · split <;> exact ⟨rfl, rfl⟩
  · exact ⟨rfl, rfl⟩

theorem exitPunch_verdict (g : Nat) (p : Passage) (w : WorkerRecord) (s : State) :
    (exitPunch g p w s).verdict.code = .accept ∧
      (exitPunch g p w s).verdict.display = if s.journal.sum < 2048 then 3 else 5 := by
  unfold exitPunch
  split
  · rename_i room
    rw [if_pos ((Journal.exitRoom_iff _).mp room)]
    exact acceptPunch_verdict ..
  · rename_i full
    rw [if_neg (mt (Journal.exitRoom_iff _).mpr full)]
    exact ⟨rfl, rfl⟩

theorem fireExit_verdict (g : Nat) (p : Passage) (w : WorkerRecord) (s : State) :
    (fireExit g p w s).verdict.code = .accept ∧
      (fireExit g p w s).verdict.display = if s.journal.sum < 2048 then 4 else 5 := by
  unfold fireExit
  split
  · rename_i room
    rw [if_pos ((Journal.exitRoom_iff _).mp room)]
    exact ⟨rfl, rfl⟩
  · rename_i full
    rw [if_neg (mt (Journal.exitRoom_iff _).mpr full)]
    exact ⟨rfl, rfl⟩

/-! ## The tests of an entry (R85 to R87) -/

/-- The window of an entry, as Section 5.3.4 says it (R85). -/
theorem hasWindow_eq (c : Calendar) (m : Nat) (w : WorkerRecord) :
    hasWindow c m w = ((match w.attendance with
      | some a => match a.kind with
        | .scheduled _ stop => decide (m < stop)
        | .unscheduled => true
      | none => false) || (c.matchEntry w.crew m).isSome) := by
  unfold hasWindow
  cases w.attendance with
  | none => rfl
  | some a =>
    have early : (!a.pastEnd m) = match a.kind with
        | .scheduled _ stop => decide (m < stop)
        | .unscheduled => true := by
      unfold Attendance.pastEnd
      cases a.kind with
      | unscheduled => rfl
      | scheduled code stop =>
        dsimp only
        rw [← decide_not, decide_eq_decide, Nat.not_le]
    exact congrArg (· || (c.matchEntry w.crew m).isSome) early

theorem WorkerRecord.expiredOn_iff (w : WorkerRecord) (day : Nat) : w.expiredOn day = true ↔ ∃ last ∈ w.validUntil, last < day := by
  unfold WorkerRecord.expiredOn
  cases w.validUntil <;> simp

/-- The tests of the fifth check, each as its rule says it (R85, R86). -/
theorem entryDenial_eq (g : Nat) (p : Passage) (w : WorkerRecord) (s : State) :
    entryDenial g p w s =
      if (s.gateAt g).mode = .lockdown then some .gateLockdown
      else if w.status = .suspended then some .suspended
      else if ∃ last ∈ w.validUntil, last < p.second / 86400 then some .expired
      else if w.gateMask.getLsbD g = false then some .gateDenied
      else if hasWindow s.calendar (p.second / 60) w = false ∧ w.anytime = false ∧ w.unschedAuth = false then some .outOfWindow
      else if w.presence = .inside ∧ (s.gateAt g).config.passback = .hard then some .passback
      else none := by
  simp only [entryDenial, WorkerRecord.expiredOn_iff, Bool.not_eq_true', Bool.or_eq_false_iff, and_assoc, punchMinute]

/-- A chain of conditions walked beside the value that it gives. -/
theorem ite_of_eq_ite {α : Type} {c : Prop} [Decidable c] {x a b : α} {P Q : Prop} (chain : x = if c then a else b) (here : x = a → P)
    (later : x = b → Q) : if c then P else Q := by
  by_cases holds : c
  · rw [if_pos holds] at chain ⊢
    exact here chain
  · rw [if_neg holds] at chain ⊢
    exact later chain

theorem entryPunch_denied {g : Nat} {p : Passage} {w : WorkerRecord} {s : State} {reason : Denial}
    (denial : entryDenial g p w s = some reason) : entryPunch g p w s = refusePunch g p reason w.seesOffice s := by
  simp only [entryPunch, denial]

section
variable {g : Nat} {p : Passage} {w : WorkerRecord} {s : State} (passes : entryDenial g p w s = none)
include passes

theorem entryPunch_full (full : 1984 ≤ s.journal.sum) : entryPunch g p w s = refusePunch g p .journalFull w.seesOffice s := by
  have room : ¬ s.journal.entryRoom = true := mt (Journal.entryRoom_iff _).mp (Nat.not_lt.mpr full)
  simp only [entryPunch, passes, if_neg room]

theorem entryPunch_room (room : s.journal.sum < 1984) :
    entryPunch g p w s = acceptPunch (if hasWindow s.calendar (p.second / 60) w then 1 else 2) g p w s := by
  unfold entryPunch
  rw [passes]
  exact if_pos ((Journal.entryRoom_iff _).mpr room)

end

theorem waits_eq (g : Nat) (w : WorkerRecord) (s : State) :
    waits g w s = ((s.gateAt g).passage.isSome || (match (s.gateAt g).config.kind with
      | .turnstile => (s.gateAt g).arming.any fun a => a.cause == .host
      | .hinged => (s.gateAt g).hinged == .released .host) || s.heldByPartner g || w.pendingGate.isSome) := by
  cases kind : (s.gateAt g).config.kind <;> simp only [waits, Gate.servesHost, kind]

/-! ## The limits of the ring (R121, R122) -/

theorem noteLimit_eq (s : State) : noteLimit s = { s with
    link :=
      if s.journal.sum = 1984 then
        s.link.queue (.journalLimit .entryLimit s.journal.entries.length s.journal.reserved (s.time.day * 86400 + s.time.second))
      else if s.journal.sum = 2048 then
        s.link.queue (.journalLimit .full s.journal.entries.length s.journal.reserved (s.time.day * 86400 + s.time.second))
      else s.link } := by
  have limits : Config.entryLimit = 1984 ∧ Config.ringPlaces = 2048 := ⟨rfl, rfl⟩
  unfold noteLimit
  rw [limits.1, limits.2]
  split_ifs <;> rfl

/-- A claim, and the report of the limit that it brings the sum to (R120, R122). -/
theorem journalClaim_eq (s : State) : journalClaim s = { s with
    journal := { s.journal with reserved := s.journal.reserved + 1 }
    link :=
      if s.journal.entries.length + s.journal.reserved = 1983 then
        s.link.queue (.journalLimit .entryLimit s.journal.entries.length (s.journal.reserved + 1) (s.time.day * 86400 + s.time.second))
      else if s.journal.entries.length + s.journal.reserved = 2047 then
        s.link.queue (.journalLimit .full s.journal.entries.length (s.journal.reserved + 1) (s.time.day * 86400 + s.time.second))
      else s.link } := by
  have raised : ∀ n, ({ s.journal with reserved := s.journal.reserved + 1 } : Journal).sum = n + 1 ↔
      s.journal.entries.length + s.journal.reserved = n := fun n => by
    simp only [Journal.sum, Journal.held]
    omega
  rw [journalClaim, noteLimit_eq]
  simp only [raised 1983, raised 2047]

/-- A refusal journals its entry directly below the entry limit, and does nothing at it (R89, R122). -/
theorem refusePunch_state (g : Nat) (p : Passage) (reason : Denial) (see : Bool) (s : State) :
    (1984 ≤ s.journal.sum → (refusePunch g p reason see s).state = s) ∧
    (s.journal.sum < 1984 → (refusePunch g p reason see s).state = { s with
      journal := s.journal.write (punchEntry g p (.refused reason) AnomalySet.empty false)
      link := if s.journal.sum = 1983 then
          s.link.queue (.journalLimit .entryLimit (s.journal.entries.length + 1) s.journal.reserved
            (s.time.day * 86400 + s.time.second))
        else s.link }) := by
  refine ⟨fun full => ?_, fun below => ?_⟩
  · exact if_neg (mt (Journal.entryRoom_iff _).mp (Nat.not_lt.mpr full))
  · let e := punchEntry g p (.refused reason) AnomalySet.empty false
    have room : (refusePunch g p reason see s).state = journalDirect e s := if_pos ((Journal.entryRoom_iff _).mpr below)
    have length : (s.journal.write e).entries.length = s.journal.entries.length + 1 := by simp [Journal.write]
    have sum : (s.journal.write e).sum = s.journal.sum + 1 := by
      simp only [Journal.sum, Journal.held, length]
      simp only [Journal.write]
      omega
    have limit : s.journal.sum + 1 = 1984 ↔ s.journal.sum = 1983 := by omega
    have ring : ¬ s.journal.sum + 1 = 2048 := by omega
    rw [room, journalDirect, noteLimit_eq]
    simp only [sum, length, limit, if_neg ring]
    rfl

/-- A denial comes of a refusal (R82 to R87, R89). -/
theorem decidePunch_denied {g : Nat} {p : Passage} {s : State} {reason : Denial}
    (denied : (decidePunch g p s).verdict.code = .denied reason) : ∃ see, decidePunch g p s = refusePunch g p reason see s := by
  have refused : ∀ {reason' see}, decidePunch g p s = refusePunch g p reason' see s →
      ∃ see, decidePunch g p s = refusePunch g p reason see s := by
    intro reason' see e
    rw [e, refusePunch_verdict] at denied
    injection denied with same
    exact ⟨see, same ▸ e⟩
  have other : ∀ {d : Decision}, decidePunch g p s = d → (∀ r, d.verdict.code ≠ .denied r) →
      ∃ see, decidePunch g p s = refusePunch g p reason see s := fun e ne => absurd (e ▸ denied) (ne reason)
  have accepts : ∀ {d : Decision}, d.verdict.code = .accept → ∀ r, d.verdict.code ≠ .denied r := fun e r => by
    rw [e]
    exact VerdictCode.noConfusion
  cases found : s.worker p.badge with
  | none => exact refused (decidePunch_unknown found)
  | some w =>
    cases validity : s.time.validity with
    | unset =>
      cases direction : p.direction with
      | inward => exact refused (decidePunch_unset_inward found validity direction)
      | outward => exact other (decidePunch_unset_outward found validity direction) fun r => VerdictCode.noConfusion
    | set =>
      cases fire : s.fire with
      | true =>
        cases direction : p.direction with
        | inward => exact refused (decidePunch_fire_inward found validity fire direction)
        | outward => exact other (decidePunch_fire_outward found validity fire direction) (accepts (fireExit_verdict g p w s).1)
      | false =>
        cases busy : waits g w s with
        | true => exact other (decidePunch_waits found validity fire busy) fun r => VerdictCode.noConfusion
        | false =>
          cases direction : p.direction with
          | outward => exact other (decidePunch_outward found validity fire busy direction) (accepts (exitPunch_verdict g p w s).1)
          | inward =>
            have entry := decidePunch_inward found validity fire busy direction
            cases denial : entryDenial g p w s with
            | some reason' => exact refused (entry.trans (entryPunch_denied denial))
            | none =>
              obtain room | full := Nat.lt_or_ge s.journal.sum 1984
              · exact other (entry.trans (entryPunch_room denial room)) (accepts (acceptPunch_verdict ..).1)
              · exact refused (entry.trans (entryPunch_full denial full))

/-- Settles O29: the verdicts along the checks, and the one effect of a refusal. -/
theorem checksGiveTheVerdictInOrder : Obligations.ChecksGiveTheVerdictInOrder := by
  unfold Obligations.ChecksGiveTheVerdictInOrder
  refine ⟨fun s g p => ?_, fun s g p reason denied => ?_⟩
  · intro d x m sum
    refine ⟨fun unknown => congrArg Decision.verdict (decidePunch_unknown unknown), fun w found => ?_⟩
    intro see servesHost busy window
    have sees : w.seesOffice = see := w.seesOffice_eq
    have waiting : waits g w s = busy := waits_eq g w s
    have windowed : hasWindow s.calendar m w = window := hasWindow_eq s.calendar m w
    refine ⟨fun unset entry => ?_, fun unset exit => ?_, fun set fire entry => ?_, fun set fire exit => ?_, fun set clear holds => ?_,
      fun set clear idle exit => ?_, fun set clear idle entry => ?_⟩
    · rw [← sees]
      exact congrArg Decision.verdict (decidePunch_unset_inward found unset entry)
    · rw [← sees]
      exact congrArg Decision.verdict (decidePunch_unset_outward found unset exit)
    · rw [← sees]
      exact congrArg Decision.verdict (decidePunch_fire_inward found set fire entry)
    · have decided : d = fireExit g p w s := decidePunch_fire_outward found set fire exit
      rw [decided]
      exact fireExit_verdict ..
    · rw [← sees]
      exact decidePunch_waits found set clear (waiting.trans holds)
    · have decided : d = exitPunch g p w s := decidePunch_outward found set clear (waiting.trans idle) exit
      rw [decided]
      exact exitPunch_verdict ..
    · have decided : d = entryPunch g p w s := decidePunch_inward found set clear (waiting.trans idle) entry
      have chain := entryDenial_eq g p w s
      rw [windowed] at chain
      have denies : ∀ reason, entryDenial g p w s = some reason → d.verdict = ⟨.denied reason, reason.display, see⟩ := fun reason denial => by
        rw [decided, entryPunch_denied denial, refusePunch_verdict, sees]
      refine ite_of_eq_ite chain (denies _) fun chain => ite_of_eq_ite chain (denies _) fun chain => ite_of_eq_ite chain (denies _)
        fun chain => ite_of_eq_ite chain (denies _) fun chain => ite_of_eq_ite chain (denies _) fun chain =>
        ite_of_eq_ite chain (denies _) fun passes => ?_
      by_cases full : 1984 ≤ sum
      · rw [if_pos full, decided, entryPunch_full passes full, refusePunch_verdict, sees]
        rfl
      · rw [if_neg full, decided, entryPunch_room passes (Nat.not_le.mp full), windowed]
        exact acceptPunch_verdict ..
  · intro t sum
    obtain ⟨see, refused⟩ := decidePunch_denied denied
    have effect := refusePunch_state g p reason see s
    rw [← refused] at effect
    exact effect

end Sys2Proof.Machine
end

section
/-! PROOFS. What an accepted punch does at its gate (Sections 5.2, 5.3): the pending passage, the commit at once, the unrecorded exit and the
untimed release; and after it the statement. -/

namespace Sys2Proof.Machine

/-- One record of a table in the order of its badges replaced (R33). -/
theorem replaceWorker_ordered {s : State} (ordered : BadgesAscend s.workers) {badge : Nat} {w : WorkerRecord}
    (found : s.worker badge = some w) (f : WorkerRecord → WorkerRecord) (kept : (f w).badge = w.badge) :
    replaceWorker (f w) s.workers = s.workers.map fun x => if x.badge = badge then f x else x := by
  obtain ⟨member, at_badge⟩ := mem_of_worker found
  refine List.map_congr_left fun x hx => ?_
  by_cases hit : x.badge = badge
  · rw [if_pos hit, if_pos (hit.trans (at_badge.symm.trans kept.symm)), ordered.unique member hx (at_badge.trans hit.symm)]
  · rw [if_neg hit, if_neg fun same => hit (same.trans (kept.trans at_badge))]

/-- An accepted punch, with fire CLEAR and a time, is accepted with a claim or leaves unrecorded (R87, R88). -/
theorem decidePunch_accepted {g : Nat} {p : Passage} {s : State} {w : WorkerRecord} (found : s.worker p.badge = some w)
    (set : s.time.validity = .set) (clear : s.fire = false) (accepted : (decidePunch g p s).verdict.code = .accept) :
    (s.journal.sum < 2048 → ∃ display, decidePunch g p s = acceptPunch display g p w s) ∧
    (2048 ≤ s.journal.sum → decidePunch g p s = (commitNow 5 g p none w s).andThen (untrackedRelease g)) := by
  have notRefused : ∀ {reason see}, decidePunch g p s ≠ refusePunch g p reason see s := fun e => by
    rw [e, refusePunch_verdict] at accepted
    cases accepted
  cases busy : waits g w s with
  | true =>
    rw [decidePunch_waits found set clear busy] at accepted
    cases accepted
  | false =>
    cases direction : p.direction with
    | outward =>
      rw [decidePunch_outward found set clear busy direction, exitPunch]
      exact ⟨fun room => ⟨3, if_pos ((Journal.exitRoom_iff _).mpr room)⟩,
        fun full => if_neg (mt (Journal.exitRoom_iff _).mp (Nat.not_lt.mpr full))⟩
    | inward =>
      have entry := decidePunch_inward found set clear busy direction
      have passes : entryDenial g p w s = none := by
        cases denial : entryDenial g p w s with
        | none => rfl
        | some reason => exact absurd (entry.trans (entryPunch_denied denial)) notRefused
      have room : s.journal.sum < 1984 := by
        by_contra full
        exact notRefused (entry.trans (entryPunch_full passes (Nat.not_lt.mp full)))
      exact ⟨fun _ => ⟨_, entry.trans (entryPunch_room passes room)⟩, fun full => by omega⟩

/-- A claim leaves what a commit raises as it is (R120). -/
theorem commitWork_journalClaim (g : Nat) (p : Passage) (unrecorded : Bool) (w : WorkerRecord) (s : State) :
    (commitWork g p unrecorded ⟨journalClaim s, w⟩).worker = (commitWork g p unrecorded ⟨s, w⟩).worker := by
  have calendar : (journalClaim s).calendar = s.calendar := by rw [journalClaim_frame]
  have period : (journalClaim s).period = s.period := by rw [journalClaim_frame]
  have config : ((journalClaim s).gateAt g).config = (s.gateAt g).config := by simp only [State.gateAt, journalClaim_gates]
  rw [commitWork_within (s := s) (t := journalClaim s) (fun _ => config) calendar period, CommitWork.within_worker]

theorem commitPunch_gates (g : Nat) (p : Passage) (entry : Option JournalOutcome) (ofPassage : Bool) (w : WorkerRecord) (s : State) :
    (commitPunch g p entry ofPassage w s).gates = s.gates := (State.site_eq (commitPunch_site ..)).2.1

/-- A punch that becomes a pending passage names its gate in its worker's record and arms it (R88, R104). -/
theorem takePassage_pended {s : State} (ordered : BadgesAscend s.workers) {p : Passage} {w : WorkerRecord}
    (found : s.worker p.badge = some w) (g : Fin 16) :
    takePassage g p (setWorker { w with pendingGate := some g.val } s) = { s with
      workers := s.workers.map fun w => if w.badge = p.badge then { w with pendingGate := some g.val } else w
      gates := s.gates.set g { s.gates[g] with
        arming := some ⟨p.direction, .punch⟩, releaseTimer := some s.gates[g].config.release, passage := some p } } := by
  let named := setWorker { w with pendingGate := some g.val } s
  have workers : named.workers = s.workers.map fun w => if w.badge = p.badge then { w with pendingGate := some g.val } else w :=
    replaceWorker_ordered ordered found (fun w => { w with pendingGate := some g.val }) rfl
  have at_g : named.gateAt g = s.gates[g] := s.gateAt_fin g
  have armed : takePassage g p named = named.setGate g { (named.gateAt g).arm p.direction .punch with passage := some p } := rfl
  rw [armed, at_g, State.setGate_fin, ← workers]
  rfl

/-- Settles O30: the pending passage; and the commits at once, the unrecorded exit, the fire exit and the untimed release. -/
theorem acceptedPunchesActAtTheGate : Obligations.AcceptedPunchesActAtTheGate := by
  unfold Obligations.AcceptedPunchesActAtTheGate
  refine ⟨fun s g p ordered accepted set clear turnstile lacks room => ?_, fun s g p w found => ?_⟩
  · intro sum now
    cases found : s.worker p.badge with
    | none =>
      rw [decidePunch_unknown found] at accepted
      cases accepted
    | some w =>
      obtain ⟨display, decided⟩ := (decidePunch_accepted found set clear accepted).1 room
      have claimed := journalClaim_frame s
      have ordered' : BadgesAscend (journalClaim s).workers := by rw [claimed]; exact ordered.2.1
      have found' : (journalClaim s).worker p.badge = some w := by rw [claimed]; exact found
      rw [decided, acceptPunch_pending display p w turnstile lacks]
      dsimp only
      rw [takePassage_pended ordered' found', journalClaim_eq]
  · intro d sum now claimed released untracked sees
    have claim : journalClaim s = claimed := journalClaim_eq s
    have see_claimed : ∀ unrecorded, (commitWork g p unrecorded ⟨claimed, w⟩).worker.seesOffice = sees unrecorded := fun unrecorded => by
      rw [← claim, commitWork_journalClaim, WorkerRecord.seesOffice_eq]
    have see : ∀ unrecorded, (commitWork g p unrecorded ⟨s, w⟩).worker.seesOffice = sees unrecorded := fun _ =>
      WorkerRecord.seesOffice_eq _
    have asked : ∀ t : State, untrackedRelease g t = untracked t := fun t => by
      rw [untrackedRelease_eq, State.setGate_fin, State.gateAt_fin]
      rfl
    refine ⟨fun set clear accepted room => ?_, fun set clear accepted full => ?_, fun set fire exit => ?_, fun unset exit => ?_⟩
    · intro t
      obtain ⟨display, decided⟩ := (decidePunch_accepted found set clear accepted).1 room
      have whole : d = acceptPunch display g p w s := decided
      refine ⟨fun turnstile holds => ?_, fun turnstile lacks => ?_, fun hinged => ?_⟩
      · rw [whole, acceptPunch_held display p w turnstile holds, claim, commitNow_eq]
        exact ⟨rfl, see_claimed false⟩
      · rw [whole, acceptPunch_pending display p w turnstile lacks]
        exact w.seesOffice_eq
      · have at_g : t.gateAt g = s.gates[g] := by
          have gates : t.gates = s.gates := (commitPunch_gates ..).trans rfl
          rw [State.gateAt_fin, gates]
        have asks : t.setGate g ((t.gateAt g).hingedRelease .punch) = { t with gates := t.gates.set g (released .punch s.gates[g]) } := by
          rw [State.setGate_fin, at_g]
          rfl
        rw [whole, acceptPunch_hinged display p w hinged, claim, commitNow_eq]
        exact ⟨asks, see_claimed false⟩
    · have decided : d = (commitNow 5 g p none w s).andThen (untrackedRelease g) :=
        (decidePunch_accepted found set clear accepted).2 full
      rw [decided, commitNow_eq, ← asked]
      exact ⟨rfl, see true⟩
    · have decided : d = fireExit g p w s := decidePunch_fire_outward found set fire exit
      rw [decided, fireExit]
      by_cases room : sum < 2048
      · have below : s.journal.exitRoom = true := (Journal.exitRoom_iff _).mpr room
        rw [if_pos below, if_pos room, claim, commitNow_eq, decide_eq_false (Nat.not_le.mpr room)]
        exact ⟨rfl, see_claimed false⟩
      · have full : ¬ s.journal.exitRoom = true := mt (Journal.exitRoom_iff _).mp room
        rw [if_neg full, if_neg room, commitNow_eq, decide_eq_true (Nat.not_lt.mp room)]
        exact ⟨rfl, see true⟩
    · have decided : d = releaseUntimed g w s := decidePunch_unset_outward found unset exit
      rw [decided, ← asked]
      rfl

end Sys2Proof.Machine
end

section
/-! PROOFS. GATE_CONFIG (R96): the configuration by its fields, the gate that takes it, and the gates beside it; and after it the statement. -/

namespace Sys2Proof.Machine

/-! ## The fields (R96, Table 6.2) -/

/-- The gate kinds by their numbers (Table 6.2). -/
theorem gateKindOf_cases (n : Nat) :
    (n ≤ 1 ∧ ∃ k, gateKindOf n = some k ∧ Layout.gateKind k = n) ∨ (1 < n ∧ gateKindOf n = none) := by
  match n with
  | 0 => exact .inl ⟨by omega, _, rfl, rfl⟩
  | 1 => exact .inl ⟨by omega, _, rfl, rfl⟩
  | n + 2 => exact .inr ⟨by omega, rfl⟩

/-- The passback modes by their numbers (Table 6.2). -/
theorem passbackOf_cases (n : Nat) :
    (n ≤ 2 ∧ ∃ m, passbackOf n = some m ∧ Layout.passbackMode m = n) ∨ (2 < n ∧ passbackOf n = none) := by
  match n with
  | 0 => exact .inl ⟨by omega, _, rfl, rfl⟩
  | 1 => exact .inl ⟨by omega, _, rfl, rfl⟩
  | 2 => exact .inl ⟨by omega, _, rfl, rfl⟩
  | n + 3 => exact .inr ⟨by omega, rfl⟩

/-- The cut-off policies by their numbers (Table 6.2). -/
theorem policyOf_cases (n : Nat) :
    (n ≤ 2 ∧ ∃ p, policyOf n = some p ∧ Layout.cutOffPolicy p = n) ∨ (2 < n ∧ policyOf n = none) := by
  match n with
  | 0 => exact .inl ⟨by omega, _, rfl, rfl⟩
  | 1 => exact .inl ⟨by omega, _, rfl, rfl⟩
  | 2 => exact .inl ⟨by omega, _, rfl, rfl⟩
  | n + 3 => exact .inr ⟨by omega, rfl⟩

/-- The conditions of R96 on the fields of a GATE_CONFIG for gate `g` (Table 6.2). -/
structure GateFieldsInTable (g : Nat) (f : GateFields) : Prop where
  kind : f.kind ≤ 1
  release : 1 ≤ f.release ∧ f.release ≤ 30
  heldOpen : 5 ≤ f.heldOpen ∧ f.heldOpen ≤ 300
  passback : f.passback ≤ 2
  policy : f.policy ≤ 2
  partner : ∀ p ∈ f.partner, p ≤ 15 ∧ p ≠ g

/-- The configuration `c` says what the fields say (Table 6.2). -/
structure GateConfig.Carries (c : GateConfig) (f : GateFields) : Prop where
  kind : Layout.gateKind c.kind = f.kind
  release : c.release = f.release
  heldOpen : c.heldOpen = f.heldOpen
  passback : Layout.passbackMode c.passback = f.passback
  policy : Layout.cutOffPolicy c.policy = f.policy
  partner : c.partner = f.partner

theorem partnerValid_iff (g : Nat) (p : Option Nat) :
    (withinOpt 0 p 15 && p != some g) = true ↔ ∀ q ∈ p, q ≤ 15 ∧ q ≠ g := by
  cases p <;> simp [withinOpt, within_iff]

/-- Fields within the conditions make the configuration that says what they say. -/
theorem gateConfigOf_inTable {g : Nat} {f : GateFields} (inTable : GateFieldsInTable g f) :
    ∃ c, gateConfigOf g f = some c ∧ c.Carries f := by
  obtain ⟨kindIn, releaseIn, heldIn, passbackIn, policyIn, partnerIn⟩ := inTable
  obtain ⟨-, kind, kindOf, kindIs⟩ | ⟨beyond, -⟩ := gateKindOf_cases f.kind
  swap; · omega
  obtain ⟨-, passback, passbackOf, passbackIs⟩ | ⟨beyond, -⟩ := passbackOf_cases f.passback
  swap; · omega
  obtain ⟨-, policy, policyOf, policyIs⟩ | ⟨beyond, -⟩ := policyOf_cases f.policy
  swap; · omega
  refine ⟨⟨kind, f.release, f.heldOpen, passback, policy, f.partner⟩, ?_, kindIs, rfl, rfl, passbackIs, policyIs, rfl⟩
  have partner := (partnerValid_iff g f.partner).mpr partnerIn
  simp [gateConfigOf, within_iff, Bool.and_assoc, *]

/-- Fields outside the conditions make none. -/
theorem gateConfigOf_outside {g : Nat} {f : GateFields} (outside : ¬ GateFieldsInTable g f) : gateConfigOf g f = none := by
  unfold gateConfigOf
  split
  · rename_i kind passback policy kindOf passbackOf policyOf
    refine if_neg fun valid => outside ?_
    obtain ⟨kindIn, -⟩ | ⟨-, none⟩ := gateKindOf_cases f.kind
    swap; · simp [none] at kindOf
    obtain ⟨passbackIn, -⟩ | ⟨-, none⟩ := passbackOf_cases f.passback
    swap; · simp [none] at passbackOf
    obtain ⟨policyIn, -⟩ | ⟨-, none⟩ := policyOf_cases f.policy
    swap; · simp [none] at policyOf
    rw [Bool.and_assoc, Bool.and_eq_true, Bool.and_eq_true, within_iff, within_iff, partnerValid_iff] at valid
    obtain ⟨⟨releaseIn, heldIn⟩, partnerIn⟩ := valid
    exact ⟨kindIn, releaseIn, heldIn, passbackIn, policyIn, partnerIn⟩
  · rfl

/-! ## The gate configured (R96, R97, R109, R110) -/

/-- A gate with its new configuration, before its standing: its state machine restarted where its kind has changed (R96, R97). -/
def Gate.reconfigured (x : Gate) (c : GateConfig) (in0 in1 : Bool) : Gate :=
  if x.config.kind = c.kind then { x with config := c } else ({ x with config := c } : Gate).restartKind in0 in1

/-- A change of kind enters IDLE, or a hinged gate at rest by its contact (R96). -/
theorem Gate.reconfigured_eq (x : Gate) (c : GateConfig) (in0 in1 : Bool) : x.reconfigured c in0 in1 =
    let taken : Gate := { x with
      config := c, arming := none, passage := none, releaseTimer := none, heldTimer := none, contactOpen := in0
      pulse0 := in0, pulse1 := in1, hinged := .locked }
    if c.kind = x.config.kind then { x with config := c }
    else if c.kind = .hinged ∧ in0 = true then { taken with hinged := .opened, heldTimer := some c.heldOpen }
    else taken := by
  refine if_congr eq_comm rfl ?_
  unfold Gate.restartKind Gate.rest Gate.disarm
  dsimp only
  cases c.kind with
  | turnstile => rfl
  | hinged => cases in0 <;> rfl

theorem Gate.reconfigured_config (x : Gate) (c : GateConfig) (in0 in1 : Bool) : (x.reconfigured c in0 in1).config = c := by
  unfold Gate.reconfigured
  split
  · rfl
  · exact (Gate.restartKind_frame ..).2

/-- The restart of a gate's state machine leaves it in no alarm (R96). -/
theorem Gate.restartKind_quiet (x : Gate) (in0 in1 : Bool) :
    (x.restartKind in0 in1).hinged = .locked ∨ (x.restartKind in0 in1).hinged = .opened := by
  unfold Gate.restartKind Gate.rest
  dsimp only
  split
  · exact .inl rfl
  · split
    · exact .inr rfl
    · exact .inl rfl

/-- The end of an alarm is read from the gate's kind and state before (R110). -/
theorem StationLink.alarmEnded_congr {x x' : Gate} (kind : x'.config.kind = x.config.kind) (state : x'.hinged = x.hinged)
    (l : StationLink) (g : Nat) (y : Gate) (now : Nat) : l.alarmEnded g x' y now = l.alarmEnded g x y now := by
  unfold StationLink.alarmEnded
  rw [kind, state]

/-- A gate LOCKED or OPEN has no alarm to end (R110). -/
theorem StationLink.alarmEnded_quiet {x : Gate} (quiet : x.hinged = .locked ∨ x.hinged = .opened) (l : StationLink) (g : Nat) (y : Gate)
    (now : Nat) : l.alarmEnded g x y now = l := by
  unfold StationLink.alarmEnded
  obtain locked | opened := quiet
  · rw [locked]; exact ite_self l
  · rw [opened]; exact ite_self l

/-- A gate that becomes one of another kind ends its alarm (R96, R110). -/
theorem clearAlarm_eq {x y : Gate} (other : x.config.kind ≠ y.config.kind) (g : Nat) (s : State) :
    clearAlarm g x s = { s with link := s.link.alarmEnded g x y (s.time.day * 86400 + s.time.second) } := by
  unfold clearAlarm StationLink.alarmEnded
  cases kind : x.config.kind with
  | turnstile => rfl
  | hinged =>
    rw [if_pos ⟨rfl, .inl fun same => other (kind.trans same.symm)⟩]
    cases x.hinged <;> rfl

/-- What a standing applied touches, with the reports as the end of the gate's alarm (R109, R110). -/
theorem applyStanding_touches {g : Nat} (isGate : g < 16) (s : State) : applyStanding g s = { s with
    gates := (applyStanding g s).gates
    link := s.link.alarmEnded g (s.gateAt g) ((applyStanding g s).gateAt g) (s.time.day * 86400 + s.time.second) } := by
  rw [applyStanding_gateAt, if_pos ⟨rfl, isGate⟩, applyStanding_eq]
  rfl

/-- The part with gate `g` reconfigured and the partnerships set, before the standing is applied (R96). -/
def State.reconfigured (s : State) (g : Nat) (c : GateConfig) (in0 in1 : Bool) : State :=
  let x := s.gateAt g
  { s with
    gates := (repartner g c.partner s.gates).setIfInBounds g (x.reconfigured c in0 in1)
    link := s.link.alarmEnded g x (x.reconfigured c in0 in1) (s.time.day * 86400 + s.time.second) }

theorem State.reconfigured_gateAt (s : State) {g : Nat} (isGate : g < 16) (c : GateConfig) (in0 in1 : Bool) :
    (s.reconfigured g c in0 in1).gateAt g = (s.gateAt g).reconfigured c in0 in1 :=
  (State.gateAt_setGate { s with gates := repartner g c.partner s.gates } g g _).trans (if_pos ⟨rfl, isGate⟩)

/-- GATE_CONFIG accepted is the gate reconfigured, then its standing (R96, R109). -/
theorem configureGate_eq {g : Nat} (isGate : g < 16) (c : GateConfig) (in0 in1 : Bool) (s : State) :
    configureGate g c in0 in1 s = applyStanding g (s.reconfigured g c in0 in1) := by
  have partnered := repartner_gate g c.partner s isGate
  refine congrArg (applyStanding g) ?_
  rw [partnered]
  unfold State.reconfigured Gate.reconfigured
  by_cases same : (s.gateAt g).config.kind = c.kind
  · dsimp only
    rw [if_pos same, if_pos same]
    have quiet : s.link.alarmEnded g (s.gateAt g) { s.gateAt g with config := c } (s.time.day * 86400 + s.time.second) = s.link := by
      rw [← StationLink.alarmEnded_congr (x' := { s.gateAt g with config := c }) same.symm rfl, StationLink.alarmEnded_self]
    rw [quiet]
    rfl
  · dsimp only
    rw [if_neg same, if_neg same, clearAlarm_eq (y := ({ s.gateAt g with config := c } : Gate).restartKind in0 in1)
      (by rw [(Gate.restartKind_frame ..).2]; exact same)]
    rfl

/-- The alarm that the reconfigured gate ends, and then its standing, is the alarm that the gate ends by the whole (R96, R110). -/
theorem alarmEnded_reconfigured (l : StationLink) (g : Nat) (x : Gate) (c : GateConfig) (in0 in1 : Bool) {y : Gate} (config : y.config = c)
    (now : Nat) : (l.alarmEnded g x (x.reconfigured c in0 in1) now).alarmEnded g (x.reconfigured c in0 in1) y now =
      l.alarmEnded g x y now := by
  unfold Gate.reconfigured
  by_cases same : x.config.kind = c.kind
  · have as_before := StationLink.alarmEnded_congr (x := x) (x' := { x with config := c }) same.symm rfl
    rw [if_pos same, as_before, ← as_before l g { x with config := c }, StationLink.alarmEnded_self]
  · rw [if_neg same, StationLink.alarmEnded_quiet (Gate.restartKind_quiet ..)]
    unfold StationLink.alarmEnded
    rw [(Gate.restartKind_frame ..).2, config]
    have changed : ∀ p : Prop, x.config.kind = .hinged ∧ (c.kind ≠ .hinged ∨ p) ↔ x.config.kind = .hinged := fun p =>
      and_iff_left_of_imp fun hinged => .inl fun hinged' => same (hinged.trans hinged'.symm)
    simp only [changed]

/-- The partner of a gate beside the one configured, as the statement writes it (R96). -/
theorem partnered_other {g i : Nat} (other : i ≠ g) (p : Option Nat) (partner : Nat → Option Nat) : partnered g p partner i =
    if p = some i then some g
    else if partner i = some g ∨ (p.isSome = true ∧ partner i = p) then none
    else partner i := by
  rw [partnered, if_neg other]
  exact if_congr eq_comm rfl rfl

section
variable {s : State} {g : Nat} (isGate : g < 16) (c : GateConfig) (in0 in1 : Bool)
include isGate

/-- The gate configured, under its standing in the part configured (R96, R109). -/
theorem configureGate_gateAt : (configureGate g c in0 in1 s).gateAt g =
    ((s.gateAt g).reconfigured c in0 in1).under ((configureGate g c in0 in1 s).standing g) := by
  rw [configureGate_eq isGate, applyStanding_standing, applyStanding_gateAt, if_pos ⟨rfl, isGate⟩, State.reconfigured_gateAt s isGate]

theorem configureGate_config : ((configureGate g c in0 in1 s).gateAt g).config = c := by
  rw [configureGate_gateAt isGate, Gate.under_config, Gate.reconfigured_config]

/-- Every other gate keeps all but its partner (R96). -/
theorem configureGate_other {i : Nat} (other : i ≠ g) (isGate' : i < 16) : (configureGate g c in0 in1 s).gateAt i =
    { s.gateAt i with config := { (s.gateAt i).config with
      partner := partnered g c.partner (fun j => (s.gateAt j).config.partner) i } } := by
  rw [configureGate_eq isGate, applyStanding_gateAt, if_neg fun here => other here.1]
  refine Eq.trans ?_ (repartner_gate g c.partner s isGate')
  exact (State.gateAt_setGate { s with gates := repartner g c.partner s.gates } g i _).trans (if_neg fun here => other here.1)

/-- GATE_CONFIG touches the gates and the reports alone (R96, R110). -/
theorem configureGate_frame : configureGate g c in0 in1 s = { s with
    gates := (configureGate g c in0 in1 s).gates
    link := s.link.alarmEnded g (s.gateAt g) ((configureGate g c in0 in1 s).gateAt g) (s.time.day * 86400 + s.time.second) } := by
  have restarted : ∀ gates link, ({ s.reconfigured g c in0 in1 with gates := gates, link := link } : State) =
      { s with gates := gates, link := link } := fun gates link => by rw [State.reconfigured]
  have config := configureGate_config (s := s) isGate c in0 in1
  have applied := applyStanding_touches isGate (s.reconfigured g c in0 in1)
  rw [← configureGate_eq isGate, State.reconfigured_gateAt s isGate, restarted] at applied
  rw [← alarmEnded_reconfigured s.link g (s.gateAt g) c in0 in1 config]
  exact applied

end

/-! ## GATE_CONFIG (R96) -/

theorem exec_gateConfig_invalid {s : State} (ready : s.Ready) (tag : Nat) {gate : Nat} {f : GateFields} (in0 in1 : Bool)
    (invalid : 15 < gate ∨ ¬ GateFieldsInTable gate f) :
    exec (.gateConfig tag gate f in0 in1) s = .next (s.answered 0x40 tag .badValue .nothing) := by
  have request : exec (.gateConfig tag gate f in0 in1) s = execGateConfig tag gate f in0 in1 s := rfl
  rw [request, execGateConfig, serve_ready ready]
  obtain beyond | outside := invalid
  · have noGate : within 0 gate 15 = false := by
      rw [← Bool.not_eq_true, within_iff]
      omega
    rw [noGate]
    rfl
  · rw [gateConfigOf_outside outside]
    cases within 0 gate 15 <;> rfl

theorem exec_gateConfig_valid {s : State} (ready : s.Ready) (tag : Nat) {gate : Nat} (isGate : gate ≤ 15) {f : GateFields} {c : GateConfig}
    (valid : gateConfigOf gate f = some c) (in0 in1 : Bool) :
    exec (.gateConfig tag gate f in0 in1) s = .next (
      if (s.gateAt gate).passage.isSome = true then s.answered 0x40 tag .inUse .nothing
      else (configureGate gate c in0 in1 s).answered 0x40 tag .ok .nothing) := by
  have request : exec (.gateConfig tag gate f in0 in1) s = execGateConfig tag gate f in0 in1 s := rfl
  have inside : within 0 gate 15 = true := (within_iff ..).mpr ⟨Nat.zero_le _, isGate⟩
  rw [request, execGateConfig, serve_ready ready, inside, valid]
  dsimp only
  split <;> rfl

/-- Settles O34: the fields by their lists, the gate reconfigured under its standing, and the partners of the others. -/
theorem gateConfigKeepsPartnershipsSymmetric : Obligations.GateConfigKeepsPartnershipsSymmetric := by
  unfold Obligations.GateConfigKeepsPartnershipsSymmetric
  intro s tag gate f in0 in1 ready
  refine ⟨fun invalid => exec_gateConfig_invalid ready tag in0 in1 ?_,
    fun isGate kind release release' held held' passback policy partner => ?_⟩
  · refine or_iff_not_imp_left.mpr fun isGate => ?_
    rintro ⟨kind, release, held, passback, policy, partner⟩
    obtain ⟨p, named, wrong⟩ : ∃ p ∈ f.partner, 15 < p ∨ p = gate := by
      by_contra absent
      simp only [absent, or_false] at invalid
      omega
    obtain ⟨inRange, other⟩ := partner p named
    omega
  · have inTable : GateFieldsInTable gate f := ⟨kind, ⟨release, release'⟩, ⟨held, held'⟩, passback, policy, partner⟩
    obtain ⟨c, valid, carried⟩ := gateConfigOf_inTable inTable
    rw [exec_gateConfig_valid ready tag isGate valid]
    refine ⟨fun pending => by rw [if_pos pending], fun free => ?_⟩
    rw [if_neg (by rw [free]; decide)]
    have isGate' : gate < 16 := by omega
    generalize made : configureGate gate c in0 in1 s = u
    have config : (u.gateAt gate).config = c := made ▸ configureGate_config isGate' c in0 in1
    have frame := configureGate_frame (s := s) isGate' c in0 in1
    have at_gate := configureGate_gateAt (s := s) isGate' c in0 in1
    have others := fun i (other : i ≠ gate) => configureGate_other (s := s) isGate' c in0 in1 other
    rw [made] at frame at_gate others
    refine ⟨_, rfl, ?_⟩
    intro x y taken entered
    have config : y.config = c := config
    have entered_eq : entered = x.reconfigured c in0 in1 := by
      rw [Gate.reconfigured_eq, carried.heldOpen, ← config]
    refine ⟨congrArg (State.answered · 0x40 tag .ok .nothing) frame, ?_, ?_⟩
    · rw [entered_eq]
      exact at_gate
    · rw [config]
      refine ⟨carried.kind, carried.release, carried.heldOpen, carried.passback, carried.policy, carried.partner, fun i other => ?_⟩
      have kept := others i other i.isLt
      rw [u.gateAt_fin, partnered_other other, s.gateAt_fin, carried.partner] at kept
      exact kept

end Sys2Proof.Machine
end

section
/-! PROOFS. The hinged gate (Sections 6.6, 6.7): its contact, its timers and the alarm of each move; and after it the statement. -/

namespace Sys2Proof.Machine

/-! ## The contact and the timers (R108, R110, Table 6.4) -/

/-- The alarm of a gate that has moved, as the statements write it (R110). -/
theorem gateAlarm_setGate (g : Fin 16) (alarm : Alarm) (phase : AlarmPhase) (y : Gate) (s : State) :
    gateAlarm g alarm phase none (s.setGate g y) =
      queueReport (.gateAlarm g alarm phase none (s.time.day * 86400 + s.time.second)) { s with gates := s.gates.set g y } := by
  rw [s.setGate_fin]
  rfl

theorem exec_contactOpens {s : State} (works : s.Works) {g : Fin 16} (hinged : (s.gateAt g).config.kind = .hinged)
    (closed : (s.gateAt g).contactOpen = false) : exec (.contactOpens g) s = .next (contactOpens g s) := by
  have event : exec (.contactOpens g) s = execContactOpens g s := rfl
  rw [event, execContactOpens, whileLive_working works]
  exact congrArg Host.Outcome.next (if_pos ⟨hinged, closed⟩)

theorem exec_contactCloses {s : State} (works : s.Works) {g : Fin 16} (hinged : (s.gateAt g).config.kind = .hinged)
    (opened : (s.gateAt g).contactOpen = true) : exec (.contactCloses g) s = .next (contactCloses g s) := by
  have event : exec (.contactCloses g) s = execContactCloses g s := rfl
  rw [event, execContactCloses, whileLive_working works]
  exact congrArg Host.Outcome.next (if_pos ⟨hinged, opened⟩)

theorem exec_hingedReleaseExpired {s : State} (works : s.Works) {g : Fin 16} (hinged : (s.gateAt g).config.kind = .hinged)
    {cause : ReleaseCause} (released : (s.gateAt g).hinged = .released cause) (ended : (s.gateAt g).releaseTimer = some 0) :
    exec (.hingedReleaseExpired g) s = .next (s.setGate g { s.gateAt g with hinged := .locked, releaseTimer := none }) := by
  have event : exec (.hingedReleaseExpired g) s = execHingedReleaseExpired g s := rfl
  rw [event, execHingedReleaseExpired, whileLive_working works]
  simp only [hinged, released, ended]

theorem exec_heldOpenExpired {s : State} (works : s.Works) {g : Fin 16} (hinged : (s.gateAt g).config.kind = .hinged)
    (opened : (s.gateAt g).hinged = .opened) (ended : (s.gateAt g).heldTimer = some 0) :
    exec (.heldOpenExpired g) s =
      .next (gateAlarm g .held .raised none (s.setGate g { s.gateAt g with hinged := .held, heldTimer := none })) := by
  have event : exec (.heldOpenExpired g) s = execHeldOpenExpired g s := rfl
  rw [event, execHeldOpenExpired, whileLive_working works]
  simp only [hinged, opened, ended]

/-- Settles O38: the contact's moves by the state the gate is in, and the two expiries. -/
theorem hingedGateMovesByContactAndTimers : Obligations.HingedGateMovesByContactAndTimers := by
  unfold Obligations.HingedGateMovesByContactAndTimers
  intro s g works hinged x moved alarm
  have at_g : s.gateAt g = x := s.gateAt_fin g
  have silent : ∀ y, s.setGate g y = moved y := s.setGate_fin g
  have reported : ∀ a ph y, gateAlarm g a ph none (s.setGate g y) = alarm a ph (moved y) := fun a ph y => gateAlarm_setGate g a ph y s
  refine ⟨fun closed => ?_, fun opened => ?_, fun cause released ended => ?_, fun opened ended => ?_⟩
  · rw [exec_contactOpens works hinged (at_g ▸ closed), contactOpens, at_g]
    dsimp only
    cases x.hinged with
    | locked => exact congrArg Host.Outcome.next (reported ..)
    | released cause => exact congrArg Host.Outcome.next (silent _)
    | opened | held | forced | free => exact congrArg Host.Outcome.next (silent _)
  · rw [exec_contactCloses works hinged (at_g ▸ opened), contactCloses, at_g]
    dsimp only
    cases x.hinged with
    | held | forced => exact congrArg Host.Outcome.next (reported ..)
    | opened => exact congrArg Host.Outcome.next (silent _)
    | locked | released _ | free => exact congrArg Host.Outcome.next (silent _)
  · rw [exec_hingedReleaseExpired works hinged (at_g ▸ released) (at_g ▸ ended), at_g, silent]
  · rw [exec_heldOpenExpired works hinged (at_g ▸ opened) (at_g ▸ ended), at_g, reported]

end Sys2Proof.Machine
end

section
/-! PROOFS. The station line and its bytes (Sections 12.1, 12.2, 12.7): the receiver on a frame built, the cells of a byte, the forms of a
field, and the layouts of records, reports and replies; and after it the statement. -/

namespace Sys2Proof.Machine

/-! ## The receiver on a frame (R167) -/

@[simp] theorem crcBytes_length (bytes : List Byte) : (crcBytes bytes).length = 2 := rfl

/-- Outside a frame a byte that is not the start byte leaves the receiver outside (R167). -/
theorem takeLineByte_outside {b : LineByte} (noise : cellsData b ≠ Config.stationStart) : takeLineByte [] b = .collecting [] := by
  unfold takeLineByte
  split
  · rfl
  · exact if_pos ⟨rfl, noise⟩

/-- Bytes before a start byte do not change what the receiver makes of the line after them (R167). -/
theorem takeLine_noise {noise : List LineByte} (none_starts : ∀ b ∈ noise, cellsData b ≠ Config.stationStart) (line : List LineByte) :
    takeLine [] (noise ++ line) = takeLine [] line := by
  induction noise with
  | nil => rfl
  | cons b rest ih =>
    obtain ⟨first, others⟩ := List.forall_mem_cons.mp none_starts
    rw [List.cons_append, takeLine, takeLineByte_outside first]
    exact ih others

/-- A whole byte of a frame in progress goes to the framer (R167). -/
theorem takeLineByte_inside {front : List Byte} (inside : front ≠ []) (b : Byte) :
    takeLineByte front (wholeByte b) = frameByte (front ++ [b]) := by
  simp [takeLineByte, inside]

/-- The start byte begins a frame (R167). -/
theorem takeLineByte_start : takeLineByte [] (wholeByte Config.stationStart) = .collecting [Config.stationStart] := by
  simp [takeLineByte, frameByte]

section
variable {length : Byte} {counted : List Byte}

/-- The framer waits for the bytes that the length byte counts and for the CRC (R167). -/
theorem frameByte_unfinished (inRange : 2 ≤ length.toNat ∧ length.toNat ≤ 250) {front : List Byte}
    (short : front.length < length.toNat + 2) :
    frameByte (Config.stationStart :: length :: front) = .collecting (Config.stationStart :: length :: front) := by
  have inTable : ¬ (length.toNat < 2 ∨ 250 < length.toNat) := by omega
  rw [frameByte]
  exact (if_neg inTable).trans (if_pos short)

/-- The framer passes a frame whose last two bytes are its CRC (R167). -/
theorem frameByte_whole (inRange : 2 ≤ length.toNat ∧ length.toNat ≤ 250) (count : counted.length = length.toNat) :
    frameByte (Config.stationStart :: length :: (counted ++ crcBytes (length :: counted))) =
      .passed (Config.stationStart :: length :: (counted ++ crcBytes (length :: counted))) := by
  have inTable : ¬ (length.toNat < 2 ∨ 250 < length.toNat) := by omega
  have complete : ¬ (counted ++ crcBytes (length :: counted)).length < length.toNat + 2 := by simp [count]
  rw [frameByte]
  refine (if_neg inTable).trans ((if_neg complete).trans (if_pos ?_))
  rw [← count, List.drop_left, List.take_left]

/-- The receiver with the length byte and a front of a frame taken passes the frame at its last byte (R167). -/
theorem takeLine_rest (inRange : 2 ≤ length.toNat ∧ length.toNat ≤ 250) (count : counted.length = length.toNat)
    (front back : List Byte) (whole : front ++ back = counted ++ crcBytes (length :: counted)) (more : back ≠ []) :
    takeLine (Config.stationStart :: length :: front) (back.map wholeByte) =
      .passed (Config.stationStart :: length :: (counted ++ crcBytes (length :: counted))) := by
  induction back generalizing front with
  | nil => exact absurd rfl more
  | cons b back ih =>
    have joined : (front ++ [b]) ++ back = counted ++ crcBytes (length :: counted) := by rw [← whole]; simp
    have bytes : (front ++ [b]).length + back.length = length.toNat + 2 := by
      rw [← List.length_append, joined, List.length_append, count, crcBytes_length]
    rw [List.map_cons, takeLine, takeLineByte_inside (List.cons_ne_nil _ _), List.cons_append, List.cons_append]
    by_cases last : back = []
    · rw [last, List.append_nil] at joined
      rw [joined, frameByte_whole inRange count]
    · have := List.length_pos_iff.mpr last
      rw [frameByte_unfinished inRange (by omega)]
      exact ih _ joined last

/-- The receiver outside a frame passes a frame laid whole on the line (R167). -/
theorem takeLine_frame (inRange : 2 ≤ length.toNat ∧ length.toNat ≤ 250) (count : counted.length = length.toNat) :
    takeLine [] ((Config.stationStart :: length :: (counted ++ crcBytes (length :: counted))).map wholeByte) =
      .passed (Config.stationStart :: length :: (counted ++ crcBytes (length :: counted))) := by
  rw [List.map_cons, List.map_cons, takeLine, takeLineByte_start]
  dsimp only
  rw [takeLine, takeLineByte_inside (List.cons_ne_nil _ _), List.singleton_append,
    frameByte_unfinished inRange (front := []) (Nat.succ_pos _)]
  exact takeLine_rest inRange count [] _ rfl (by simp [crcBytes])

end

/-- A frame's bytes, for a body that a length byte can count (R167). -/
theorem stationFrame_eq (kind tag : Nat) {body : List Byte} (room : body.length ≤ 248) :
    Layout.stationFrame kind tag body = some (Config.stationStart :: BitVec.ofNat 8 (body.length + 2) ::
      ((BitVec.ofNat 8 kind :: BitVec.ofNat 8 tag :: body) ++
        crcBytes (BitVec.ofNat 8 (body.length + 2) :: BitVec.ofNat 8 kind :: BitVec.ofNat 8 tag :: body))) := by
  simp [Layout.stationFrame, room, Layout.num]

/-- The length byte of a frame counts the kind, the tag and the body (R167). -/
theorem lengthByte_toNat {n : Nat} (room : n ≤ 248) : (BitVec.ofNat 8 (n + 2)).toNat = n + 2 := by
  rw [BitVec.toNat_ofNat]
  omega

/-! ## The cells of a byte and the line on TXD (R167, Table 12.1) -/

/-- The receiver's nine cells of a byte are its eight data bits and a high stop bit (R167, log 29). -/
theorem wholeByte_cells (b : Byte) :
    (List.range 9).map (fun i => (wholeByte b).cells.getLsbD i) = (List.range 8).map b.getLsbD ++ [true] := by
  simp [List.range_succ, wholeByte]

/-- TXD carries the frame of the held request's reply at the rate of the straps (R167, R172). -/
theorem txdLine_of_held {s : State} (works : s.Works) {h : HeldRequest} (held : s.link.held = some h) {bytes : List Byte}
    (frame : Layout.replyFrame h = some bytes) : s.txdLine = some ⟨s.link.rate, bytes.flatMap byteCells⟩ := by
  rw [State.txdLine, State.txd, if_pos (s.live_iff.mpr works), held, Option.bind_some, frame, Option.map_some]

/-! ## The forms of a field (R173) -/

/-- A number's bytes are its digits to the base 256, the highest first (R173). -/
theorem num_eq_map (k v : Nat) : Layout.num k v = (List.range k).map fun i => BitVec.ofNat 8 (v / 256 ^ (k - 1 - i)) := by
  induction k with
  | zero => rfl
  | succ k ih =>
    rw [Layout.num, ih, List.range_succ_eq_map, List.map_cons, List.map_map]
    refine congrArg (BitVec.ofNat 8 (v / 256 ^ k) :: ·) (List.map_congr_left fun i _ => ?_)
    rw [Function.comp_apply, Nat.succ_eq_add_one, show k + 1 - 1 - (i + 1) = k - 1 - i by omega]

/-- A number in one byte is that byte. -/
theorem num_one (v : Nat) : Layout.num 1 v = [BitVec.ofNat 8 v] := by simp [Layout.num]

/-- A number that may be negative goes in two's complement (R173). -/
theorem signed_eq {v : Int} (low : -128 ≤ v) (high : v ≤ 127) :
    Layout.signed v = [BitVec.ofNat 8 (if v < 0 then (256 + v).toNat else v.toNat)] := by
  refine congrArg (· :: []) (BitVec.eq_of_toNat_eq ?_)
  rw [BitVec.toNat_ofInt, BitVec.toNat_ofNat]
  split <;> omega

/-- The number of a subset: the first member its least significant bit (R173). -/
theorem subset_number_testBit (members : List Bool) (i : Nat) :
    (members.foldr (fun (b : Bool) acc => 2 * acc + if b then 1 else 0) 0).testBit i = members.getD i false := by
  induction members generalizing i with
  | nil => simp
  | cons b rest ih =>
    cases i with
    | zero => cases b <;> simp [Nat.testBit_zero]
    | succ i =>
      have halved : ∀ n, (2 * n + if b then 1 else 0) / 2 = n := by intro n; split <;> omega
      rw [List.foldr_cons, Nat.testBit_succ, halved, ih, List.getD_cons_succ]

/-- A subset is one byte with a bit for each member (R173). -/
theorem subset_eq (members : List Bool) : ∃ b, Layout.subset members = [b] ∧ ∀ i : Fin 8, b.getLsbD i = members.getD i false := by
  refine ⟨_, num_one _, fun i => ?_⟩
  rw [BitVec.getLsbD_ofNat, subset_number_testBit, decide_eq_true i.isLt, Bool.true_and]

theorem flag_eq (b : Bool) : Layout.flag b = [if b then 1 else 0] := by
  cases b <;> rfl

theorem opt_some_eq {α : Type} (f : α → List Byte) (v : α) : Layout.opt f (some v) = 1 :: f v := rfl

theorem list_eq {α : Type} (f : α → List Byte) (l : List α) : Layout.list f l = BitVec.ofNat 8 l.length :: l.flatMap f := by
  rw [Layout.list, num_one, List.singleton_append]

/-! ## Records and readings (Tables 12.5 and 12.6, R114) -/

/-- The number of an anomaly set is the sum of its members' weights (Section 12.7). -/
theorem anomalySet_eq (x : AnomalySet) : Layout.anomalySet x = Layout.num 1 ((if x.missedOut then 1 else 0) +
    (if x.orphanOut then 2 else 0) + (if x.unscheduled then 4 else 0) + (if x.segmentLimit then 8 else 0) +
    (if x.timeStepped then 16 else 0) + (if x.unrecordedExit then 32 else 0) + (if x.saturated then 64 else 0) +
    if x.softPassback then 128 else 0) := by
  have weight : ∀ (b : Bool) (n : Nat), (if b then n else 0) = n * if b then 1 else 0 := by intro b n; cases b <;> simp
  refine congrArg (Layout.num 1) ?_
  simp only [List.foldr]
  rw [weight _ 2, weight _ 4, weight _ 8, weight _ 16, weight _ 32, weight _ 64, weight _ 128]
  omega

/-- A standing is the subset of the directions it holds (R173, R98). -/
theorem standingBytes_eq (x : Standing) : Layout.standing x = Layout.subset [x.holds .inward, x.holds .outward] := by
  cases x <;> rfl

/-- Settles O51: the frame and its receiver, the line, the forms of a field, the named lists, and each layout by its constructors. -/
theorem stationBytesFollowTheirLayouts : Obligations.StationBytesFollowTheirLayouts := by
  unfold Obligations.StationBytesFollowTheirLayouts
  refine ⟨?_, fun b => ?_, fun b => rfl, fun s works h held bytes frame => txdLine_of_held works held frame, num_eq_map,
    fun v => signed_eq, flag_eq, fun members _ => subset_eq members, fun α f => ⟨rfl, opt_some_eq f, list_eq f⟩, by decide, ?_⟩
  · intro kind tag body noise room quiet counted bytes
    have count := lengthByte_toNat room
    refine ⟨stationFrame_eq kind tag room, (takeLine_noise quiet _).trans (takeLine_frame ?_ ?_)⟩
    · omega
    · rw [count]
      rfl
  · rw [wholeByte_cells]
    rfl
  · intro num flag
    refine ⟨anomalySet_eq, fun e => ?_, ?_, fun report => ?_, fun reply => rfl, fun x => rfl, fun x => ?_, fun w => rfl,
      fun content => ?_⟩
    · obtain ⟨number, second, badge, loop, address, gate, direction, outcome, anomalies, void⟩ := e
      cases direction <;> rfl
    · intro totals record
      cases record <;> rfl
    · cases report <;> rfl
    · obtain ⟨kind, start, tag, crew, segments⟩ := x
      cases kind <;> rfl
    · cases content with
      | gate x =>
        dsimp only
        rw [← standingBytes_eq]
        rfl
      | _ => rfl

end Sys2Proof.Machine
end

section
/-! PROOFS. JOURNAL_RELEASE (Section 7.4): its checks, the entries dropped, and the counts of its reply; and after it the statement. -/

namespace Sys2Proof.Machine

/-- The oldest entry carries another number than the expected one, or there is none (R124). -/
theorem oldestNumber_ne_iff (entries : List JournalEntry) (expected : Nat) :
    entries.head?.map (·.number) ≠ some expected ↔ ∀ e ∈ entries.head?, e.number ≠ expected := by
  cases entries <;> simp

/-- Operands out of their ranges, or more entries than are held, are refused with the counts as they stand (R124). -/
theorem exec_journalRelease_badValue {s : State} (ready : s.Ready) (tag : Nat) {n expected : Nat}
    (outside : n < 1 ∨ 2048 < n ∨ 65535 < expected ∨ s.journal.entries.length < n) :
    exec (.journalRelease tag n expected) s = .next (s.answered 0x49 tag .badValue s.journal.counts) := by
  have request : exec (.journalRelease tag n expected) s = execJournalRelease tag n expected s := rfl
  rw [request, execJournalRelease, serve_ready ready]
  split
  · rfl
  · rename_i inRange
    have few : s.journal.held < n := by
      simp only [Bool.not_eq_true', Bool.and_eq_false_iff, not_within_iff] at inRange
      unfold Journal.held
      omega
    rw [if_pos few]
    rfl

/-- A number of entries in range and held is checked against the oldest entry's number; then that many leave the list (R124). -/
theorem exec_journalRelease_inRange {s : State} (ready : s.Ready) (tag : Nat) {n expected : Nat}
    (inside : ¬ (n < 1 ∨ 2048 < n ∨ 65535 < expected ∨ s.journal.entries.length < n)) :
    exec (.journalRelease tag n expected) s = .next (
      if s.journal.entries.head?.map (·.number) ≠ some expected then s.answered 0x49 tag .notFound s.journal.counts
      else
        let released := { s.journal with entries := s.journal.entries.drop n }
        State.answered { s with journal := released } 0x49 tag .ok released.counts) := by
  have request : exec (.journalRelease tag n expected) s = execJournalRelease tag n expected s := rfl
  have inRange : (within 1 n 2048 && within 0 expected 65535) = true := by
    rw [Bool.and_eq_true, within_iff, within_iff]
    omega
  have held : ¬ s.journal.held < n := by
    unfold Journal.held
    omega
  rw [request, execJournalRelease, serve_ready ready, inRange]
  simp only [Bool.not_true, Bool.false_eq_true, if_false, if_neg held]
  split <;> rfl

/-- Settles O40: a request out of range or beyond the entries held, another oldest number, and the release. -/
theorem journalReleaseDropsTheOldest : Obligations.JournalReleaseDropsTheOldest := by
  unfold Obligations.JournalReleaseDropsTheOldest
  intro s tag n expected ready counts
  by_cases outside : n < 1 ∨ 2048 < n ∨ 65535 < expected ∨ s.journal.entries.length < n
  · rw [exec_journalRelease_badValue ready tag outside, if_pos outside]
    rfl
  · rw [exec_journalRelease_inRange ready tag outside, if_neg outside]
    simp only [oldestNumber_ne_iff]
    rfl

end Sys2Proof.Machine
end

section
/-! PROOFS. The tally (Sections 8.2 to 8.4): a count of minutes as the size of a set of minutes, the gaps of closed segments, the bounds of
R136; and after them the statement of the formulas. -/

namespace Sys2Proof.Machine

/-! ## Counting minutes (R131) -/

theorem countMinutes_eq_card (a b : Nat) (f : Nat → Bool) :
    countMinutes a b f = ((Finset.Ico a b).filter fun p => f p).card := by
  have minutes : (List.range' a (b - a)).countP f = ((Finset.Ico a b).filter fun p => f p).card := by
    change _ = ((List.range' a (b - a)).filter fun p => decide (f p = true)).length
    simp only [List.countP_eq_length_filter, Bool.decide_eq_true]
  rw [← minutes, List.range'_eq_map_range, List.countP_map]
  rfl

theorem countMinutes_le (a b : Nat) (f : Nat → Bool) : countMinutes a b f ≤ b - a :=
  List.countP_le_length.trans_eq List.length_range

theorem countMinutes_and_le (a b : Nat) (f g : Nat → Bool) : countMinutes a b (fun p => f p && g p) ≤ countMinutes a b f :=
  List.countP_mono_left fun _ _ both => (Bool.and_eq_true_iff.mp both).1

/-! ## Gaps and reversed spans (R130) -/

theorem Segment.out_of_isSome {g : Segment} (closed : g.outMinute.isSome = true) : g.out = g.outMinute.getD 0 := by
  obtain ⟨minute, out⟩ := Option.isSome_iff_exists.mp closed
  simp [Segment.out, out]

theorem gaps_eq_map_zip (segments : List Segment) :
    gaps segments = (segments.zip segments.tail).map fun x => (x.1.out, x.2.inMinute) := by
  fun_induction gaps segments with
  | case1 a b rest ih => simp [ih]
  | case2 segments short =>
    match segments, short with
    | [], _ => rfl
    | [_], _ => rfl
    | a :: b :: rest, short => exact absurd rfl (short a b rest)

/-- The gaps of closed segments, by the out minutes that the segments hold. -/
theorem gaps_of_closed {segments : List Segment} (closed : ∀ g ∈ segments, g.outMinute.isSome = true) :
    gaps segments = (segments.zip segments.tail).map fun x => (x.1.outMinute.getD 0, x.2.inMinute) := by
  rw [gaps_eq_map_zip]
  refine List.map_congr_left fun x adjacent => ?_
  rw [Segment.out_of_isSome (closed _ (List.of_mem_zip adjacent).1)]

theorem anyReversed_of_closed {segments : List Segment} (closed : ∀ g ∈ segments, g.outMinute.isSome = true) :
    (segments.any fun g => decide (g.out < g.inMinute)) = segments.any fun g => decide (g.outMinute.getD 0 < g.inMinute) := by
  rw [Bool.eq_iff_iff, List.any_eq_true, List.any_eq_true]
  exact exists_congr fun g => and_congr_right fun member => by rw [Segment.out_of_isSome (closed g member)]

/-- A reversed span is a reversed segment or a reversed gap. -/
theorem hasReversedSpan_of_closed {segments : List Segment} (closed : ∀ g ∈ segments, g.outMinute.isSome = true) :
    hasReversedSpan segments = ((segments.any fun g => decide (g.outMinute.getD 0 < g.inMinute)) ||
      (segments.zip segments.tail).any fun x => decide (x.2.inMinute < x.1.outMinute.getD 0)) := by
  rw [hasReversedSpan, anyReversed_of_closed closed, gaps_of_closed closed, List.any_map, Bool.or_comm]
  rfl

/-- A minute is in a gap of closed segments when it lies between the out minute of one and the in minute of the next. -/
theorem inGap_of_closed {segments : List Segment} (closed : ∀ g ∈ segments, g.outMinute.isSome = true) (p : Nat) :
    (gaps segments).any (inSpan p) =
      (segments.zip segments.tail).any fun x => decide (x.1.outMinute.getD 0 ≤ p) && decide (p < x.2.inMinute) := by
  rw [gaps_of_closed closed, List.any_map]
  rfl

theorem firstIn_of_head {segments : List Segment} {g : Segment} (first : segments.head? = some g) : firstIn segments = g.inMinute := by
  simp [firstIn, first]

theorem finalOut_of_last {segments : List Segment} {g : Segment} (last : segments.getLast? = some g) : finalOut segments = g.out := by
  simp [finalOut, last]

/-! ## The tally of each kind (R126, R127) -/

theorem rates_getD_fin (c : Calendar) (grade : Fin 16) : c.rates.getD grade 0 = c.rates[grade] := by
  simp [Vector.getD]

theorem tally_scheduled {c : Calendar} {a : Attendance} {code stop : Nat} {d : ShiftDef} (kind : a.kind = .scheduled code stop)
    (defined : c.shiftOf code = some d) (grade : Nat) :
    tally c grade a = tallyScheduled c.tally (c.rates.getD grade 0) d a.start stop a.segments := by
  simp only [tally, kind, defined]

theorem tally_unscheduled {c : Calendar} {a : Attendance} (kind : a.kind = .unscheduled) (grade : Nat) :
    tally c grade a = tallyUnscheduled c.tally (c.rates.getD grade 0) a.segments := by
  simp only [tally, kind]

/-- Settles O41: a SCHEDULED tally's counts are sizes of sets of minutes, and an UNSCHEDULED one's time is a sum over its segments. -/
theorem tallyFollowsItsFormulas : Obligations.TallyFollowsItsFormulas := by
  unfold Obligations.TallyFollowsItsFormulas
  intro c grade a first head last final closed rate out gapPairs turned
  refine ⟨?_, ?_⟩
  · intro code E kind d defined _ S o inGap inBreak stayed Ps Pr paid x night R N OT
    have gap : ∀ p, (gaps a.segments).any (inSpan p) = inGap p := inGap_of_closed closed
    have paidHere : paidMinute d S a.segments = fun p => !(inGap p || inBreak p) := by
      funext p
      rw [paidMinute, gap, Bool.not_or]
      rfl
    have paidFrom : paidStart d S E (firstIn a.segments) = Ps := by rw [firstIn_of_head head]; rfl
    have finalO : finalOut a.segments = o := by
      rw [finalOut_of_last final, Segment.out_of_isSome (closed last (List.mem_of_getLast? final))]
    have paidTo : paidEnd d E Ps o = Pr := rfl
    have regular : countMinutes Ps Pr (paidMinute d S a.segments) = R := by
      rw [paidHere, countMinutes_eq_card]
    have nights : countMinutes Ps Pr (fun m => paidMinute d S a.segments m && isNight c.tally (m % 1440)) = N := by
      rw [paidHere, countMinutes_eq_card]
      simp only [N, paid, Finset.filter_filter, Bool.and_eq_true]
      rfl
    have overtime : scheduledOvertime d E a.segments o = OT := by
      have minutes : countMinutes E o (fun p => !(gaps a.segments).any (inSpan p)) = x := by
        simp only [gap, countMinutes_eq_card, x]
      simp only [scheduledOvertime, minutes, OT, Bool.and_eq_true, decide_eq_true_eq, and_assoc]
      rfl
    rw [tally_scheduled kind defined, rates_getD_fin, tallyScheduled, paidFrom, finalO, paidTo, regular, nights, overtime,
      hasReversedSpan_of_closed closed]
    rfl
  · intro kind T OT
    have time : (a.segments.map fun g => g.out - g.inMinute).sum = T :=
      congrArg List.sum (List.map_congr_left fun g member => by rw [Segment.out_of_isSome (closed g member)])
    rw [tally_unscheduled kind, rates_getD_fin, tallyUnscheduled, time, anyReversed_of_closed closed]
    simp only [payOf, Nat.mul_zero, Nat.zero_mul, Nat.zero_add, Nat.add_zero]
    rfl

end Sys2Proof.Machine
end

section
/-! PROOFS. One finalization (Sections 8.4 and 8.5): the bounds of R136 for each kind of attendance, the credit of one bank as one update of
the record, and after them the statement. -/

namespace Sys2Proof.Machine

/-! ## The bounds of one tally (R136) -/

/-- The bounds of R136. -/
def TallyResult.Bounded (t : TallyResult) : Prop :=
  t.regular ≤ 960 ∧ t.overtime ≤ 480 ∧ t.night ≤ t.regular ∧ t.pay ≤ 3669960

/-- The largest pay is that of the largest minutes, rate and factors. -/
theorem payOf_le {p : TallyParams} (inTable : TallyInTable p) {rate regular overtime night : Nat} (rated : rate ≤ 65535)
    (regularFits : regular ≤ 960) (overtimeFits : overtime ≤ 480) (nightFits : night ≤ 960) :
    payOf p rate regular overtime night ≤ 3669960 := by
  obtain ⟨-, -, -, otFactor, nightFactor, -⟩ := inTable
  have regularPay : 8 * regular * rate ≤ 8 * 960 * 65535 := by gcongr
  have overtimePay : overtime * rate * p.otFactor ≤ 480 * 65535 * 24 := by gcongr
  have nightPay : night * rate * p.nightFactor ≤ 960 * 65535 * 8 := by gcongr
  unfold payOf
  omega

theorem le_paidStart (d : ShiftDef) {start stop : Nat} (ordered : start ≤ stop) (firstIn : Nat) :
    start ≤ paidStart d start stop firstIn := by
  unfold paidStart
  split
  · exact Nat.le_refl _
  · exact Nat.le_min.mpr ⟨ordered, Nat.le_add_right ..⟩

theorem paidStart_le (d : ShiftDef) {start stop : Nat} (ordered : start ≤ stop) (firstIn : Nat) :
    paidStart d start stop firstIn ≤ stop := by
  unfold paidStart
  split
  · exact ordered
  · exact Nat.min_le_left ..

theorem paidEnd_le (d : ShiftDef) {stop paidFrom : Nat} (ordered : paidFrom ≤ stop) (out : Nat) :
    paidEnd d stop paidFrom out ≤ stop := by
  unfold paidEnd
  split
  · exact Nat.le_refl _
  · exact Nat.max_le.mpr ⟨ordered, Nat.sub_le ..⟩

theorem scheduledOvertime_le (d : ShiftDef) (stop : Nat) (segments : List Segment) (out : Nat) :
    scheduledOvertime d stop segments out ≤ d.otCap := by
  unfold scheduledOvertime
  dsimp only
  split
  · exact Nat.min_le_left ..
  · exact Nat.zero_le _

/-- The paid span lies within the window, so a SCHEDULED attendance has at most L regular minutes. -/
theorem tallyScheduled_bounded {p : TallyParams} (inTable : TallyInTable p) {rate : Nat} (rated : rate ≤ 65535) {d : ShiftDef}
    (inShiftTable : ShiftInTable d) (start : Nat) (segments : List Segment) :
    (tallyScheduled p rate d start (start + d.length) segments).Bounded := by
  obtain ⟨-, -, lengthFits, -, -, -, -, -, capFits, -⟩ := inShiftTable
  have ordered : start ≤ start + d.length := Nat.le_add_right ..
  let ps := paidStart d start (start + d.length) (firstIn segments)
  let pr := paidEnd d (start + d.length) ps (finalOut segments)
  have startFits : start ≤ ps := le_paidStart d ordered _
  have endFits : pr ≤ start + d.length := paidEnd_le d (paidStart_le d ordered _) _
  have regularFits : countMinutes ps pr (paidMinute d start segments) ≤ 960 := by
    have counted := countMinutes_le ps pr (paidMinute d start segments)
    omega
  have nightFits := countMinutes_and_le ps pr (paidMinute d start segments) fun m => isNight p (m % 1440)
  have overtimeFits := (scheduledOvertime_le d (start + d.length) segments (finalOut segments)).trans capFits
  exact ⟨regularFits, overtimeFits, nightFits, payOf_le inTable rated regularFits overtimeFits (nightFits.trans regularFits)⟩

theorem tallyUnscheduled_bounded {p : TallyParams} (inTable : TallyInTable p) {rate : Nat} (rated : rate ≤ 65535)
    (segments : List Segment) : (tallyUnscheduled p rate segments).Bounded := by
  obtain ⟨-, -, -, -, -, -, -, capFits, -⟩ := id inTable
  have overtimeFits : (tallyUnscheduled p rate segments).overtime ≤ 480 := (Nat.min_le_left ..).trans capFits
  exact ⟨Nat.zero_le _, overtimeFits, Nat.le_refl _, payOf_le inTable rated (Nat.zero_le _) overtimeFits (Nat.zero_le _)⟩

theorem rates_getD_le {s : State} (inTable : s.CalendarInTable) (grade : Nat) : s.calendar.rates.getD grade 0 ≤ 65535 := by
  obtain ⟨-, -, -, rates⟩ := inTable
  by_cases inRange : grade < 16
  · exact (rates_getD_fin s.calendar ⟨grade, inRange⟩).trans_le (rates ⟨grade, inRange⟩)
  · simp [Vector.getD, inRange]

/-- An open SCHEDULED attendance has a definition in the table, and its E is L after its S (R19, R20, R21). -/
theorem openShift_inTable {s : State} (inTable : s.CalendarInTable) (counted : s.RefsCounted) {w : WorkerRecord} (member : w ∈ s.workers)
    {a : Attendance} (attended : w.attendance = some a) {code stop : Nat} (kind : a.kind = .scheduled code stop) :
    ∃ d, s.calendar.shiftOf code = some d ∧ ShiftInTable d ∧ stop = a.start + d.length := by
  have isOpen : w.openShift = some (code, a.start, stop) := by
    rw [WorkerRecord.openShift_some attended, Attendance.shift, kind]
  obtain ⟨low, high, d, defined, lasts⟩ := counted.2 w member _ isOpen
  have shiftFits := inTable.1 ⟨code - 1, by omega⟩ d
  rw [Nat.sub_add_cancel low] at shiftFits
  exact ⟨d, defined, shiftFits defined, lasts⟩

/-- Whatever its segments come to be, the tally of an attendance that is open stays in the bounds of R136. -/
theorem tally_bounded {s : State} (inTable : s.CalendarInTable) (counted : s.RefsCounted) {w : WorkerRecord} (member : w ∈ s.workers)
    {a : Attendance} (attended : w.attendance = some a) (segments : List Segment) :
    (tally s.calendar w.grade { a with segments := segments }).Bounded := by
  obtain ⟨-, -, params, -⟩ := id inTable
  have rated := rates_getD_le inTable w.grade
  cases kind : a.kind with
  | unscheduled =>
    rw [tally_unscheduled rfl]
    exact tallyUnscheduled_bounded params rated segments
  | scheduled code stop =>
    obtain ⟨d, defined, shiftFits, rfl⟩ := openShift_inTable inTable counted member attended kind
    rw [tally_scheduled rfl defined]
    exact tallyScheduled_bounded params rated shiftFits a.start segments

/-! ## The credit as one update of the record (R137, R138) -/

/-- The set with the anomaly in it where the condition holds. -/
def AnomalySet.addIf (x : AnomalySet) (cond : Bool) (a : Anomaly) : AnomalySet := if cond then x.add a else x

theorem AnomalySet.addIf_timeStepped (x : AnomalySet) (cond : Bool) :
    x.addIf cond .timeStepped = { x with timeStepped := x.timeStepped || cond } := by
  cases cond <;> simp [AnomalySet.addIf, AnomalySet.add]

theorem AnomalySet.addIf_saturated (x : AnomalySet) (cond : Bool) :
    x.addIf cond .saturated = { x with saturated := x.saturated || cond } := by
  cases cond <;> simp [AnomalySet.addIf, AnomalySet.add]

/-- The bank with the anomaly in its set where the condition holds. -/
def Bank.addAnomalyIf (b : Bank) (cond : Bool) (a : Anomaly) : Bank := { b with anomalies := b.anomalies.addIf cond a }

/-- An anomaly of an attendance enters the pending set and the bank of the attendance's tag, with the changed mark (R41, R43). -/
theorem raiseIf_eq_onBank (cond : Bool) (x : Anomaly) (tag : BankTag) (w : WorkerRecord) :
    raiseIf cond x (some tag) w = { w.onBank tag (·.addAnomalyIf cond x) with
      pendingSet := w.pendingSet.addIf cond x, changed := w.changed || cond } := by
  cases cond with
  | false => cases tag <;> simp [raiseIf, WorkerRecord.onBank, Bank.addAnomalyIf, AnomalySet.addIf]
  | true =>
    rw [raiseIf, if_pos rfl, raise_frame]
    cases tag <;> simp [WorkerRecord.onBank, Bank.addAnomalyIf, AnomalySet.addIf, Bank.addAnomaly]

/-- A change of the bank that a tag names leaves the other bank. -/
theorem WorkerRecord.onBank_eq (w : WorkerRecord) (tag : BankTag) (f : Bank → Bank) :
    w.onBank tag f = { w with
      current := if tag = .current then f (w.bank tag) else w.current
      closing := if tag = .closing then f (w.bank tag) else w.closing } := by
  cases tag <;> rfl

/-- A bank with one tally credited to it and the anomalies that the tally and the credit call for (R130, R137, R138). -/
def Bank.creditMarked (b : Bank) (t : TallyResult) (crew : Option Nat) : Bank :=
  ((b.addAnomalyIf t.stepped .timeStepped).credit t crew).addAnomalyIf (b.cutShort t) .saturated

/-- A credit changes the bank its tag names, the pending set and the changed mark alone. -/
theorem creditAttendance_eq_onBank (c : Calendar) (a : Attendance) (w : WorkerRecord) :
    let t := tally c w.grade a
    creditAttendance c a w = { w.onBank a.tag (·.creditMarked t a.crew) with
      pendingSet := (w.pendingSet.addIf t.stepped .timeStepped).addIf ((w.bank a.tag).cutShort t) .saturated, changed := true } := by
  simp only [creditAttendance, raiseIf_eq_onBank]
  cases a.tag <;> rfl

theorem Bank.cutShort_eq (b : Bank) (t : TallyResult) :
    b.cutShort t = decide (65535 < b.regular + t.regular ∨ 65535 < b.overtime + t.overtime ∨ 65535 < b.night + t.night ∨
      99999999 < b.pay + t.pay ∨ 255 < b.count + 1) := by
  rw [Bool.eq_iff_iff]
  simp only [Bank.cutShort, Bool.or_eq_true, decide_eq_true_eq, or_assoc]
  exact Iff.rfl

/-- The sums of R137, each held at its limit, and the two anomalies of R130 and R138. -/
theorem Bank.creditMarked_eq (b : Bank) (t : TallyResult) (crew : Option Nat) :
    b.creditMarked t crew =
      { regular := min 65535 (b.regular + t.regular), overtime := min 65535 (b.overtime + t.overtime)
        night := min 65535 (b.night + t.night), pay := min 99999999 (b.pay + t.pay), count := min 255 (b.count + 1)
        crew := if b.crew = none then crew else b.crew
        anomalies := { b.anomalies with
          timeStepped := b.anomalies.timeStepped || t.stepped, saturated := b.anomalies.saturated || b.cutShort t } } := by
  have crewOf : b.crew.or crew = if b.crew = none then crew else b.crew := by cases b.crew <;> rfl
  simp only [Bank.creditMarked, Bank.addAnomalyIf, AnomalySet.addIf_timeStepped, AnomalySet.addIf_saturated, Bank.credit, crewOf,
    Config.minutesLimit, Config.payLimit, Config.countLimit]

/-- Settles O42: the bounds by the kind of the attendance, and the credit as one update of the record. -/
theorem creditAddsOneBoundedTallyToOneBank : Obligations.CreditAddsOneBoundedTallyToOneBank := by
  unfold Obligations.CreditAddsOneBoundedTallyToOneBank
  refine ⟨fun s inTable counted w member a attended segments => tally_bounded inTable counted member attended segments,
    fun c a w => ?_⟩
  intro t b cut credited
  have cutShort : b.cutShort t = cut := b.cutShort_eq t
  have bank : b.creditMarked t a.crew = credited := by
    rw [Bank.creditMarked_eq, cutShort]
  rw [creditAttendance_eq_onBank, WorkerRecord.onBank_eq, AnomalySet.addIf_timeStepped, AnomalySet.addIf_saturated]
  change { w with
    changed := true, pendingSet := { w.pendingSet with
      timeStepped := w.pendingSet.timeStepped || t.stepped, saturated := w.pendingSet.saturated || b.cutShort t }
    current := if a.tag = BankTag.current then b.creditMarked t a.crew else w.current
    closing := if a.tag = BankTag.closing then b.creditMarked t a.crew else w.closing } = _
  rw [cutShort, bank]

end Sys2Proof.Machine
end

section
/-! PROOFS. The close stream (Sections 9.3, 9.4): its totals as sums over the worker records and over the crews; and after it the
statement. -/

namespace Sys2Proof.Machine

/-! ## Rows of sums (R144, Table 9.3) -/

/-- The field of a summary holds, in every row of sums, the sum of the field of a bank (Table 9.3). -/
def TotalsField (ofRow : Summary → Nat) (ofBank : Bank → Nat) : Prop :=
  ∀ (row : Summary) (ws : List WorkerRecord), row.Sums ws → ofRow row = closingSum ws ofBank

/-- The seven quantities of a row (Table 9.3). -/
theorem totalsField_seven :
    TotalsField (·.workers) (fun _ => 1) ∧ TotalsField (·.regular) (·.regular) ∧ TotalsField (·.overtime) (·.overtime) ∧
      TotalsField (·.night) (·.night) ∧ TotalsField (·.pay) (·.pay) ∧ TotalsField (·.count) (·.count) ∧
      TotalsField (·.anomalyWorkers) (fun b => if b.anomalies = AnomalySet.empty then 0 else 1) := by
  have marked : ∀ ws : List WorkerRecord, (ws.countP fun w => w.closing.anomalies != AnomalySet.empty) =
      closingSum ws fun b => if b.anomalies = AnomalySet.empty then 0 else 1 := by
    intro ws
    induction ws with
    | nil => rfl
    | cons w rest ih =>
      rw [List.countP_cons, ih]
      by_cases none : w.closing.anomalies = AnomalySet.empty
      · simp [closingSum, none]
      · simp [closingSum, none, Nat.add_comm]
  refine ⟨?_, ?_, ?_, ?_, ?_, ?_, ?_⟩ <;> intro row ws sums <;>
    obtain ⟨workers, regular, overtime, night, pay, count, anomalies⟩ := sums
  · simp [workers, closingSum]
  · exact regular
  · exact overtime
  · exact night
  · exact pay
  · exact count
  · exact anomalies.trans (marked ws)

/-- Every record is summed under one crew: the sums crew by crew add up to the sum of all (R144). -/
theorem sum_closingSum_filter {n : Nat} {key : WorkerRecord → Nat} (f : Bank → Nat) {ws : List WorkerRecord}
    (inRange : ∀ w ∈ ws, key w < n) :
    ((List.range n).map fun c => closingSum (ws.filter fun w => key w == c) f).sum = closingSum ws f := by
  induction ws with
  | nil => simp [closingSum]
  | cons w rest ih =>
    obtain ⟨here, later⟩ := List.forall_mem_cons.mp inRange
    have one : ∀ c, closingSum ((w :: rest).filter fun w => key w == c) f =
        (if key w = c then f w.closing else 0) + closingSum (rest.filter fun w => key w == c) f := by
      intro c
      rw [List.filter_cons]
      by_cases hit : key w = c
      · simp [closingSum, hit]
      · simp [hit]
    have single : ((List.range n).map fun c => if key w = c then f w.closing else 0).sum = f w.closing := by
      change ∑ c ∈ Finset.range n, (if key w = c then f w.closing else 0) = f w.closing
      rw [Finset.sum_ite_eq, if_pos (Finset.mem_range.mpr here)]
    simp only [one]
    rw [List.sum_map_add, ih later, single]
    simp [closingSum]

/-! ## The totals of the stream (R146) -/

/-- The quantity of a stream record that is a crew summary, and 0 of any other. -/
def StreamRecord.ofSummary (f : Summary → Nat) : StreamRecord → Nat
  | .crewSummary _ row => f row
  | _ => 0

/-- The quantity of a stream record of a worker, and 0 of any other. -/
def StreamRecord.ofWorker (f : Bank → Nat) : StreamRecord → Nat
  | .worker _ bank => f bank
  | _ => 0

/-- The quantities of the crew summaries of the stream are those of the nine rows. -/
theorem closeStream_ofSummary (s : State) (f : Summary → Nat) :
    (s.closeStream.map (StreamRecord.ofSummary f)).sum =
      ((List.range 9).map fun c => f (s.period.crews.getD c Summary.zero)).sum := by
  simp [State.closeStream, StreamRecord.ofSummary, Function.comp_def]

/-- The quantities of the worker records of the stream are those of the CLOSING banks. -/
theorem closeStream_ofWorker (s : State) (f : Bank → Nat) :
    (s.closeStream.map (StreamRecord.ofWorker f)).sum = closingSum s.closingRecords f := by
  simp [State.closeStream, StreamRecord.ofWorker, Function.comp_def, closingSum]

theorem closeStream_length (s : State) : s.closeStream.length = s.closingRecords.length + 11 := by
  simp only [State.closeStream, List.length_append, List.length_map, List.length_range, List.length_singleton]
  omega

/-- A bank is summed under one of the crews 0 to 8 (R138, R144). -/
theorem closingRecords_crew {s : State} (bounded : s.BanksBounded) : ∀ w ∈ s.closingRecords, w.closing.crew.getD 0 < 9 := by
  intro w member
  obtain ⟨-, closing, -⟩ := bounded w (List.mem_of_mem_filter member)
  cases crew : w.closing.crew with
  | none => decide
  | some c =>
    obtain ⟨-, high⟩ := closing.1 c crew
    exact Nat.lt_succ_of_le high

/-- The grand total of one quantity is the sum of the crew summaries, and the sum over the worker records (R146). -/
theorem grand_agrees {s : State} (stands : s.SumsStand) (bounded : s.BanksBounded) {ofRow : Summary → Nat} {ofBank : Bank → Nat}
    (field : TotalsField ofRow ofBank) :
    ofRow s.period.grand = (s.closeStream.map (StreamRecord.ofSummary ofRow)).sum ∧
      ofRow s.period.grand = (s.closeStream.map (StreamRecord.ofWorker ofBank)).sum := by
  obtain ⟨-, grand, crews⟩ := stands
  have total := field _ _ grand
  have row : ∀ c ∈ List.range 9, ofRow (s.period.crews.getD c Summary.zero) =
      closingSum (s.closingRecords.filter fun w => w.closing.crew.getD 0 == c) ofBank := by
    intro c member
    have isCrew := List.mem_range.mp member
    rw [← field _ _ (crews ⟨c, isCrew⟩)]
    simp [Vector.getD, isCrew]
  rw [closeStream_ofSummary, closeStream_ofWorker, List.map_congr_left row, sum_closingSum_filter ofBank (closingRecords_crew bounded)]
  exact ⟨total, total⟩

/-- Settles O44: the quantities one by one, each the sum over the crews and over the workers. -/
theorem streamTotalsAgree : Obligations.StreamTotalsAgree := by
  unfold Obligations.StreamTotalsAgree
  intro s standing bounded closed grand agree
  obtain ⟨stands, -⟩ := standing.2 closed
  obtain ⟨workers, regular, overtime, night, pay, count, anomalies⟩ := totalsField_seven
  have agrees : ∀ (ofRow : Summary → Nat) (ofBank : Bank → Nat), TotalsField ofRow ofBank → agree (ofRow grand) ofRow ofBank :=
    fun _ _ field => grand_agrees stands bounded field
  refine ⟨?_, agrees _ _ workers, agrees _ _ regular, agrees _ _ overtime, agrees _ _ night, agrees _ _ pay, agrees _ _ count,
    agrees _ _ anomalies⟩
  rw [closeStream_length, ← stands.1]
  exact List.getLast?_concat

end Sys2Proof.Machine
end

section
/-! PROOFS. The delivery of the close stream (Sections 9.4 to 9.6): the record at the cursor, a reading of several records, and after them
the statement of CLOSE_READ and CLOSE_RELEASE. -/

namespace Sys2Proof.Machine

/-! ## The record at the cursor (R146, R147) -/

/-- A stream that is read: the totals and the cursor stand in READY or DRAINED (R144 to R147). -/
structure State.Reading (s : State) : Prop where
  state : s.period.state = .ready ∨ s.period.state = .drained
  sums : s.SumsStand
  cursor : s.CursorStands

theorem State.StreamStands.reading {s : State} (stands : s.StreamStands) (state : s.period.state = .ready ∨ s.period.state = .drained) :
    s.Reading :=
  ⟨state, (stands.2 state).1, (stands.2 state).2⟩

theorem State.Reading.stands {s : State} (reading : s.Reading) : s.StreamStands := by
  obtain ⟨state, sums, cursor⟩ := reading
  refine ⟨fun free => ?_, fun _ => ⟨sums, cursor⟩⟩
  rw [free] at state
  obtain h | h := state <;> cases h

/-- The badge of the last of the first `i` records, or 0: what the cursor knows of the workers it has passed (R147). -/
def lastBadge (ws : List WorkerRecord) (i : Nat) : Nat := ((ws.take i).getLast?.map (·.badge)).getD 0

theorem lastBadge_succ {ws : List WorkerRecord} {i : Nat} {w : WorkerRecord} (at_i : ws[i]? = some w) : lastBadge ws (i + 1) = w.badge := by
  rw [lastBadge, List.take_add_one, at_i]
  simp

theorem lastBadge_of_length_le {ws : List WorkerRecord} {i j : Nat} (hi : ws.length ≤ i) (hj : ws.length ≤ j) :
    lastBadge ws i = lastBadge ws j := by
  rw [lastBadge, lastBadge, List.take_of_length_le hi, List.take_of_length_le hj]

/-- The first record beyond the badge of the last of the first `i` is the one after those (R147). -/
theorem find_beyond_lastBadge {ws : List WorkerRecord} (ascend : BadgesAscend ws) (positive : ∀ w ∈ ws, 1 ≤ w.badge) (i : Nat) :
    (ws.find? fun w => lastBadge ws i < w.badge) = ws[i]? := by
  have split : ws.take i ++ ws.drop i = ws := List.take_append_drop i ws
  have parts := ascend
  rw [← split] at parts
  obtain ⟨early, -, cross⟩ := List.pairwise_append.mp parts
  have passed : ∀ w ∈ ws.take i, w.badge ≤ lastBadge ws i := by
    intro w member
    obtain ⟨before, z, last⟩ := List.eq_nil_or_concat (ws.take i) |>.resolve_left (List.ne_nil_of_mem member)
    have badge : lastBadge ws i = z.badge := by simp [lastBadge, last]
    rw [badge]
    rw [last] at member early
    rw [List.concat_eq_append] at member early
    obtain inBefore | last_one := List.mem_append.mp member
    · exact Nat.le_of_lt ((List.pairwise_append.mp early).2.2 w inBefore z (by simp))
    · rw [List.mem_singleton.mp last_one]
  have ahead : ∀ w ∈ ws.drop i, lastBadge ws i < w.badge := by
    intro w member
    unfold lastBadge
    cases last : (ws.take i).getLast? with
    | none => exact positive w (List.mem_of_mem_drop member)
    | some z => exact cross z (List.mem_of_getLast? last) w member
  have none_early : (ws.take i).find? (fun w => lastBadge ws i < w.badge) = none := by
    simpa using passed
  calc (ws.find? fun w => lastBadge ws i < w.badge)
      = (ws.take i ++ ws.drop i).find? fun w => lastBadge ws i < w.badge := by rw [split]
    _ = (ws.drop i).find? fun w => lastBadge ws i < w.badge := by rw [List.find?_append, none_early, Option.none_or]
    _ = (ws.drop i).head? := by
      cases rest : ws.drop i with
      | nil => rfl
      | cons w later => simp [ahead w (by simp [rest])]
    _ = ws[i]? := by rw [List.head?_drop]

/-- The badges of an ordered table's closing records ascend too, each positive (R33). -/
theorem closingRecords_ordered {s : State} (ordered : s.WorkersOrdered) :
    BadgesAscend s.closingRecords ∧ ∀ w ∈ s.closingRecords, 1 ≤ w.badge :=
  ⟨ordered.2.1.sublist List.filter_sublist, fun w member => (ordered.2.2 w (List.mem_of_mem_filter member)).1⟩

/-- The part with the cursor one record on, the badge in it, and the state DRAINED after the last record (R147). -/
def State.advanced (s : State) (badge : Nat) : State :=
  { s with period := { s.period with
      cursor := s.period.cursor + 1, cursorBadge := badge
      state := if s.period.cursor == s.period.recordCount then .drained else s.period.state } }

theorem deliver_succ_some {k : Nat} {s : State} {r : StreamRecord} {badge : Nat} (next : s.streamNext = some (r, badge)) :
    deliver (k + 1) s = ((deliver k (s.advanced badge)).1, r :: (deliver k (s.advanced badge)).2) := by
  rw [deliver, next]
  rfl

theorem deliver_succ_none {k : Nat} {s : State} (next : s.streamNext = none) : deliver (k + 1) s = (s, []) := by
  rw [deliver, next]

/-- A delivery stays in READY and DRAINED (R147). -/
theorem deliver_state (k : Nat) : ∀ s : State, s.period.state = .ready ∨ s.period.state = .drained →
    (deliver k s).1.period.state = .ready ∨ (deliver k s).1.period.state = .drained := by
  induction k with
  | zero => exact fun _ closed => closed
  | succ k ih =>
    intro s closed
    cases next : s.streamNext with
    | none =>
      rw [deliver_succ_none next]
      exact closed
    | some x =>
      rw [deliver_succ_some (r := x.1) (badge := x.2) next]
      refine ih _ ?_
      simp only [State.advanced]
      split
      · exact .inr rfl
      · exact closed

/-- The stream at the cursor: the start, a crew summary, a worker's record or the end, by the place (Table 9.4). -/
theorem closeStream_get (s : State) (count : s.period.workerCount = s.closingRecords.length) {i : Nat} :
    s.closeStream[i]? =
      if i = 0 then some (.periodStart s.period.number s.period.previous s.period.boundary s.period.workerCount)
      else if i ≤ 9 then some (.crewSummary (i - 1) (s.period.crews.getD (i - 1) Summary.zero))
      else if i ≤ s.period.workerCount + 9 then (s.closingRecords[i - 10]?).map fun w => .worker w.badge w.closing
      else if i = s.period.workerCount + 10 then some (.periodEnd s.period.grand (s.period.workerCount + 11))
      else none := by
  simp only [State.closeStream, List.getElem?_append, List.length_append, List.length_map, List.length_range, List.length_singleton,
    List.getElem?_map, ← count]
  split_ifs <;> try omega
  case pos start => rw [start]; rfl
  case pos inCrews => rw [List.getElem?_range (by omega)]; rfl
  case pos => rfl
  case pos last =>
    rw [show i - (1 + 9 + s.period.workerCount) = 0 by omega]
    rfl
  case neg apart => exact List.getElem?_eq_none (by simp only [List.length_singleton]; omega)

/-- What is delivered at the cursor is the record of the stream in its place, with the badge that the cursor knows after it (R147). -/
theorem streamNext_eq {s : State} (ordered : s.WorkersOrdered) (reading : s.Reading) :
    s.streamNext = (s.closeStream[s.period.cursor - 1]?).map fun r => (r, lastBadge s.closingRecords (s.period.cursor + 1 - 11)) := by
  obtain ⟨state, ⟨count, -, -⟩, positive, -, -, badge⟩ := reading
  obtain ⟨ascend, badges⟩ := closingRecords_ordered ordered
  replace badge : s.period.cursorBadge = lastBadge s.closingRecords (s.period.cursor - 11) := badge
  have before_workers : s.period.cursor ≤ 10 → s.period.cursorBadge = lastBadge s.closingRecords (s.period.cursor + 1 - 11) := by
    intro early
    rw [badge, Nat.sub_eq_zero_of_le (by omega), Nat.sub_eq_zero_of_le (by omega)]
  rw [closeStream_get s count]
  unfold State.streamNext PeriodUnit.recordCount
  dsimp only
  by_cases start : s.period.cursor = 1
  · rw [if_pos start, if_pos (show s.period.cursor - 1 = 0 by omega), before_workers (by omega)]
    rfl
  rw [if_neg start, if_neg (show ¬ s.period.cursor - 1 = 0 by omega)]
  by_cases crews : s.period.cursor ≤ 10
  · have inCrews : within 2 s.period.cursor 10 = true := (within_iff ..).mpr (by omega)
    rw [if_pos inCrews, if_pos (show s.period.cursor - 1 ≤ 9 by omega), before_workers crews]
    rfl
  have pastCrews : ¬ within 2 s.period.cursor 10 = true := by
    rw [within_iff]
    omega
  rw [if_neg pastCrews, if_neg (show ¬ s.period.cursor - 1 ≤ 9 by omega)]
  by_cases workers : s.period.cursor ≤ s.period.workerCount + 10
  · have found := find_beyond_lastBadge ascend badges (s.period.cursor - 11)
    rw [if_pos workers, if_pos (show s.period.cursor - 1 ≤ s.period.workerCount + 9 by omega), badge, found,
      show s.period.cursor - 1 - 10 = s.period.cursor - 11 by omega, Option.map_map]
    cases at_cursor : s.closingRecords[s.period.cursor - 11]? with
    | none => rfl
    | some w =>
      have passed := lastBadge_succ at_cursor
      rw [show s.period.cursor - 11 + 1 = s.period.cursor + 1 - 11 by omega] at passed
      rw [Option.map_some, Option.map_some, Function.comp_apply, passed]
  rw [if_neg workers, if_neg (show ¬ s.period.cursor - 1 ≤ s.period.workerCount + 9 by omega)]
  by_cases last : s.period.cursor = s.period.workerCount + 11
  · rw [if_pos last, if_pos (show s.period.cursor - 1 = s.period.workerCount + 10 by omega), badge,
      lastBadge_of_length_le (j := s.period.cursor + 1 - 11) (by omega) (by omega)]
    rfl
  · rw [if_neg last, if_neg (show ¬ s.period.cursor - 1 = s.period.workerCount + 10 by omega)]
    rfl

/-! ## A reading of several records (R147, R148) -/

/-- The cursor of a stream that is read stands at one of its records, or in DRAINED past the last (R147). -/
theorem State.Reading.cursor_le {s : State} (reading : s.Reading) :
    s.period.cursor ≤ s.closeStream.length + 1 ∧
      s.period.state = if s.period.cursor = s.closeStream.length + 1 then .drained else .ready := by
  obtain ⟨state, ⟨count, -, -⟩, -, ready, drained, -⟩ := reading
  rw [closeStream_length, ← count]
  obtain isReady | isDrained := state
  · have := ready isReady
    exact ⟨by omega, by rw [if_neg (by omega), isReady]⟩
  · have := drained isDrained
    exact ⟨by omega, by rw [if_pos (by omega), isDrained]⟩

/-- One record delivered leaves a stream that is read, the same one (R147). -/
theorem State.Reading.advanced {s : State} (reading : s.Reading) (more : s.period.cursor ≤ s.closeStream.length) :
    (s.advanced (lastBadge s.closingRecords (s.period.cursor + 1 - 11))).Reading := by
  have state := reading.cursor_le.2
  rw [if_neg (by omega)] at state
  have length := closeStream_length s
  obtain ⟨-, sums, -⟩ := reading
  have count := sums.1
  have after : (s.advanced (lastBadge s.closingRecords (s.period.cursor + 1 - 11))).period.state =
      if s.period.cursor = s.period.workerCount + 11 then .drained else .ready := by
    simp only [State.advanced, PeriodUnit.recordCount, beq_iff_eq, state]
  refine ⟨?_, sums, Nat.le_add_left 1 _, fun isReady => ?_, fun isDrained => ?_, rfl⟩
  · rw [after]
    split
    · exact .inr rfl
    · exact .inl rfl
  · rw [after] at isReady
    split at isReady
    · cases isReady
    · simp only [State.advanced]
      omega
  · rw [after] at isDrained
    split at isDrained
    · simp only [State.advanced]
      omega
    · cases isDrained

/-- A delivery gives the next records of the stream, as many as asked for and left, and moves the cursor past them (R147). -/
theorem deliver_eq {s : State} (ordered : s.WorkersOrdered) (reading : s.Reading) (k : Nat) :
    (deliver k s).2 = (s.closeStream.drop (s.period.cursor - 1)).take k ∧
      (deliver k s).1.period.cursor = s.period.cursor + (deliver k s).2.length ∧ (deliver k s).1.Reading := by
  induction k generalizing s with
  | zero => exact ⟨by simp [deliver], by simp [deliver], reading⟩
  | succ k ih =>
    have next := streamNext_eq ordered reading
    have positive := reading.cursor.1
    by_cases more : s.period.cursor ≤ s.closeStream.length
    · have inStream : s.period.cursor - 1 < s.closeStream.length := by omega
      rw [List.getElem?_eq_getElem inStream, Option.map_some] at next
      obtain ⟨given, cursor, later⟩ := ih (s := s.advanced (lastBadge s.closingRecords (s.period.cursor + 1 - 11))) ordered
        (reading.advanced more)
      rw [deliver_succ_some next]
      refine ⟨?_, ?_, later⟩
      · dsimp only
        rw [given, List.drop_eq_getElem_cons inStream, List.take_succ_cons, Nat.sub_add_cancel positive]
        rfl
      · dsimp only
        rw [cursor, List.length_cons]
        simp only [State.advanced]
        omega
    · rw [List.getElem?_eq_none (by omega), Option.map_none] at next
      rw [deliver_succ_none next]
      exact ⟨by rw [List.drop_eq_nil_of_le (by omega), List.take_nil], rfl, reading⟩

/-- A rewind leaves a stream that is read, the same one (R148). -/
theorem State.Reading.rewind {s : State} (reading : s.Reading) : (rewindStream s).Reading := by
  obtain ⟨-, sums, -⟩ := reading
  exact ⟨.inl rfl, sums, Nat.le_refl 1, fun _ => Nat.le_add_left .., fun drained => (nomatch drained), rfl⟩

/-- A delivery moves the cursor and takes the state from it, and touches nothing else (R147). -/
theorem deliver_walks {s : State} (ordered : s.WorkersOrdered) (reading : s.Reading) (k : Nat) :
    let given := (s.closeStream.drop (s.period.cursor - 1)).take k
    let after := s.period.cursor + given.length
    (deliver k s).2 = given ∧ (deliver k s).1.Reading ∧
      (deliver k s).1 = { s with period := { s.period with
        state := if after = s.closeStream.length + 1 then .drained else .ready, cursor := after
        cursorBadge := (deliver k s).1.period.cursorBadge } } := by
  obtain ⟨given, cursor, later⟩ := deliver_eq ordered reading k
  have frame := (deliver_frame k s).1
  have state := later.cursor_le.2
  have same : (deliver k s).1.closeStream = s.closeStream := by
    rw [frame]
    rfl
  rw [same, cursor, given] at state
  refine ⟨given, later, ?_⟩
  rw [← state, ← given, ← cursor]
  exact frame

/-! ## CLOSE_READ and CLOSE_RELEASE (R147 to R149) -/

section
variable {s : State} (ready : s.Ready) (tag : Nat)
include ready

theorem exec_closeRead_badValue {k : Nat} (outside : k < 1 ∨ 8 < k) (rewind : Bool) :
    exec (.closeRead tag k rewind) s = .next (s.answered 0x51 tag .badValue .nothing) := by
  have request : exec (.closeRead tag k rewind) s = execCloseRead tag k rewind s := rfl
  have refused : within 1 k 8 = false := by
    rw [← Bool.not_eq_true, within_iff]
    omega
  rw [request, execCloseRead, serve_ready ready]
  simp only [refused]
  rfl

theorem exec_closeRead_notReady {k : Nat} (inside : 1 ≤ k ∧ k ≤ 8) (rewind : Bool)
    (unclosed : s.period.state = .free ∨ s.period.state = .pending) :
    exec (.closeRead tag k rewind) s = .next (s.answered 0x51 tag .notReady .nothing) := by
  have request : exec (.closeRead tag k rewind) s = execCloseRead tag k rewind s := rfl
  rw [request, execCloseRead, serve_ready ready]
  simp only [(within_iff ..).mpr inside, if_pos unclosed]
  rfl

/-- The part that the delivery starts from: rewound where the request says so (R148). -/
def State.rewoundIf (s : State) (rewind : Bool) : State := if rewind then rewindStream s else s

theorem exec_closeRead_delivers {k : Nat} (inside : 1 ≤ k ∧ k ≤ 8) (rewind : Bool)
    (closed : s.period.state = .ready ∨ s.period.state = .drained) :
    exec (.closeRead tag k rewind) s = .next (
      let u := s.rewoundIf rewind
      let r := deliver k u
      r.1.answered 0x51 tag .ok (.stream (if r.2.isEmpty then (Config.firstOfNone u.period.recordCount).toNat else u.period.cursor) r.2
        u.period.recordCount r.1.period.state)) := by
  have request : exec (.closeRead tag k rewind) s = execCloseRead tag k rewind s := rfl
  have closed' : ¬ (s.period.state = .free ∨ s.period.state = .pending) := by
    obtain h | h := closed <;> simp [h]
  rw [request, execCloseRead, serve_ready ready]
  simp only [(within_iff ..).mpr inside, if_neg closed']
  rfl

theorem exec_closeRelease :
    exec (.closeRelease tag) s = .next (
      if s.period.state = .drained then
        State.answered { s with
          workers := s.workers.map fun w => { w with closing := Bank.empty }
          period := ⟨.free, s.period.boundary, s.period.boundary, s.period.number, 0, Vector.replicate 9 ⟨0, 0, 0, 0, 0, 0, 0⟩,
            ⟨0, 0, 0, 0, 0, 0, 0⟩, 0, 1, 0⟩ } 0x52 tag .ok (.periodReleased s.period.number s.period.boundary)
      else s.answered 0x52 tag .notDrained .nothing) := by
  have request : exec (.closeRelease tag) s = execCloseRelease tag s := rfl
  rw [request, execCloseRelease, serve_ready ready]
  by_cases drained : s.period.state = .drained
  · rw [if_pos drained, if_neg (not_not.mpr drained)]
    rfl
  · rw [if_neg drained, if_pos drained]
    rfl

end

/-- A rewind changes the cursor alone, and the stream not (R148). -/
theorem State.Reading.rewoundIf {s : State} (reading : s.Reading) (rewind : Bool) :
    (s.rewoundIf rewind).Reading ∧ (s.rewoundIf rewind).period.cursor = (if rewind then 1 else s.period.cursor) ∧
      (s.rewoundIf rewind).closeStream = s.closeStream := by
  cases rewind
  · exact ⟨reading, rfl, rfl⟩
  · exact ⟨reading.rewind, rfl, rfl⟩

/-- Settles O45: the refusals, the delivery from the cursor or from the start, and the release. -/
theorem closeReadWalksTheStream : Obligations.CloseReadWalksTheStream := by
  unfold Obligations.CloseReadWalksTheStream
  intro s tag k rewind ready ordered stands
  refine ⟨fun outside => exec_closeRead_badValue ready tag outside rewind,
    fun low high unclosed => exec_closeRead_notReady ready tag ⟨low, high⟩ rewind unclosed, fun low high closed => ?_,
    exec_closeRelease ready tag⟩
  obtain ⟨reading, cursor, stream⟩ := (stands.reading closed).rewoundIf rewind
  have ordered' : (s.rewoundIf rewind).WorkersOrdered := by cases rewind <;> exact ordered
  have walked := deliver_walks ordered' reading k
  have count : (s.rewoundIf rewind).period.recordCount = s.closeStream.length := by
    rw [← stream, closeStream_length, ← reading.sums.1]
    rfl
  have empty : ∀ l : List StreamRecord, ∀ x y : Nat, (if l.isEmpty = true then x else y) = if l = [] then x else y := by
    intro l x y
    cases l <;> rfl
  rw [cursor, stream] at walked
  obtain ⟨given, later, part⟩ := walked
  refine ⟨_, exec_closeRead_delivers ready tag ⟨low, high⟩ rewind closed, ?_⟩
  dsimp only
  rw [given, cursor, count, empty]
  generalize (deliver k (s.rewoundIf rewind)).1 = t at *
  have same : ∀ p : PeriodUnit, { s.rewoundIf rewind with period := p } = { s with period := p } := by
    cases rewind <;> exact fun _ => rfl
  have unit : ∀ (state : BankState) (cursor badge : Nat), { (s.rewoundIf rewind).period with
      state := state, cursor := cursor, cursorBadge := badge } =
      { s.period with state := state, cursor := cursor, cursorBadge := badge } := by
    cases rewind <;> exact fun _ _ _ => rfl
  rw [same, unit] at part
  refine ⟨?_, congrArg State.period part, ?_, later.stands, ?_⟩
  · rw [part]
    rfl
  · rw [part]
    rfl
  · rw [part]
    rfl

end Sys2Proof.Machine
end

section
/-! PROOFS. The close of a period (Sections 9.1 to 9.3): the attendances tagged, the READY event, and after them the statement of
PERIOD_CLOSE and READY_EVENT. -/

namespace Sys2Proof.Machine

/-! ## The READY event (R144) -/

/-- A report queued where there is room is the newest of the queue (R169). -/
theorem reported_queue {s t : State} {r : Report} (link : t.link.reports = (s.link.queue r).reports) : s.Reported t r := by
  intro room
  rw [link, StationLink.queue, if_pos (show s.link.reports.length < Config.reportPlaces from room)]

theorem readyIfDue_due {s : State} (pending : s.period.state = .pending) (none_open : s.period.counter = 0) :
    readyIfDue s = readyEvent s := if_pos ⟨pending, none_open⟩

theorem readyIfDue_not_due {s : State} (notDue : s.period.state ≠ .pending ∨ s.period.counter ≠ 0) : readyIfDue s = s :=
  if_neg fun due => notDue.elim (· due.1) (· due.2)

/-- The READY event changes the Period Unit, with the cursor at the start of the stream, and queues its report (R144). -/
theorem readyEvent_eq (s : State) :
    readyEvent s = { s with
      period := { s.period with
        state := .ready, crews := (readyEvent s).period.crews, grand := (readyEvent s).period.grand
        workerCount := s.closingRecords.length, cursor := 1, cursorBadge := 0 }
      link := s.link.queue (.closeReady s.period.number s.period.boundary s.closingRecords.length (s.closingRecords.length + 11)
        s.plantSecond) } := by
  simp only [readyEvent, List.length_map]
  rfl

/-! ## PERIOD_CLOSE (R141) -/

/-- Where no attendance is tagged CLOSING, the close tags those that began before the boundary (R141, R142). -/
theorem countP_closeRecord {ws : List WorkerRecord} (untagged : ws.countP (·.taggedClosing) = 0) (boundary : Nat) :
    (ws.map (closeRecord boundary)).countP (·.taggedClosing) = ws.countP fun w => w.attendance.any fun a => a.start < boundary := by
  rw [List.countP_map]
  refine List.countP_congr fun w member => ?_
  have free := List.countP_eq_zero.mp untagged w member
  unfold WorkerRecord.taggedClosing at free
  simp only [Function.comp_apply, WorkerRecord.taggedClosing, closeRecord]
  cases attended : w.attendance with
  | none => rfl
  | some a =>
    rw [attended] at free
    by_cases early : a.start < boundary
    · simp [Attendance.retag, early]
    · simpa [Attendance.retag, early] using free

/-- In FREE the open-closing counter of the law is 0, and so no attendance is tagged (R143). -/
theorem State.ClosingCounted.untagged {s : State} (counted : s.ClosingCounted) (settled : s.period.state ≠ .pending) :
    s.workers.countP (·.taggedClosing) = 0 := counted.1.symm.trans (counted.2 settled)

section
variable {s : State} (ready : s.Ready) (tag : Nat) {number : Nat}
include ready

theorem exec_periodClose_badValue (outside : number < 1 ∨ 65535 < number) :
    exec (.periodClose tag number) s = .next (s.answered 0x50 tag .badValue .nothing) := by
  have request : exec (.periodClose tag number) s = execPeriodClose tag number s := rfl
  have refused : within 1 number 65535 = false := by
    rw [← Bool.not_eq_true, within_iff]
    omega
  rw [request, execPeriodClose, serve_ready ready]
  simp only [refused]
  rfl

section
variable (inside : 1 ≤ number ∧ number ≤ 65535)
include inside

theorem exec_periodClose_busy (closed : s.period.state ≠ .free) :
    exec (.periodClose tag number) s = .next (s.answered 0x50 tag .busy .nothing) := by
  have request : exec (.periodClose tag number) s = execPeriodClose tag number s := rfl
  rw [request, execPeriodClose, serve_ready ready]
  simp only [(within_iff ..).mpr inside, if_pos closed]
  rfl

theorem exec_periodClose_unset (free : s.period.state = .free) (unset : s.time.validity = .unset) :
    exec (.periodClose tag number) s = .next (s.answered 0x50 tag .state .nothing) := by
  have request : exec (.periodClose tag number) s = execPeriodClose tag number s := rfl
  rw [request, execPeriodClose, serve_ready ready]
  simp only [(within_iff ..).mpr inside, if_neg (not_not.mpr free), if_pos unset]
  rfl

theorem exec_periodClose_closes (free : s.period.state = .free) (set : s.time.validity = .set) :
    exec (.periodClose tag number) s = .next (
      let u := readyIfDue (closePeriod number s)
      u.answered 0x50 tag .ok (.periodClosed u.period.boundary u.period.number u.period.counter u.period.state)) := by
  have request : exec (.periodClose tag number) s = execPeriodClose tag number s := rfl
  have timed : ¬ s.time.validity = .unset := by
    rw [set]
    exact fun h => nomatch h
  rw [request, execPeriodClose, serve_ready ready]
  simp only [(within_iff ..).mpr inside, if_neg (not_not.mpr free), if_neg timed]
  rfl

end
end

/-- The attendances open at the close that began before its boundary (R141). -/
def State.leftOpen (s : State) : Nat := s.workers.countP fun w => w.attendance.any fun a => a.start < s.plantMinute

/-- The part at the close event: the banks swapped, the attendances tagged and counted, and the unit PENDING (R141). -/
def State.closed (s : State) (number : Nat) : State :=
  { s with
    workers := s.workers.map (closeRecord s.plantMinute)
    period := { s.period with state := .pending, boundary := s.plantMinute, number := number, counter := s.leftOpen } }

theorem closePeriod_eq {s : State} (counted : s.ClosingCounted) (settled : s.period.state ≠ .pending) (number : Nat) :
    closePeriod number s = s.closed number := by
  rw [State.closed, State.leftOpen, ← countP_closeRecord (counted.untagged settled) s.plantMinute]
  rfl

/-- Settles O43: the checks in their order, the close with and without an attendance left open, and READY_EVENT by its condition. -/
theorem periodCloseSwapsTheBanks : Obligations.PeriodCloseSwapsTheBanks := by
  unfold Obligations.PeriodCloseSwapsTheBanks
  intro s
  have event : exec .readyEvent s = whileLive readyIfDue s := rfl
  constructor
  · intro tag number ready B now
    refine ⟨exec_periodClose_badValue ready tag, fun low high => exec_periodClose_busy ready tag ⟨low, high⟩,
      fun low high => exec_periodClose_unset ready tag ⟨low, high⟩, fun low high free set counted => ?_⟩
    refine ⟨_, exec_periodClose_closes ready tag ⟨low, high⟩ free set, ?_⟩
    intro count
    have settled : s.period.state ≠ .pending := by
      rw [free]
      exact fun h => nomatch h
    rw [closePeriod_eq counted settled number]
    by_cases none_open : count = 0
    · have zero : (s.closed number).period.counter = 0 := none_open
      have made := readyEvent_eq (s.closed number)
      rw [readyIfDue_due rfl zero]
      refine ⟨?_, rfl, fun some_open => absurd none_open some_open,
        fun _ => ⟨?_, readyEvent_sums (s.closed number), ?_, reported_queue (congrArg (fun t : State => t.link.reports) made)⟩⟩
      · rw [made]
        rfl
      · refine (congrArg State.period made).trans ?_
        dsimp only
        rw [zero]
        rfl
      · have counter : (readyEvent (s.closed number)).period.counter = 0 := zero
        dsimp only [State.answered]
        rw [counter]
        rfl
    · have later : readyIfDue (s.closed number) = s.closed number := readyIfDue_not_due (.inr none_open)
      rw [later]
      exact ⟨rfl, rfl, fun _ => ⟨rfl, rfl⟩, fun zero => absurd zero none_open⟩
  · intro works
    refine ⟨fun notDue => ?_, fun pending none_open => ?_⟩
    · rw [event, whileLive_working works, readyIfDue_not_due notDue]
    · refine ⟨readyEvent s, by rw [event, whileLive_working works, readyIfDue_due pending none_open], ?_⟩
      have made := readyEvent_eq s
      refine ⟨?_, congrArg State.period made, readyEvent_sums s, ?_⟩
      · rw [made]
      · exact reported_queue (congrArg (fun t : State => t.link.reports) made)

end Sys2Proof.Machine
end

section
/-! PROOFS. The laws of the close (R143 to R146) as the acts of the part keep them: the rows of the CLOSING banks, the open attendances tagged
CLOSING, and the acts that change the one or the other. -/

namespace Sys2Proof.Machine

/-! ## The rows of the CLOSING banks (R144 to R146) -/

/-- The badges with their CLOSING banks that are not empty: what the close stream shows of the workers (Table 9.4). -/
def closingRows (ws : List WorkerRecord) : List (Nat × Bank) :=
  (ws.filter fun w => !w.closing.isEmpty).map fun w => (w.badge, w.closing)

theorem closingRows_append (before after : List WorkerRecord) :
    closingRows (before ++ after) = closingRows before ++ closingRows after := by
  simp [closingRows]

/-- A record shows in the rows by its badge and its CLOSING bank alone. -/
theorem closingRows_cons_congr {w v : WorkerRecord} (badge : v.badge = w.badge) (closing : v.closing = w.closing) (rest : List WorkerRecord) :
    closingRows (v :: rest) = closingRows (w :: rest) := by
  simp only [closingRows, List.filter_cons, closing]
  split
  · rw [List.map_cons, List.map_cons, badge, closing]
  · rfl

/-- A record whose CLOSING bank is empty does not show. -/
theorem closingRows_cons_empty {w : WorkerRecord} (empty : w.closing = Bank.empty) (rest : List WorkerRecord) :
    closingRows (w :: rest) = closingRows rest := by
  simp [closingRows, empty, Bank.isEmpty]

theorem closingRows_map {ws : List WorkerRecord} {f : WorkerRecord → WorkerRecord} (badge : ∀ w ∈ ws, (f w).badge = w.badge)
    (closing : ∀ w ∈ ws, (f w).closing = w.closing) : closingRows (ws.map f) = closingRows ws := by
  induction ws with
  | nil => rfl
  | cons w rest ih =>
    obtain ⟨badge, badges⟩ := List.forall_mem_cons.mp badge
    obtain ⟨closing, closings⟩ := List.forall_mem_cons.mp closing
    rw [List.map_cons, closingRows_cons_congr badge closing, ← List.singleton_append, closingRows_append, ih badges closings,
      ← closingRows_append, List.singleton_append]

/-- A row of sums is the sum of the banks (R144). -/
theorem Summary.sums_iff (row : Summary) (ws : List WorkerRecord) : row.Sums ws ↔ row = sumBanks (ws.map (·.closing)) := by
  constructor
  · rintro ⟨workers, regular, overtime, night, pay, count, anomalies⟩
    obtain ⟨workers', regular', overtime', night', pay', count', anomalies'⟩ := sumBanks_sums ws
    rw [Summary.mk.injEq]
    exact ⟨workers.trans workers'.symm, regular.trans regular'.symm, overtime.trans overtime'.symm, night.trans night'.symm,
      pay.trans pay'.symm, count.trans count'.symm, anomalies.trans anomalies'.symm⟩
  · rintro rfl
    exact sumBanks_sums ws

/-- What the close stream's law reads of the table is its rows. -/
theorem sumsStand_iff_rows (s : State) :
    s.SumsStand ↔ s.period.workerCount = (closingRows s.workers).length ∧
      s.period.grand = sumBanks ((closingRows s.workers).map (·.2)) ∧
      ∀ c : Fin 9, s.period.crews[c] = sumBanks (((closingRows s.workers).map (·.2)).filter fun b => b.crew.getD 0 == c.val) := by
  simp only [State.SumsStand, Summary.sums_iff, closingRows, State.closingRecords, List.length_map, List.map_map, List.filter_map,
    Function.comp_def]

theorem lastBadge_eq_rows (s : State) (i : Nat) :
    lastBadge s.closingRecords i = ((((closingRows s.workers).take i).getLast?).map (·.1)).getD 0 := by
  simp [lastBadge, closingRows, State.closingRecords, ← List.map_take, List.getLast?_map, Function.comp_def]

/-- The laws of the stream read the rows and the Period Unit, but not the open-closing counter (R144 to R147). -/
theorem streamStands_congr {s t : State} (rows : closingRows t.workers = closingRows s.workers)
    (unit : t.period = { s.period with counter := t.period.counter }) (stands : s.StreamStands) : t.StreamStands := by
  have empty : ∀ u : State, u.closingRecords = [] ↔ closingRows u.workers = [] := fun u => List.map_eq_nil_iff.symm
  have badge : ∀ u : State, ∀ i, (((u.closingRecords.take i).getLast?).map (·.badge)).getD 0 =
      ((((closingRows u.workers).take i).getLast?).map (·.1)).getD 0 := lastBadge_eq_rows
  simp only [State.StreamStands, State.CursorStands, sumsStand_iff_rows, empty, badge] at stands ⊢
  rw [rows, unit]
  exact stands

/-! ## One record changed (R39, R139, R142) -/

/-- From the first unit to the second the record `w` becomes `v`: its badge stays; a record without an attendance tagged CLOSING keeps its
CLOSING bank and stays without one; and the open-closing counter follows the record, whatever the other records hold. -/
structure Posts (p q : PeriodUnit) (w v : WorkerRecord) : Prop where
  badge : v.badge = w.badge
  unit : q = { p with counter := q.counter }
  settled : w.taggedClosing = false → v.taggedClosing = false ∧ v.closing = w.closing
  counter : ∀ n, p.counter = n + w.taggedClosing.toNat → q.counter = n + v.taggedClosing.toNat

theorem Posts.trans {p q r : PeriodUnit} {w v x : WorkerRecord} (h : Posts p q w v) (k : Posts q r v x) : Posts p r w x where
  badge := k.badge.trans h.badge
  unit := by
    rw [k.unit, h.unit]
  settled free :=
    have ⟨free', closing⟩ := h.settled free
    have ⟨free'', closing'⟩ := k.settled free'
    ⟨free'', closing'.trans closing⟩
  counter n before := k.counter n (h.counter n before)

/-- A record changed in neither its CLOSING bank nor its tag, with the unit as it was. -/
theorem Posts.same {p : PeriodUnit} {w v : WorkerRecord} (badge : v.badge = w.badge) (tagged : v.taggedClosing = w.taggedClosing)
    (closing : v.closing = w.closing) : Posts p p w v :=
  ⟨badge, rfl, fun free => ⟨tagged.trans free, closing⟩, fun n before => by rw [tagged, before]⟩

/-- In a table in badge order one record stands for its badge, and replaced it stands in its place (R33). -/
theorem replaceWorker_split {ws : List WorkerRecord} (ascend : BadgesAscend ws) {w v : WorkerRecord} (member : w ∈ ws)
    (badge : v.badge = w.badge) : ∃ before after, ws = before ++ w :: after ∧ replaceWorker v ws = before ++ v :: after := by
  obtain ⟨before, after, rfl⟩ := List.append_of_mem member
  obtain ⟨-, tail, cross⟩ := List.pairwise_append.mp ascend
  exact ⟨before, after, rfl, replaceWorker_append_cons badge (fun x hx => Nat.ne_of_lt (cross x hx w List.mem_cons_self))
    fun x hx => Nat.ne_of_gt ((List.pairwise_cons.mp tail).1 x hx)⟩

theorem replaceWorker_ascends {ws : List WorkerRecord} (ascend : BadgesAscend ws) (v : WorkerRecord) : BadgesAscend (replaceWorker v ws) := by
  rwa [badgesAscend_iff, replaceWorker_badges, ← badgesAscend_iff]

/-! ## The acts -/

/-- The open attendances tagged CLOSING in a table (R143). -/
def taggedIn (ws : List WorkerRecord) : Nat := ws.countP (·.taggedClosing)

/-- What an act of the part other than a close does to its worker table and its Period Unit. -/
inductive CloseAct (s t : State) : Prop
  /-- a table in its order, with its CLOSING banks and its tags as they were -/
  | steady (unit : t.period = s.period) (rows : closingRows t.workers = closingRows s.workers)
    (tagged : taggedIn t.workers = taggedIn s.workers) (ascends : BadgesAscend s.workers → BadgesAscend t.workers)
  /-- every record changed, in its CLOSING bank only where its attendance is tagged so -/
  | mapped (f : WorkerRecord → WorkerRecord) (unit : t.period = s.period) (table : t.workers = s.workers.map f)
    (badge : ∀ w, (f w).badge = w.badge) (tagged : ∀ w, (f w).taggedClosing = w.taggedClosing)
    (settled : ∀ w, w.taggedClosing = false → (f w).closing = w.closing)
  /-- a record of the table replaced -/
  | posted (w v : WorkerRecord) (member : w ∈ s.workers) (table : t.workers = replaceWorker v s.workers)
    (posts : Posts s.period t.period w v)
  /-- the READY event (R144) -/
  | readied (due : s.period.state = .pending ∧ s.period.counter = 0) (table : t.workers = s.workers)
    (unit : t.period = (readyEvent s).period)
  /-- a stream read (R147, R148) -/
  | walked (reading : s.period.state = .ready ∨ s.period.state = .drained) (table : t.workers = s.workers)
    (counter : t.period.counter = s.period.counter) (state : t.period.state = .ready ∨ t.period.state = .drained)
    (stands : s.StreamStands → t.StreamStands)
  /-- a drained period released (R149) -/
  | released (drained : s.period.state = .drained) (table : t.workers = s.workers.map fun w => { w with closing := Bank.empty })
    (state : t.period.state = .free) (counter : t.period.counter = 0)
  /-- a cold start (R53, R151) -/
  | blank (table : t.workers = []) (unit : t.period = PeriodUnit.cold)

/-- From one part to a later one by acts other than a close. -/
abbrev ClosePath : State → State → Prop := Relation.ReflTransGen CloseAct

/-- What the acts keep of the part `s` in a later part `t`: the order of the table, the count of R143, the rows of a close while it stands
(R145), and the stream (R146). -/
structure Carried (s t : State) : Prop where
  ascends : BadgesAscend t.workers
  counted : t.ClosingCounted
  settled : s.period.state = .ready ∨ s.period.state = .drained →
    t.period.state = .free ∨ ((t.period.state = .ready ∨ t.period.state = .drained) ∧ closingRows t.workers = closingRows s.workers)
  stands : s.StreamStands → t.StreamStands

theorem Carried.refl {s : State} (ascends : BadgesAscend s.workers) (counted : s.ClosingCounted) : Carried s s :=
  ⟨ascends, counted, fun closed => .inr ⟨closed, rfl⟩, id⟩

theorem streamStands_of_free {s : State} (free : s.period.state = .free) (empty : s.closingRecords = []) : s.StreamStands := by
  refine ⟨fun _ => empty, fun closed => ?_⟩
  rw [free] at closed
  obtain h | h := closed <;> cases h

theorem streamStands_of_pending {s : State} (pending : s.period.state = .pending) : s.StreamStands := by
  refine ⟨fun free => ?_, fun closed => ?_⟩
  · rw [pending] at free
    cases free
  · rw [pending] at closed
    obtain h | h := closed <;> cases h

/-- The READY event begins a stream that stands (R144, R147). -/
theorem readyEvent_reading (s : State) : (readyEvent s).Reading :=
  ⟨.inl rfl, readyEvent_sums s, Nat.le_refl 1, fun _ => Nat.le_add_left .., fun drained => (nomatch drained), rfl⟩

/-- A part whose rows and unit, but for the counter, are those of a part carried, is carried too. -/
theorem Carried.congr {s t u : State} (h : Carried s t) (ascends : BadgesAscend u.workers) (counted : u.ClosingCounted)
    (unit : u.period = { t.period with counter := u.period.counter })
    (rows : t.period.state ≠ .pending → closingRows u.workers = closingRows t.workers) : Carried s u := by
  have state : u.period.state = t.period.state := by rw [unit]
  refine ⟨ascends, counted, fun closed => ?_, fun stands => ?_⟩
  · rw [state]
    obtain free | ⟨closed', same⟩ := h.settled closed
    · exact .inl free
    · refine .inr ⟨closed', (rows ?_).trans same⟩
      obtain h | h := closed' <;> simp [h]
  · by_cases pending : t.period.state = .pending
    · exact streamStands_of_pending (state.trans pending)
    · exact streamStands_congr (rows pending) unit (h.stands stands)

theorem Carried.steady {s t u : State} (h : Carried s t) (unit : u.period = t.period) (rows : closingRows u.workers = closingRows t.workers)
    (tagged : taggedIn u.workers = taggedIn t.workers) (ascends : BadgesAscend t.workers → BadgesAscend u.workers) : Carried s u := by
  obtain ⟨counter, settled⟩ := h.counted
  refine h.congr (ascends h.ascends) ⟨?_, ?_⟩ (by rw [unit]) fun _ => rows
  · rw [unit, counter]
    exact tagged.symm
  · rw [unit]
    exact settled

theorem Carried.mapped {s t u : State} (h : Carried s t) {f : WorkerRecord → WorkerRecord} (unit : u.period = t.period)
    (table : u.workers = t.workers.map f) (badge : ∀ w, (f w).badge = w.badge) (tagged : ∀ w, (f w).taggedClosing = w.taggedClosing)
    (settled : ∀ w, w.taggedClosing = false → (f w).closing = w.closing) : Carried s u := by
  obtain ⟨counter, zero⟩ := h.counted
  refine h.congr ?_ ⟨?_, ?_⟩ (by rw [unit]) fun calm => ?_
  · rw [table]
    exact List.pairwise_map.mpr (h.ascends.imp fun less => by rwa [badge, badge])
  · rw [unit, counter, table, List.countP_map]
    exact List.countP_congr fun w _ => by rw [Function.comp_apply, tagged]
  · rw [unit]
    exact zero
  · have untagged := List.countP_eq_zero.mp (h.counted.untagged calm)
    rw [table]
    exact closingRows_map (fun w _ => badge w) fun w member => settled w (Bool.eq_false_iff.mpr (untagged w member))

theorem Carried.posted {s t u : State} (h : Carried s t) {w v : WorkerRecord} (member : w ∈ t.workers)
    (table : u.workers = replaceWorker v t.workers) (posts : Posts t.period u.period w v) : Carried s u := by
  obtain ⟨badge, unit, quiet, counter⟩ := posts
  obtain ⟨before, after, whole, placed⟩ := replaceWorker_split h.ascends member badge
  obtain ⟨counted, settled⟩ := h.counted
  have others := counter (before.countP (·.taggedClosing) + after.countP (·.taggedClosing)) (by
    rw [counted, whole, List.countP_append, List.countP_cons]
    cases w.taggedClosing <;> simp [Nat.add_assoc])
  have untagged : t.period.state ≠ .pending → w.taggedClosing = false := fun calm =>
    Bool.eq_false_iff.mpr (List.countP_eq_zero.mp (h.counted.untagged calm) w member)
  have state : u.period.state = t.period.state := by rw [unit]
  refine h.congr (table ▸ replaceWorker_ascends h.ascends v) ⟨?_, fun calm => ?_⟩ unit fun calm => ?_
  · rw [table, placed, others, List.countP_append, List.countP_cons]
    cases v.taggedClosing <;> simp [Nat.add_assoc]
  · rw [state] at calm
    have free := untagged calm
    have zero := counter 0 (by rw [settled calm, free]; rfl)
    rw [zero, (quiet free).1]
    rfl
  · rw [table, placed, whole, closingRows_append, closingRows_append, closingRows_cons_congr badge (quiet (untagged calm)).2]

theorem Carried.readied {s t u : State} (h : Carried s t) (due : t.period.state = .pending ∧ t.period.counter = 0)
    (table : u.workers = t.workers) (unit : u.period = (readyEvent t).period) : Carried s u := by
  obtain ⟨pending, zero⟩ := due
  refine ⟨table ▸ h.ascends, ⟨?_, fun _ => ?_⟩, fun closed => ?_, fun _ => ?_⟩
  · rw [unit, table]
    exact h.counted.1
  · rw [unit]
    exact zero
  · have earlier := h.settled closed
    rw [pending] at earlier
    obtain h | ⟨h | h, -⟩ := earlier <;> cases h
  · refine streamStands_congr (s := readyEvent t) ?_ ?_ (readyEvent_reading t).stands
    · rw [table]
      rfl
    · rw [unit]

theorem Carried.walked {s t u : State} (h : Carried s t) (table : u.workers = t.workers)
    (reading : t.period.state = .ready ∨ t.period.state = .drained)
    (counter : u.period.counter = t.period.counter) (state : u.period.state = .ready ∨ u.period.state = .drained)
    (stands : t.StreamStands → u.StreamStands) : Carried s u := by
  have calm : t.period.state ≠ .pending := by
    obtain h | h := reading <;> simp [h]
  refine ⟨table ▸ h.ascends, ⟨?_, fun _ => ?_⟩, fun closed => ?_, fun before => stands (h.stands before)⟩
  · rw [counter, table]
    exact h.counted.1
  · rw [counter]
    exact h.counted.2 calm
  · obtain free | ⟨-, rows⟩ := h.settled closed
    · rw [free] at reading
      obtain h | h := reading <;> cases h
    · exact .inr ⟨state, by rw [table, rows]⟩

theorem Carried.released {s t u : State} (h : Carried s t) (drained : t.period.state = .drained)
    (table : u.workers = t.workers.map fun w => { w with closing := Bank.empty }) (state : u.period.state = .free)
    (counter : u.period.counter = 0) : Carried s u := by
  refine ⟨?_, ⟨?_, fun _ => counter⟩, fun _ => .inl state, fun _ => streamStands_of_free state ?_⟩
  · rw [table]
    exact List.pairwise_map.mpr h.ascends
  · rw [counter, table, List.countP_map]
    refine (h.counted.untagged ?_).symm
    rw [drained]
    exact fun h => nomatch h
  · simp [State.closingRecords, table, Bank.isEmpty]

/-- Every act carries what it finds. -/
theorem CloseAct.carries {s t u : State} (act : CloseAct t u) (h : Carried s t) : Carried s u := by
  cases act with
  | steady unit rows tagged ascends => exact h.steady unit rows tagged ascends
  | mapped f unit table badge tagged settled => exact h.mapped unit table badge tagged settled
  | posted w v member table posts => exact h.posted member table posts
  | readied due table unit => exact h.readied due table unit
  | walked reading table counter state stands => exact h.walked table reading counter state stands
  | released drained table state counter => exact h.released drained table state counter
  | blank table unit =>
    have state : u.period.state = .free := by rw [unit]; rfl
    have counter : u.period.counter = 0 := by rw [unit]; rfl
    refine ⟨table ▸ .nil, ⟨?_, fun _ => counter⟩, fun _ => .inl state, fun _ => streamStands_of_free state ?_⟩
    · rw [counter, table]
      rfl
    · rw [State.closingRecords, table]
      rfl

theorem ClosePath.carries {s t : State} (path : ClosePath s t) (ascends : BadgesAscend s.workers) (counted : s.ClosingCounted) :
    Carried s t := by
  induction path with
  | refl => exact .refl ascends counted
  | tail _ act ih => exact act.carries ih

end Sys2Proof.Machine
end

section
/-! PROOFS. What a raise, a finalization, an opening and a commit do to a record's CLOSING bank, to its tag and to the open-closing counter
(R39, R41, R90 to R92, R139, R142). -/

namespace Sys2Proof.Machine

/-! ## Raises and finalizations (R39, R41, R139) -/

theorem WorkerRecord.taggedClosing_none {w : WorkerRecord} (absent : w.attendance = none) : w.taggedClosing = false := by
  rw [WorkerRecord.taggedClosing, absent]

theorem WorkerRecord.taggedClosing_some {w : WorkerRecord} {a : Attendance} (attended : w.attendance = some a) :
    w.taggedClosing = (a.tag == .closing) := by
  rw [WorkerRecord.taggedClosing, attended]

theorem WorkerRecord.taggedClosing_congr {w v : WorkerRecord} (same : v.attendance = w.attendance) : v.taggedClosing = w.taggedClosing := by
  rw [WorkerRecord.taggedClosing, WorkerRecord.taggedClosing, same]

/-- An anomaly is raised in the CLOSING bank only where its attendance is tagged so (R41). -/
theorem posts_raiseIf {p : PeriodUnit} {w : WorkerRecord} {owner : Option BankTag} (owned : owner = some .closing → w.taggedClosing = true)
    (cond : Bool) (a : Anomaly) : Posts p p w (raiseIf cond a owner w) := by
  have tagged := WorkerRecord.taggedClosing_congr (raiseIf_attendance cond a owner w)
  refine ⟨raiseIf_badge .., rfl, fun free => ⟨tagged.trans free, ?_⟩, fun n before => by rw [tagged, before]⟩
  have other : owner ≠ some .closing := fun e => by
    rw [owned e] at free
    cases free
  cases cond
  · rfl
  · rw [raiseIf, if_pos rfl, raise_frame]
    exact if_neg other

theorem posts_raise {p : PeriodUnit} {w : WorkerRecord} {owner : Option BankTag} (owned : owner = some .closing → w.taggedClosing = true)
    (a : Anomaly) : Posts p p w (raise a owner w) := posts_raiseIf owned true a

/-- The tag of an attendance is that of the record that holds it. -/
theorem owned_of_attended {w : WorkerRecord} {a : Attendance} (attended : w.attendance = some a) :
    some a.tag = some BankTag.closing → w.taggedClosing = true := by
  rw [WorkerRecord.taggedClosing_some attended]
  intro e
  rw [Option.some.inj e]
  rfl

/-- The open-closing counter falls by a finalization of an attendance tagged CLOSING alone (R139). -/
theorem releaseFinalized_counter (a : Attendance) (s : State) :
    (releaseFinalized a s).period.counter = if a.tag = .closing then s.period.counter - 1 else s.period.counter := by
  unfold releaseFinalized
  cases a.kind <;> cases a.tag <;> rfl

/-- A finalization credits the CLOSING bank only for a tag CLOSING (R39, R137). -/
theorem finalizeRecord_closing (c : Calendar) {a : Attendance} (w : WorkerRecord) (tag : a.tag = .current) :
    (finalizeRecord c a w).closing = w.closing := by
  rw [finalizeRecord, creditAttendance_eq_onBank, WorkerRecord.onBank_eq, tag]
  rfl

/-- A finalization takes the attendance from its record, and from the counter where it was counted (R39, R139). -/
theorem posts_finalize (c : Calendar) {a : Attendance} {w : WorkerRecord} (holds : w.taggedClosing = (a.tag == .closing)) (s : State) :
    Posts s.period (releaseFinalized a s).period w (finalizeRecord c a w) := by
  have absent : (finalizeRecord c a w).taggedClosing = false := WorkerRecord.taggedClosing_none (by rw [finalizeRecord_frame])
  refine ⟨finalizeRecord_badge .., by rw [releaseFinalized_frame], fun free => ⟨absent, finalizeRecord_closing c w ?_⟩,
    fun n before => ?_⟩
  · rw [holds] at free
    cases tag : a.tag with
    | current => rfl
    | closing =>
      rw [tag] at free
      cases free
  · rw [absent, releaseFinalized_counter, before, holds]
    cases a.tag <;> simp

/-- An anomaly of no attendance changes neither bank (R41). -/
theorem posts_raiseIf_none {p : PeriodUnit} {w : WorkerRecord} (cond : Bool) (a : Anomaly) : Posts p p w (raiseIf cond a none w) :=
  posts_raiseIf (fun e => absurd e (by decide)) cond a

/-! ## Commits (R90 to R92) -/

/-- From one stage of a commit to a later one, the unit follows the record in hand. -/
abbrev CommitWork.Posts (x y : CommitWork) : Prop := Machine.Posts x.state.period y.state.period x.worker y.worker

/-- The presence that a commit ends with is no matter of the banks (R90, R91). -/
theorem CommitWork.Posts.withPresence {x y : CommitWork} (h : x.Posts y) (presence : Presence) :
    x.Posts { y with worker := { y.worker with presence := presence } } :=
  h.trans (Machine.Posts.same rfl rfl rfl)

/-- An attendance that opens is tagged CURRENT (R37). -/
theorem openEntry_posts (tm : Nat) (soft : Bool) {x : CommitWork} (absent : x.worker.attendance = none) : x.Posts (openEntry tm soft x) := by
  have untagged := WorkerRecord.taggedClosing_none absent
  have opened : ∀ kind start, Posts x.state.period x.state.period x.worker (x.worker.opening kind start tm) := fun kind start =>
    .same rfl (untagged ▸ rfl) rfl
  have soft_raised : ∀ v : WorkerRecord, Posts x.state.period x.state.period v (raiseIf soft .softPassback (some .current) v) :=
    fun v => posts_raiseIf (fun e => absurd e (by decide)) soft .softPassback
  unfold openEntry
  split
  · exact (opened ..).trans (soft_raised _)
  · split
    · exact (opened ..).trans (soft_raised _)
    · exact (posts_raiseIf_none true .unscheduled).trans (posts_raiseIf_none soft .softPassback)

/-- The old attendance finalized by a late entry leaves the record without one (R90). -/
theorem finalizeLate_posts {a : Attendance} {x : CommitWork} (attended : x.worker.attendance = some a) :
    x.Posts (finalizeLate a x) ∧ (finalizeLate a x).worker.attendance = none := by
  have holds := WorkerRecord.taggedClosing_some attended
  have gone : ∀ (c : Calendar) (b : Attendance) (w : WorkerRecord), (finalizeRecord c b w).attendance = none := fun _ _ _ => rfl
  unfold finalizeLate
  split
  · refine ⟨(posts_raise (owned_of_attended attended) .missedOut).trans (posts_finalize (a := a.closeUnseen) _ ?_ x.state), gone ..⟩
    rw [← holds.trans (show (a.tag == .closing) = (a.closeUnseen.tag == .closing) from rfl)]
    exact WorkerRecord.taggedClosing_congr (raise_attendance ..)
  · exact ⟨posts_finalize _ holds x.state, gone ..⟩

/-- A re-entry keeps the attendance's tag (R38). -/
theorem reenter_posts (tm : Nat) {a : Attendance} {x : CommitWork} (attended : x.worker.attendance = some a) :
    x.Posts { x with worker := reenter tm a x.worker } := by
  have holds := WorkerRecord.taggedClosing_some attended
  unfold reenter
  split
  · exact .same rfl holds.symm rfl
  · have reopened : Posts x.state.period x.state.period x.worker { x.worker with attendance := some a.reopenLast } :=
      .same rfl holds.symm rfl
    exact reopened.trans (posts_raise (owned_of_attended (a := a.reopenLast) rfl) .segmentLimit)

theorem commitEntry_posts (tm : Nat) (softMode : Bool) (x : CommitWork) : x.Posts (commitEntry tm softMode x) := by
  unfold commitEntry
  refine CommitWork.Posts.withPresence ?_ .inside
  cases attended : x.worker.attendance with
  | none => exact openEntry_posts tm _ attended
  | some a =>
    dsimp only
    split
    · obtain ⟨posts, absent⟩ := finalizeLate_posts attended
      exact posts.trans (openEntry_posts tm _ absent)
    · split
      · exact posts_raiseIf (owned_of_attended attended) _ .softPassback
      · exact reenter_posts tm attended

theorem commitExit_posts (tm : Nat) (unrecorded : Bool) (x : CommitWork) : x.Posts (commitExit tm unrecorded x) := by
  unfold commitExit
  refine CommitWork.Posts.withPresence ?_ .outside
  cases attended : x.worker.attendance with
  | none => exact (posts_raiseIf_none _ .orphanOut).trans (posts_raiseIf_none unrecorded .unrecordedExit)
  | some a =>
    have holds := WorkerRecord.taggedClosing_some attended
    dsimp only
    split
    · have closed : Posts x.state.period x.state.period x.worker { x.worker with attendance := some (a.closeAt tm) } :=
        .same rfl holds.symm rfl
      have marked := closed.trans (posts_raiseIf (owned_of_attended (a := a.closeAt tm) rfl) unrecorded .unrecordedExit)
      split
      · refine marked.trans (posts_finalize (a := a.closeAt tm) _ ?_ x.state)
        exact WorkerRecord.taggedClosing_congr (raiseIf_attendance ..)
      · exact marked
    · exact (posts_raiseIf_none true .orphanOut).trans (posts_raiseIf_none unrecorded .unrecordedExit)

theorem commitWork_posts (g : Nat) (p : Passage) (unrecorded : Bool) (x : CommitWork) : x.Posts (commitWork g p unrecorded x) := by
  unfold commitWork
  cases p.direction with
  | inward => exact commitEntry_posts ..
  | outward => exact commitExit_posts ..

theorem completeCommit_period (g : Nat) (p : Passage) (entry : Option JournalOutcome) (ofPassage : Bool) (x : CommitWork) :
    (completeCommit g p entry ofPassage x).period = x.state.period := by
  cases entry <;> rfl

/-! ## Auto-close (R45) -/

/-- An auto-close is a finalization, of a record raised where its attendance is open (R45). -/
theorem posts_autoClose {a : Attendance} {w : WorkerRecord} (attended : w.attendance = some a) (s : State) :
    Posts s.period (releaseFinalized a s).period w (autoCloseRecord s.calendar a w) := by
  have holds := WorkerRecord.taggedClosing_some attended
  unfold autoCloseRecord
  split
  · have missed : Posts s.period s.period w { w with presence := .unknown } := .same rfl rfl rfl
    have raised := missed.trans (posts_raise (w := { w with presence := .unknown }) (owned_of_attended attended) .missedOut)
    have same : (releaseFinalized a.closeUnseen s).period = (releaseFinalized a s).period := rfl
    rw [← same]
    have kept := WorkerRecord.taggedClosing_congr (w := w) (raise_attendance .missedOut (some a.tag) { w with presence := .unknown })
    exact raised.trans (posts_finalize (a := a.closeUnseen) _ (kept.trans holds) s)
  · exact posts_finalize _ holds s

end Sys2Proof.Machine
end

section
/-! PROOFS. The operations of the part as acts on its worker table and its Period Unit: the passages resolved, the minute event, the decisions,
and the starts. -/

namespace Sys2Proof.Machine

/-! ## Acts that leave both, or the CLOSING banks and the tags -/

theorem closePath_still {s t : State} (table : t.workers = s.workers) (unit : t.period = s.period) : ClosePath s t :=
  .single (.steady unit (by rw [table]) (by rw [table]) (by rw [table]; exact id))

theorem closePath_of_ledger {s t : State} (ledger : t.ledger = s.ledger) (unit : t.period = s.period) : ClosePath s t :=
  closePath_still (State.ledger_eq ledger).2 unit

/-- One record replaced that keeps its badge, its CLOSING bank and its attendance. -/
theorem closePath_setWorker {s : State} {w v : WorkerRecord} (member : w ∈ s.workers) (badge : v.badge = w.badge)
    (attendance : v.attendance = w.attendance) (closing : v.closing = w.closing) : ClosePath s (setWorker v s) :=
  .single (.posted w v member rfl (.same badge (WorkerRecord.taggedClosing_congr attendance) closing))

theorem closePath_foldl {act : State → Nat → State} (one : ∀ s g, ClosePath s (act s g)) (gs : List Nat) :
    ∀ s : State, ClosePath s (gs.foldl act s) := by
  induction gs with
  | nil => exact fun _ => .refl
  | cons g rest ih => exact fun s => (one s g).trans (ih (act s g))

/-! ## Operations that leave the Period Unit -/

@[simp] theorem applyStanding_period (g : Nat) (s : State) : (applyStanding g s).period = s.period := by rw [applyStanding_frame]

@[simp] theorem applyStandings_period (gs : List Nat) (s : State) : (applyStandings gs s).period = s.period := by rw [applyStandings_frame]

@[simp] theorem setMode_period (g : Nat) (m : ControlMode) (s : State) : (setMode g m s).period = s.period := applyStanding_period g _

@[simp] theorem clearAlarm_period (g : Nat) (x : Gate) (s : State) : (clearAlarm g x s).period = s.period := by rw [clearAlarm_frame]

@[simp] theorem gateAlarm_period (g : Nat) (alarm : Alarm) (phase : AlarmPhase) (dir : Option Direction) (s : State) :
    (gateAlarm g alarm phase dir s).period = s.period := rfl

@[simp] theorem stopWork_period (s : State) : (stopWork s).period = s.period := rfl

@[simp] theorem journalClaim_period (s : State) : (journalClaim s).period = s.period := by rw [journalClaim_frame]

@[simp] theorem journalDirect_period (e : JournalEntry) (s : State) : (journalDirect e s).period = s.period := by rw [journalDirect_frame]

@[simp] theorem untrackedRelease_period (g : Nat) (s : State) : (untrackedRelease g s).period = s.period := by
  unfold untrackedRelease
  dsimp only
  repeat' split
  all_goals rfl

@[simp] theorem configureGate_period (g : Nat) (c : GateConfig) (in0 in1 : Bool) (s : State) :
    (configureGate g c in0 in1 s).period = s.period := by
  unfold configureGate
  dsimp only
  rw [applyStanding_period]
  split <;> simp

@[simp] theorem contactOpens_period (g : Nat) (s : State) : (contactOpens g s).period = s.period := by
  unfold contactOpens
  dsimp only
  split <;> rfl

@[simp] theorem contactCloses_period (g : Nat) (s : State) : (contactCloses g s).period = s.period := by
  unfold contactCloses
  dsimp only
  split <;> rfl

@[simp] theorem setEnable_period (enable : Bool) (s : State) : (setEnable enable s).period = s.period := by
  unfold setEnable
  split <;> rfl

@[simp] theorem windowWatch_period (s : State) : (windowWatch s).period = s.period := by
  unfold windowWatch windowCheck missImpulse
  dsimp only
  repeat' split
  all_goals rfl

@[simp] theorem disciplineOut_period (f : Follower) (s : State) : (disciplineOut f s).period = s.period := by
  unfold disciplineOut
  dsimp only
  split <;> rfl

@[simp] theorem followerClockSet_period (s : State) : (followerClockSet s).period = s.period := by
  unfold followerClockSet
  split <;> rfl

@[simp] theorem gateSeconds_period (s : State) : (gateSeconds s).period = s.period := by
  unfold gateSeconds
  split <;> rfl

@[simp] theorem backupSecond_period (s : State) : (backupSecond s).period = s.period := by
  unfold backupSecond
  split <;> rfl

@[simp] theorem tenthTick_period (s : State) : (tenthTick s).period = s.period := by
  unfold tenthTick
  split <;> rfl

@[simp] theorem tickPeriod_period (s : State) : (tickPeriod s).period = s.period := by
  unfold tickPeriod
  split
  · rfl
  · exact tenthTick_period _

theorem LoopAct.period {s t : State} (act : LoopAct s t) : t.period = s.period := by
  cases act with
  | linked => rfl
  | turned => rfl
  | moved => exact applyStandings_period _ _

/-- The acts of the loops leave the table and the unit. -/
theorem LoopPath.close {s t : State} (path : LoopPath s t) : ClosePath s t := by
  refine closePath_still (congrArg Staff.workers path.staff) ?_
  induction path with
  | refl => rfl
  | tail _ act ih => exact act.period.trans ih

/-! ## Passages resolved (R93, R94, R100, R105, R106, R112, R116) -/

/-- A commit replaces its record, the unit following it (R92, R139). -/
theorem closePath_commitPunch {s : State} {w : WorkerRecord} (member : w ∈ s.workers) (g : Nat) (p : Passage)
    (entry : Option JournalOutcome) (ofPassage : Bool) : ClosePath s (commitPunch g p entry ofPassage w s) := by
  refine .single (.posted w _ member (commitPunch_workers ..) ?_)
  rw [commitPunch, completeCommit_period]
  exact (commitWork_posts g p entry.isNone ⟨s, w⟩).trans (.same rfl rfl rfl)

theorem closePath_voidPassage (g : Nat) (p : Passage) (restart : Bool) (s : State) : ClosePath s (voidPassage g p restart s) := by
  unfold voidPassage
  let written := journalClaimed (punchEntry g p .voided AnomalySet.empty restart) s
  have claimed : ClosePath s written := closePath_still rfl rfl
  dsimp only
  split
  · rename_i w found
    exact claimed.trans (closePath_setWorker (s := written) (mem_of_worker found).1 rfl rfl rfl)
  · exact claimed

theorem closePath_commitPassage (g : Nat) (p : Passage) (outcome : JournalOutcome) (s : State) :
    ClosePath s (commitPassage g p outcome s) := by
  unfold commitPassage
  split
  · rename_i w found
    exact closePath_commitPunch (mem_of_worker found).1 ..
  · exact closePath_still rfl rfl

theorem closePath_resolvePassage (g : Nat) (p : Passage) (cause : Resolution) (s : State) : ClosePath s (resolvePassage g p cause s) := by
  unfold resolvePassage
  split
  · exact closePath_commitPassage ..
  · exact closePath_voidPassage ..
  · exact closePath_voidPassage ..
  · exact closePath_voidPassage ..
  · exact closePath_commitPassage ..
  · exact closePath_voidPassage ..

theorem closePath_endArming (g : Nat) (cause : Resolution) (s : State) : ClosePath s (endArming g cause s) := by
  have disarmed : ClosePath s (s.setGate g (s.gateAt g).disarm) := closePath_still rfl rfl
  unfold endArming
  dsimp only
  split
  · exact disarmed.trans (closePath_resolvePassage ..)
  · exact disarmed

theorem closePath_lockdownPassage (g : Nat) (s : State) : ClosePath s (lockdownPassage g s) := by
  unfold lockdownPassage
  split
  · split
    · exact closePath_endArming ..
    · exact .refl
  · exact .refl

theorem closePath_passagePulse (g : Nat) (d : Direction) (s : State) : ClosePath s (passagePulse g d s) := by
  unfold passagePulse
  split
  · exact closePath_endArming ..
  · split
    · exact .refl
    · exact closePath_still rfl rfl

theorem closePath_gateFire (g : Nat) (s : State) : ClosePath s (gateFire g s) := by
  have applied : ∀ u : State, ClosePath u (applyStanding g u) := fun u =>
    closePath_of_ledger (applyStanding_ledger ..) (applyStanding_period ..)
  unfold gateFire
  refine Relation.ReflTransGen.trans ?_ (applied _)
  split
  · exact closePath_endArming ..
  · exact .refl

/-! ## The minute event (R3, R44) -/

theorem closePath_autoCloseOne (now : Nat) {s : State} {w : WorkerRecord} (member : w ∈ s.workers) :
    ClosePath s (autoCloseOne now s w) := by
  unfold autoCloseOne
  split
  · exact .refl
  · rename_i a attended
    split
    · refine .single (.posted w _ member ?_ (posts_autoClose attended s))
      rw [setWorker_workers, releaseFinalized_frame]
    · exact .refl

/-- Auto-close in badge order: each record is still as it was when its turn comes (R44). -/
theorem closePath_autoCloseAll (now : Nat) (todo : List WorkerRecord) : BadgesAscend todo → ∀ s : State,
    (∀ w ∈ todo, w ∈ s.workers) → ClosePath s (todo.foldl (autoCloseOne now) s) := by
  induction todo with
  | nil => exact fun _ _ _ => .refl
  | cons w rest ih =>
    intro ascend s members
    obtain ⟨later, ascend'⟩ := List.pairwise_cons.mp ascend
    refine (closePath_autoCloseOne now (members w List.mem_cons_self)).trans (ih ascend' _ fun x hx => ?_)
    exact mem_autoCloseOne now (members x (List.mem_cons_of_mem w hx)) (Nat.ne_of_gt (later x hx))

section
variable {s : State} (ascend : BadgesAscend s.workers)
include ascend

theorem closePath_minuteEvent : ClosePath s (minuteEvent s) := by
  have closed : ClosePath s (if s.time.validity = .set then autoClose s.plantMinute s else s) := by
    split
    · exact closePath_autoCloseAll _ s.workers ascend s fun _ member => member
    · exact .refl
  exact closed.trans (closePath_still rfl rfl)

theorem closePath_noteMinute (before : Nat) : ClosePath s (noteMinute before s) := by
  let noted : State := { s with follower := { s.follower with minuteWindow := s.follower.window } }
  have begun : ClosePath s noted := closePath_still rfl rfl
  unfold noteMinute
  dsimp only
  split
  · exact .refl
  · split
    · exact begun.trans (closePath_minuteEvent (s := noted) ascend)
    · exact begun

theorem closePath_secondEvent : ClosePath s (secondEvent s) := by
  let counted : State := { s with time := s.time.secondEvent s.live }
  have begun : ClosePath s counted := closePath_still rfl rfl
  have noted := closePath_noteMinute (s := counted) ascend s.plantMinute
  unfold secondEvent
  refine (begun.trans noted).trans (closePath_of_ledger ?_ ?_)
  · rw [backupSecond_ledger, gateSeconds_ledger, windowWatch_ledger]
  · rw [backupSecond_period, gateSeconds_period, windowWatch_period]

theorem closePath_crystalPeriod : ClosePath s (crystalPeriod s) := by
  have divided : ClosePath s (dividerPeriod s) := by
    unfold dividerPeriod
    split
    · exact closePath_secondEvent ascend
    · exact closePath_still rfl rfl
  unfold crystalPeriod
  split
  · exact divided.trans (closePath_of_ledger (tickPeriod_ledger _) (tickPeriod_period _))
  · exact .refl

/-- An impulse may align the time, and with it begin a minute (R11). -/
theorem closePath_takeImpulse (line : MasterLine) : ClosePath s (takeImpulse line s) := by
  have aligned : ∀ f, ClosePath s (alignTo f s) := fun f => by
    let v := followerEvent .align { f with windowFlag := true, missingRun := 0, wideRun := 0, state := .locked }
      { s with time := s.time.align }
    have turned : ClosePath s v := closePath_still rfl rfl
    exact turned.trans (closePath_noteMinute (s := v) ascend s.plantMinute)
  unfold takeImpulse
  dsimp only
  split
  · exact .refl
  · exact aligned _
  · exact aligned _
  · repeat' split
    · exact .refl
    · exact closePath_still rfl rfl
    · exact closePath_of_ledger (disciplineOut_ledger ..) (disciplineOut_period ..)

end

/-! ## Decisions (R82 to R89) -/

theorem closePath_journalClaim (s : State) : ClosePath s (journalClaim s) :=
  closePath_of_ledger (journalClaim_ledger s) (journalClaim_period s)

theorem closePath_untrackedRelease (g : Nat) (s : State) : ClosePath s (untrackedRelease g s) :=
  closePath_of_ledger (untrackedRelease_ledger g s) (untrackedRelease_period g s)

theorem closePath_refusePunch (g : Nat) (p : Passage) (reason : Denial) (see : Bool) (s : State) :
    ClosePath s (refusePunch g p reason see s).state := by
  unfold refusePunch
  dsimp only
  split
  · exact closePath_of_ledger (journalDirect_ledger ..) (journalDirect_period ..)
  · exact .refl

section
variable {s : State} {w : WorkerRecord} (member : w ∈ s.workers)
include member

/-- A punch committed at once, after its claim (R88). -/
theorem closePath_claimedCommit (g : Nat) (p : Passage) (entry : Option JournalOutcome) :
    ClosePath s (commitPunch g p entry false w (journalClaim s)) :=
  (closePath_journalClaim s).trans (closePath_commitPunch (mem_journalClaim member) ..)

theorem closePath_acceptPunch (display g : Nat) (p : Passage) : ClosePath s (acceptPunch display g p w s).state := by
  unfold acceptPunch
  dsimp only
  split
  · split
    · exact closePath_claimedCommit member g p (some .passed)
    · have pended := closePath_setWorker (v := { w with pendingGate := some g }) (mem_journalClaim member) rfl rfl rfl
      exact ((closePath_journalClaim s).trans pended).trans (closePath_still rfl rfl)
  · exact (closePath_claimedCommit member g p (some .passed)).trans (closePath_still rfl rfl)

theorem closePath_fireExit (g : Nat) (p : Passage) : ClosePath s (fireExit g p w s).state := by
  unfold fireExit
  split
  · exact closePath_claimedCommit member g p (some .fireExit)
  · exact closePath_commitPunch member g p none false

theorem closePath_exitPunch (g : Nat) (p : Passage) : ClosePath s (exitPunch g p w s).state := by
  unfold exitPunch
  split
  · exact closePath_acceptPunch member ..
  · exact (closePath_commitPunch member g p none false).trans (closePath_untrackedRelease ..)

theorem closePath_entryPunch (g : Nat) (p : Passage) : ClosePath s (entryPunch g p w s).state := by
  unfold entryPunch
  split
  · exact closePath_refusePunch ..
  · split
    · exact closePath_acceptPunch member ..
    · exact closePath_refusePunch ..

theorem closePath_releaseUntimed (g : Nat) : ClosePath s (releaseUntimed g w s).state := by
  have let_out := closePath_setWorker (v := { w with presence := .outside, changed := true }) member rfl rfl rfl
  exact let_out.trans (closePath_untrackedRelease ..)

end

theorem closePath_decidePunch (g : Nat) (p : Passage) (s : State) : ClosePath s (decidePunch g p s).state := by
  unfold decidePunch
  split
  · exact closePath_refusePunch ..
  · rename_i w found
    have member := (mem_of_worker found).1
    split
    · split
      · exact closePath_refusePunch ..
      · exact closePath_releaseUntimed member g
    · split
      · split
        · exact closePath_refusePunch ..
        · exact closePath_fireExit member ..
      · split
        · exact .refl
        · split
          · exact closePath_entryPunch member ..
          · exact closePath_exitPunch member ..

theorem closePath_takePunch (s : State) : ClosePath s (takePunch s) := by
  unfold takePunch
  split
  · exact .refl
  · rename_i l o _
    split
    · exact .refl
    · rename_i b _
      let inHand : State := { s with punch := ⟨some o, l⟩ }
      have taken : ClosePath s inHand := closePath_still rfl rfl
      exact (taken.trans (closePath_decidePunch b.gate (o.passage l b.direction) inHand)).trans (closePath_still rfl rfl)

/-! ## Starts (R165, R166) -/

theorem closePath_readyIfDue (s : State) : ClosePath s (readyIfDue s) := by
  unfold readyIfDue
  split
  · exact .single (.readied ‹_› rfl rfl)
  · exact .refl

theorem closePath_restartVoid (s : State) (g : Nat) : ClosePath s (restartVoid s g) := by
  unfold restartVoid
  split
  · rename_i p _
    have disarmed : ClosePath s (s.setGate g (s.gateAt g).disarm) := closePath_still rfl rfl
    exact disarmed.trans (closePath_resolvePassage ..)
  · exact .refl

/-- A warm start voids the passages and takes a READY event that is due (R116, R152). -/
theorem closePath_warmStart (cause : StartCause) (duration : Nat) (v : InputLevels) (s : State) :
    ClosePath s (warmStart cause duration v s) := by
  have begun : ClosePath s (s.warmBegun cause duration v) := closePath_still rfl rfl
  have voided := begun.trans (closePath_foldl closePath_restartVoid allGates (s.warmBegun cause duration v))
  have restarted : ∀ u : State, ClosePath u (applyStandings allGates (u.begun v)) := fun u =>
    closePath_of_ledger ((applyStandings_ledger ..).trans rfl) ((applyStandings_period ..).trans rfl)
  rw [warmStart_begun]
  exact (voided.trans (closePath_readyIfDue _)).trans (restarted _)

theorem closePath_coldStart (cause : StartCause) (v : InputLevels) (s : State) : ClosePath s (coldStart cause v s) :=
  .single (.blank rfl rfl)

theorem closePath_restoreStart (v : InputLevels) (s : State) : ClosePath s (restoreStart v s) := by
  unfold restoreStart
  split
  · exact closePath_warmStart ..
  · exact closePath_coldStart ..

theorem closePath_startAfter (kind : Nat) (v : InputLevels) (s : State) : ClosePath s (startAfter kind v s) := by
  unfold startAfter
  split
  · exact closePath_warmStart ..
  · split
    · exact closePath_coldStart ..
    · exact .refl

end Sys2Proof.Machine
end

section
/-! PROOFS. Every step keeps the counter of R143, the CLOSING banks of a close that stands (R145) and the stream (R146): the requests, the
events, the close of a period, and the statement. -/

namespace Sys2Proof.Machine

/-! ## Commands that leave the worker table and the Period Unit -/

/-- An outcome that leaves the Period Unit as it is in `s`. -/
abbrev KeepsPeriod (s : State) (o : Host.Outcome State Fault Refusal) : Prop := Leaves (fun t => t.period = s.period) o

theorem keepsPeriod_serve {f : State → State × Reply} {s : State} (k tag : Nat) (acts : (f s).1.period = s.period) :
    KeepsPeriod s (serve k tag f s) :=
  leaves_serve_of_linked k tag (fun _ _ same => same) rfl acts

theorem keepsPeriod_whileLive {f : State → State} {s : State} (acts : (f s).period = s.period) : KeepsPeriod s (whileLive f s) :=
  leaves_whileLive rfl acts

/-- A mode order leaves the unit where its act does. -/
theorem orderMode_period {gate : Nat} {m : ControlMode} (s : State) : (orderMode gate m id s).1.period = s.period := by
  unfold orderMode
  split
  · rfl
  · split
    · rfl
    · exact setMode_period gate m s

/-- Of the commands that leave the table, and are no act of a loop, READY_EVENT and CLOSE_READ alone change the unit. -/
theorem exec_period {i : Instr} (reads : writesLedger i = false) (still : turnsLoop i = false) (notReady : i ≠ .readyEvent)
    (notRead : ∀ tag k rewind, i ≠ .closeRead tag k rewind) (s : State) : KeepsPeriod s (exec i s) := by
  cases i with
  | shiftDefine | shiftDelete | crewDefine | tallyConfig | rateSet | workerPut | workerRemove | workerPresence | collectChanged
  | clockSet | gateCommandLockdown | periodClose | closeRelease | replySent | secondEvent | impulseEvent | punchTaken | passagePulse
  | turnstileReleaseExpired | fireTaken | mainRestored | resetnReleased => exact Bool.noConfusion reads
  | loopStart | loopStop | loopTest | loopStatus | pollSent | wakeSent | verdictSent | responseWindowExpired | loopAnswerReceived
  | loopFrameAborted | huntBoundExpired | abortQuietEnded | testFrameSettled => exact Bool.noConfusion still
  | readyEvent => exact absurd rfl notReady
  | closeRead tag k rewind => exact absurd rfl (notRead tag k rewind)
  | gateCommandNormal | gateCommandFree => exact keepsPeriod_serve _ _ (orderMode_period s)
  | clockConfig | clockRead | calendarReadShift | calendarReadCrew | calendarReadDay | calendarReadTally | calendarReadRates
  | workerGet | loopConfig | gateConfig | gateCommandRelease | gateRead | musterRead | journalRead | journalRelease | periodRead
  | cadenceDefine | bellEntryPut | bellEntryRemove | zoneConfig | bellManual | bellSilence | bellRead | restart | factoryClear | status
  | reportFetch =>
    simp only [exec, execClockConfig, execClockRead, execCalendarReadShift, execCalendarReadCrew, execCalendarReadDay,
      execCalendarReadTally, execCalendarReadRates, execWorkerGet, execLoopConfig, execGateConfig, execGateCommandRelease, execGateRead,
      execMusterRead, execJournalRead, execJournalRelease, execPeriodRead, execCadenceDefine, execBellEntryPut, execBellEntryRemove,
      execZoneConfig, execBellManual, execBellSilence, execBellRead, execRestart, execFactoryClear, execStatus, execReportFetch]
    refine keepsPeriod_serve _ _ ?_
    repeat' split
    all_goals simp
  | unknownKind kind tag body =>
    simp only [exec, execUnknownKind]
    split
    · exact keepsPeriod_serve _ _ rfl
    · split
      · exact leaves_next rfl
      · exact keepsPeriod_serve _ _ rfl
  | requestOverrun | stationFrameDiscarded | byteGapTimeout | cadenceStepEnded | hingedReleaseExpired | heldOpenExpired | contactOpens
  | contactCloses | fireCleared =>
    simp only [exec, execRequestOverrun, execStationFrameDiscarded, execByteGapTimeout, execCadenceStepEnded, execHingedReleaseExpired,
      execHeldOpenExpired, execContactOpens, execContactCloses, execFireCleared]
    refine keepsPeriod_whileLive ?_
    repeat' split
    all_goals simp
  | mainLoss | backupLow | resetnLow | firstPower | tenthTick =>
    simp only [exec, execMainLoss, execBackupLow, execResetnLow, execFirstPower, execTenthTick]
    refine leaves_next ?_
    repeat' split
    all_goals simp

/-! ## Requests and events as acts -/

/-- An outcome whose next state is led to by acts on the worker table and the Period Unit of `s`. -/
abbrev LeadsClose (s : State) (o : Host.Outcome State Fault Refusal) : Prop := Leaves (ClosePath s) o

theorem leadsClose_serve {f : State → State × Reply} {s : State} (k tag : Nat) (acts : ClosePath s (f s).1) :
    LeadsClose s (serve k tag f s) :=
  leaves_serve_of_linked k tag (fun _ _ path => path.trans (closePath_still rfl rfl)) .refl acts

theorem leadsClose_whileLive {f : State → State} {s : State} (acts : ClosePath s (f s)) : LeadsClose s (whileLive f s) :=
  leaves_whileLive .refl acts

/-- A new record shows in no row and no count, wherever its place in the table is (R48). -/
theorem closePath_install {s : State} {w : WorkerRecord} (absent : ∀ x ∈ s.workers, x.badge ≠ w.badge) (idle : w.attendance = none)
    (empty : w.closing = Bank.empty) : ClosePath s { s with workers := installWorker w s.workers } := by
  obtain ⟨before, after, whole, installed⟩ := installWorker_eq w s.workers
  refine .single (.steady rfl ?_ ?_ fun ascend => installWorker_ascends ascend absent)
  · dsimp only
    rw [installed, whole, closingRows_append, closingRows_cons_empty empty, closingRows_append]
  · dsimp only
    rw [installed, whole, taggedIn, taggedIn, List.countP_append, List.countP_append, List.countP_cons,
      WorkerRecord.taggedClosing_none idle]
    rfl

/-- A record without an attendance and with its CLOSING bank empty leaves an ordered table (R50). -/
theorem closePath_remove {s : State} (ascend : BadgesAscend s.workers) {w : WorkerRecord} (member : w ∈ s.workers)
    (idle : w.attendance = none) (empty : w.closing = Bank.empty) :
    ClosePath s { s with workers := s.workers.filter fun x => x.badge != w.badge } := by
  obtain ⟨before, after, whole⟩ := List.append_of_mem member
  have parts := ascend
  rw [whole] at parts
  obtain ⟨-, tail, cross⟩ := List.pairwise_append.mp parts
  have early : ∀ x ∈ before, x.badge ≠ w.badge := fun x hx => Nat.ne_of_lt (cross x hx w List.mem_cons_self)
  have late : ∀ x ∈ after, x.badge ≠ w.badge := fun x hx => Nat.ne_of_gt ((List.pairwise_cons.mp tail).1 x hx)
  have removed : s.workers.filter (fun x => x.badge != w.badge) = before ++ after := by
    rw [whole, List.filter_append, List.filter_cons_of_neg (by simp), List.filter_eq_self.mpr (by simpa using early),
      List.filter_eq_self.mpr (by simpa using late)]
  refine .single (.steady rfl ?_ ?_ fun _ => ascend.sublist List.filter_sublist)
  · dsimp only
    rw [removed, whole, closingRows_append, closingRows_append, closingRows_cons_empty empty]
  · dsimp only
    rw [removed, whole, taggedIn, taggedIn, List.countP_append, List.countP_append, List.countP_cons,
      WorkerRecord.taggedClosing_none idle]
    rfl

theorem execWorkerPut_close (tag : Nat) (f : WorkerFields) (s : State) : LeadsClose s (execWorkerPut tag f s) := by
  unfold execWorkerPut
  refine leadsClose_serve _ _ ?_
  split
  · exact .refl
  · split
    · rename_i w found
      obtain ⟨member, badge⟩ := mem_of_worker found
      exact closePath_setWorker member (v := w.withFields f _) badge.symm rfl rfl
    · rename_i none_found
      split
      · exact closePath_install (w := WorkerRecord.fresh f _) (worker_eq_none.mp none_found) rfl rfl
      · exact .refl

theorem execWorkerRemove_close {s : State} (ascend : BadgesAscend s.workers) (tag badge : Nat) :
    LeadsClose s (execWorkerRemove tag badge s) := by
  unfold execWorkerRemove
  refine leadsClose_serve _ _ ?_
  split
  · exact .refl
  · split
    · exact .refl
    · rename_i w found
      obtain ⟨member, rfl⟩ := mem_of_worker found
      split
      · exact .refl
      · rename_i free
        obtain ⟨idle, -⟩ : w.attendance = none ∧ w.pendingGate = none := by simpa using free
        split
        · exact .refl
        · rename_i spent
          obtain ⟨-, empty⟩ : w.current = Bank.empty ∧ w.closing = Bank.empty := by simpa [Bank.isEmpty] using spent
          exact closePath_remove ascend member idle empty

theorem execWorkerPresence_close (tag badge presence : Nat) (s : State) : LeadsClose s (execWorkerPresence tag badge presence s) := by
  unfold execWorkerPresence
  refine leadsClose_serve _ _ ?_
  split
  · split
    · exact .refl
    · rename_i p _ _ _ w found
      split
      · exact .refl
      · exact closePath_setWorker (mem_of_worker found).1 (v := { w with presence := p, changed := true }) rfl rfl rfl
  · exact .refl

theorem execCollectChanged_close (tag cursor k : Nat) (s : State) : LeadsClose s (execCollectChanged tag cursor k s) := by
  unfold execCollectChanged
  refine leadsClose_serve _ _ ?_
  split
  · exact .refl
  · refine .single (.mapped _ rfl rfl (fun w => ?_) (fun w => ?_) fun w _ => ?_)
    all_goals split <;> rfl

/-- A large step marks the bank that an open attendance's tag names (R47). -/
theorem markStepped_posts (p : PeriodUnit) (w : WorkerRecord) : Posts p p w (markStepped w) := by
  unfold markStepped
  cases attended : w.attendance with
  | none => exact .same rfl rfl rfl
  | some a => exact posts_raise (owned_of_attended attended) .timeStepped

theorem markStepped_taggedClosing (w : WorkerRecord) : (markStepped w).taggedClosing = w.taggedClosing := by
  refine WorkerRecord.taggedClosing_congr ?_
  unfold markStepped
  split
  · rfl
  · exact raise_attendance ..

theorem closePath_timeStep (before : Nat) (s : State) : ClosePath s (timeStep before s) := by
  unfold timeStep
  dsimp only
  split
  · exact .single (.mapped markStepped rfl rfl markStepped_badge markStepped_taggedClosing
      fun w free => ((markStepped_posts s.period w).settled free).2)
  · exact closePath_still rfl rfl

theorem execClockSet_close (tag day second : Nat) (s : State) : LeadsClose s (execClockSet tag day second s) := by
  unfold execClockSet
  refine leadsClose_serve _ _ ?_
  split
  · exact .refl
  · let timed : State := { s with
      time := { { s.time with day := day, second := second }.restart with validity := .set }
      follower := { s.follower with minuteWindow := s.follower.window } }
    have set : ClosePath s timed := closePath_still rfl rfl
    exact (set.trans (closePath_timeStep s.plantSecond timed)).trans
      (closePath_of_ledger (followerClockSet_ledger _) (followerClockSet_period _))

/-- A stream read walks its cursor, and the stream stays (R147, R148). -/
theorem closePath_deliver {s : State} (ordered : s.WorkersOrdered) (closed : s.period.state = .ready ∨ s.period.state = .drained)
    (rewind : Bool) (k : Nat) : ClosePath s (deliver k (s.rewoundIf rewind)).1 := by
  have frame := (deliver_frame k (s.rewoundIf rewind)).1
  refine .single (.walked closed ?_ ?_ ?_ fun stands => ?_)
  · rw [frame]
    cases rewind <;> rfl
  · rw [frame]
    cases rewind <;> rfl
  · refine deliver_state k _ ?_
    cases rewind
    · exact closed
    · exact .inl rfl
  · have ordered' : (s.rewoundIf rewind).WorkersOrdered := by cases rewind <;> exact ordered
    obtain ⟨-, later, -⟩ := deliver_walks ordered' ((stands.reading closed).rewoundIf rewind).1 k
    exact later.stands

theorem execCloseRead_close {s : State} (ordered : s.WorkersOrdered) (tag k : Nat) (rewind : Bool) :
    LeadsClose s (execCloseRead tag k rewind s) := by
  unfold execCloseRead
  refine leadsClose_serve _ _ ?_
  split
  · exact .refl
  · split
    · exact .refl
    · rename_i closed
      have closed' : s.period.state = .ready ∨ s.period.state = .drained := by
        cases state : s.period.state <;> simp [state] at closed ⊢
      exact closePath_deliver ordered closed' rewind k

theorem execCloseRelease_close (tag : Nat) (s : State) : LeadsClose s (execCloseRelease tag s) := by
  unfold execCloseRelease
  refine leadsClose_serve _ _ ?_
  split
  · exact .refl
  · exact .single (.released (not_not.mp ‹_›) rfl rfl rfl)

theorem closePath_bells {s u : State} (b : Bells) (path : ClosePath s u) : ClosePath s { u with bells := b } :=
  path.trans (closePath_still rfl rfl)

/-! ## Every command but PERIOD_CLOSE -/

/-- Every command but a close is a sequence of acts on the worker table and the Period Unit. -/
theorem exec_closePath {s : State} (ordered : s.WorkersOrdered) {i : Instr} (other : ∀ tag number, i ≠ .periodClose tag number) :
    LeadsClose s (exec i s) := by
  have ascend : BadgesAscend s.workers := ordered.2.1
  by_cases turns : turnsLoop i = true
  · exact fun t next => (exec_loopPath turns s t next).close
  by_cases ready : i = .readyEvent
  · subst ready
    exact leadsClose_whileLive (closePath_readyIfDue s)
  by_cases read : ∃ tag k rewind, i = .closeRead tag k rewind
  · obtain ⟨tag, k, rewind, rfl⟩ := read
    exact execCloseRead_close ordered tag k rewind
  by_cases reads : writesLedger i = false
  · exact fun t next => closePath_of_ledger (exec_ledger reads s t next) (exec_period reads (by simpa using turns) ready
      (fun tag k rewind e => read ⟨tag, k, rewind, e⟩) s t next)
  cases i with
  | periodClose tag number => exact absurd rfl (other tag number)
  | shiftDefine | shiftDelete | crewDefine | tallyConfig | rateSet =>
    simp only [exec, execShiftDefine, execShiftDelete, execCrewDefine, execTallyConfig, execRateSet]
    refine leadsClose_serve _ _ ?_
    repeat' split
    all_goals exact closePath_still rfl rfl
  | workerPut tag f => exact execWorkerPut_close tag f s
  | workerRemove tag badge => exact execWorkerRemove_close ascend tag badge
  | workerPresence tag badge presence => exact execWorkerPresence_close tag badge presence s
  | collectChanged tag cursor k => exact execCollectChanged_close tag cursor k s
  | clockSet tag day second => exact execClockSet_close tag day second s
  | gateCommandLockdown tag gate =>
    refine leadsClose_serve 0x41 tag ?_
    unfold orderMode
    split
    · exact .refl
    · split
      · exact .refl
      · have moded : ClosePath s (setMode gate .lockdown s) := closePath_of_ledger (setMode_ledger ..) (setMode_period ..)
        exact moded.trans (closePath_lockdownPassage gate _)
  | closeRelease tag => exact execCloseRelease_close tag s
  | replySent levels =>
    simp only [exec, execReplySent]
    refine leadsClose_whileLive ?_
    split
    · exact .refl
    · have sent : ClosePath s { s with link := { s.link with held := none } } := closePath_still rfl rfl
      split
      · exact sent.trans (closePath_startAfter _ levels _)
      · exact sent
  | secondEvent =>
    refine leaves_next ?_
    split
    · exact closePath_secondEvent ascend
    · exact .refl
  | impulseEvent line =>
    refine leadsClose_whileLive ?_
    obtain ⟨-, -, same⟩ | ⟨-, taken⟩ := qualifyImpulse_cases line s
    · rw [same]
    · rw [taken]
      have held : ClosePath s { s with follower := s.follower.hold line.line } := closePath_still rfl rfl
      exact held.trans (closePath_takeImpulse (s := { s with follower := s.follower.hold line.line }) ascend line.line)
  | punchTaken =>
    simp only [exec, execPunchTaken]
    refine leadsClose_whileLive ?_
    split
    · exact .refl
    · exact closePath_takePunch s
  | passagePulse gate input =>
    simp only [exec, execPassagePulse]
    refine leadsClose_whileLive ?_
    split
    · exact .refl
    · have held : ClosePath s (s.setGate gate ((s.gateAt gate).holdPulse input.direction)) := closePath_still rfl rfl
      exact held.trans (closePath_passagePulse ..)
  | turnstileReleaseExpired gate =>
    simp only [exec, execTurnstileReleaseExpired]
    refine leadsClose_whileLive ?_
    split
    · exact closePath_endArming ..
    · exact .refl
  | fireTaken =>
    simp only [exec, execFireTaken]
    refine leadsClose_whileLive ?_
    split
    · exact .refl
    · let reported := queueReport (.fireEvent true s.plantSecond) { s with fire := true }
      have begun : ClosePath s reported := closePath_still rfl rfl
      have fired := begun.trans (closePath_foldl (fun u g => closePath_gateFire g u) allGates reported)
      exact closePath_bells _ fired
  | mainRestored levels =>
    refine leaves_next ?_
    split
    · exact .refl
    · let running : State := { s with supply := { s.supply with state := .run } }
      have restored : ClosePath s running := closePath_still rfl rfl
      dsimp only
      split
      · exact restored.trans (closePath_restoreStart levels running)
      · exact closePath_still rfl rfl
  | resetnReleased levels =>
    refine leaves_next ?_
    split
    · exact .refl
    · let released : State := { s with supply := { s.supply with resetnHigh := true } }
      have high : ClosePath s released := closePath_still rfl rfl
      dsimp only
      split
      · exact high
      · split
        · exact high.trans (closePath_restoreStart levels released)
        · exact high.trans (closePath_warmStart .resetn 0 levels released)
  | _ => exact absurd rfl reads

/-! ## PERIOD_CLOSE, and every step -/

/-- The close event leaves a part that is PENDING, its tagged attendances counted (R141, R143). -/
theorem closePeriod_counted (number : Nat) (s : State) : (closePeriod number s).ClosingCounted :=
  ⟨rfl, fun calm => absurd rfl calm⟩

/-- A close from FREE leaves the count of R143, and a stream that stands where the READY event is within it (R141, R144). -/
theorem carried_close {s : State} (ascend : BadgesAscend s.workers) (free : s.period.state = .free) (number : Nat) :
    Carried s (readyIfDue (closePeriod number s)) := by
  have ascend' : BadgesAscend (closePeriod number s).workers := List.pairwise_map.mpr ascend
  obtain ⟨ascends, counted, -, stands⟩ := (closePath_readyIfDue _).carries ascend' (closePeriod_counted number s)
  refine ⟨ascends, counted, fun closed => ?_, fun _ => stands (streamStands_of_pending rfl)⟩
  rw [free] at closed
  obtain h | h := closed <;> cases h

theorem execPeriodClose_carried {s : State} (ascend : BadgesAscend s.workers) (counted : s.ClosingCounted) (tag number : Nat) :
    Leaves (Carried s) (execPeriodClose tag number s) := by
  have stays : Carried s s := .refl ascend counted
  unfold execPeriodClose
  refine leaves_serve_of_linked 0x50 tag (fun u l h => h.steady rfl rfl rfl id) stays ?_
  split
  · exact stays
  · split
    · exact stays
    · split
      · exact stays
      · exact carried_close ascend (not_not.mp ‹_›) number

/-- Every command carries the laws of the close. -/
theorem exec_carried {s : State} (ordered : s.WorkersOrdered) (counted : s.ClosingCounted) (i : Instr) : Leaves (Carried s) (exec i s) := by
  have ascend : BadgesAscend s.workers := ordered.2.1
  by_cases close : ∃ tag number, i = .periodClose tag number
  · obtain ⟨tag, number, rfl⟩ := close
    exact execPeriodClose_carried ascend counted tag number
  · have path := exec_closePath ordered fun tag number e => close ⟨tag, number, e⟩
    exact fun t next => (path t next).carries ascend counted

/-- Every step carries the laws of the close. -/
theorem step_carried {s t : State} (ordered : s.WorkersOrdered) (counted : s.ClosingCounted) (next : step s = .next t) : Carried s t := by
  have ascend : BadgesAscend s.workers := ordered.2.1
  unfold step at next
  split at next
  · obtain rfl := Host.Outcome.next.inj next
    exact (closePath_crystalPeriod ascend).carries ascend counted
  · rename_i i rest _
    obtain ⟨ascends, kept, settled, stands⟩ := exec_carried (s := { s with pending := rest }) ordered counted i t next
    exact ⟨ascends, kept, settled, stands⟩

/-- Settles O57: what every step carries, read off from READY and DRAINED to READY and DRAINED. -/
theorem everyStepKeepsTheCloseStream : Obligations.EveryStepKeepsTheCloseStream := by
  unfold Obligations.EveryStepKeepsTheCloseStream
  intro s ordered counted t next
  obtain ⟨-, kept, settled, stands⟩ := step_carried ordered counted next
  refine ⟨kept, fun before after => ?_, stands⟩
  obtain free | ⟨-, rows⟩ := settled before
  · rw [free] at after
    obtain h | h := after <;> cases h
  · exact rows

end Sys2Proof.Machine
end

section
/-! PROOFS. What every step keeps in range (Tables 1.1, 1.2, 2.1 to 2.3, 4.2; R54, R158, R169): one relation between a part and a later one,
and the operations of the gates, the journal and the punches that touch nothing it reads but the reports. -/

namespace Sys2Proof.Machine

/-! ## The relation -/

/-- What the ranges read of a part. -/
def State.ranged (s : State) : Timebase × Follower × (Vector (Option ShiftDef) 15 × Vector Rotation 8 × TallyParams × Vector Nat 16) ×
    Vector LoopState 4 × Vector Zone 4 × Bool × List Report :=
  (s.time, s.follower, (s.calendar.shifts, s.calendar.rotations, s.calendar.tally, s.calendar.rates), s.loops, s.bells.zones, s.fire,
    s.link.reports)

/-- Each block that is in its ranges in `s` is in them in `t`. -/
structure State.KeepsRanges (s t : State) : Prop where
  time : s.TimeInRange → t.TimeInRange
  follower : s.FollowerInRange → t.FollowerInRange
  calendar : s.CalendarInTable → t.CalendarInTable
  loops : s.LoopsInOrder → t.LoopsInOrder
  zones : s.ZonesInOrder → t.ZonesInOrder
  reports : s.ReportsFit → t.ReportsFit

theorem State.KeepsRanges.refl (s : State) : s.KeepsRanges s := ⟨id, id, id, id, id, id⟩

theorem State.KeepsRanges.trans {s t u : State} (first : s.KeepsRanges t) (second : t.KeepsRanges u) : s.KeepsRanges u :=
  ⟨second.time ∘ first.time, second.follower ∘ first.follower, second.calendar ∘ first.calendar, second.loops ∘ first.loops,
    second.zones ∘ first.zones, second.reports ∘ first.reports⟩

/-- An operation that writes nothing the ranges read. -/
theorem keepsRanges_of_ranged {s t : State} (same : t.ranged = s.ranged) : s.KeepsRanges t := by
  simp only [State.ranged, Prod.mk.injEq] at same
  obtain ⟨time, follower, ⟨shifts, rotations, tally, rates⟩, loops, zones, fire, reports⟩ := same
  constructor
  · simp only [State.TimeInRange, time, imp_self]
  · simp only [State.FollowerInRange, follower, imp_self]
  · simp only [State.CalendarInTable, Calendar.shiftOf, Calendar.rotationOf, shifts, rotations, tally, rates, imp_self]
  · simp only [State.LoopsInOrder, State.loopAt, loops, imp_self]
  · simp only [State.ZonesInOrder, Bells.zoneAt, zones, fire, imp_self]
  · simp only [State.ReportsFit, reports, imp_self]

theorem keepsRanges_ite {s : State} {c : Prop} [Decidable c] {t u : State} (yes : c → s.KeepsRanges t) (no : ¬ c → s.KeepsRanges u) :
    s.KeepsRanges (if c then t else u) := by
  split
  · exact yes ‹_›
  · exact no ‹_›

theorem keepsRanges_foldl {α : Type} {act : State → α → State} (one : ∀ (s : State) (x : α), s.KeepsRanges (act s x)) (xs : List α) :
    ∀ s : State, s.KeepsRanges (xs.foldl act s) := by
  induction xs with
  | nil => exact State.KeepsRanges.refl
  | cons x rest ih => exact fun s => (one s x).trans (ih (act s x))

/-! ## Requests, events and reports (R168, R169) -/

theorem keepsRanges_serve {f : State → State × Reply} {s : State} (k tag : Nat) (acts : s.KeepsRanges (f s).1) :
    Leaves s.KeepsRanges (serve k tag f s) := by
  obtain ⟨-, e⟩ | ⟨-, -, e⟩ | ⟨-, e⟩ := serve_cases k tag f s
  · rw [e]; exact leaves_next (.refl s)
  · rw [e]; exact leaves_next (keepsRanges_of_ranged rfl)
  · rw [e]; exact leaves_next (acts.trans (keepsRanges_of_ranged rfl))

theorem keepsRanges_whileLive {f : State → State} {s : State} (acts : s.KeepsRanges (f s)) : Leaves s.KeepsRanges (whileLive f s) :=
  leaves_whileLive (.refl s) acts

theorem keepsRanges_queueReport (r : Report) (s : State) : s.KeepsRanges (queueReport r s) :=
  ⟨id, id, id, id, id, (s.link.queue_reports r).2⟩

/-! ## The journal (R120, R122) -/

theorem keepsRanges_noteLimit (s : State) : s.KeepsRanges (noteLimit s) :=
  keepsRanges_ite (fun _ => keepsRanges_queueReport ..) fun _ => keepsRanges_ite (fun _ => keepsRanges_queueReport ..) fun _ => .refl s

theorem keepsRanges_journalClaim (s : State) : s.KeepsRanges (journalClaim s) := by
  have claimed : s.KeepsRanges { s with journal := { s.journal with reserved := s.journal.reserved + 1 } } := keepsRanges_of_ranged rfl
  exact claimed.trans (keepsRanges_noteLimit _)

theorem keepsRanges_journalDirect (e : JournalEntry) (s : State) : s.KeepsRanges (journalDirect e s) := by
  have written : s.KeepsRanges { s with journal := s.journal.write e } := keepsRanges_of_ranged rfl
  exact written.trans (keepsRanges_noteLimit _)

/-! ## Gates (R96, R100, R101, R104 to R109) -/

theorem keepsRanges_setGate (s : State) (g : Nat) (x : Gate) : s.KeepsRanges (s.setGate g x) := keepsRanges_of_ranged rfl

theorem keepsRanges_gateAlarm (g : Nat) (alarm : Alarm) (phase : AlarmPhase) (dir : Option Direction) (s : State) :
    s.KeepsRanges (gateAlarm g alarm phase dir s) := keepsRanges_queueReport ..

theorem keepsRanges_clearAlarm (g : Nat) (x : Gate) (s : State) : s.KeepsRanges (clearAlarm g x s) := by
  unfold clearAlarm
  split
  · exact keepsRanges_gateAlarm ..
  · exact keepsRanges_gateAlarm ..
  · exact .refl s

theorem keepsRanges_applyStanding (g : Nat) (s : State) : s.KeepsRanges (applyStanding g s) := by
  unfold applyStanding
  dsimp only
  split
  · exact .refl s
  · exact keepsRanges_ite (fun _ => keepsRanges_ite (fun _ => keepsRanges_setGate ..) fun _ => .refl s) fun _ =>
      keepsRanges_ite (fun _ => .refl s) fun _ => (keepsRanges_clearAlarm ..).trans (keepsRanges_setGate ..)

theorem keepsRanges_applyStandings (gs : List Nat) (s : State) : s.KeepsRanges (applyStandings gs s) :=
  keepsRanges_foldl (fun s g => keepsRanges_applyStanding g s) gs s

theorem keepsRanges_resolvePassage (g : Nat) (p : Passage) (cause : Resolution) (s : State) :
    s.KeepsRanges (resolvePassage g p cause s) := by
  rw [resolvePassage_frame]
  exact keepsRanges_of_ranged rfl

theorem keepsRanges_endArming (g : Nat) (cause : Resolution) (s : State) : s.KeepsRanges (endArming g cause s) := by
  have disarmed := keepsRanges_setGate s g (s.gateAt g).disarm
  unfold endArming
  dsimp only
  split
  · exact disarmed.trans (keepsRanges_resolvePassage ..)
  · exact disarmed

theorem keepsRanges_lockdownPassage (g : Nat) (s : State) : s.KeepsRanges (lockdownPassage g s) := by
  unfold lockdownPassage
  split
  · exact keepsRanges_ite (fun _ => keepsRanges_endArming ..) fun _ => .refl s
  · exact .refl s

theorem keepsRanges_passagePulse (g : Nat) (d : Direction) (s : State) : s.KeepsRanges (passagePulse g d s) :=
  keepsRanges_ite (fun _ => keepsRanges_endArming ..) fun _ => keepsRanges_ite (fun _ => .refl s) fun _ => keepsRanges_gateAlarm ..

theorem keepsRanges_gateFire (g : Nat) (s : State) : s.KeepsRanges (gateFire g s) := by
  unfold gateFire
  dsimp only
  split
  · exact (keepsRanges_endArming ..).trans (keepsRanges_applyStanding ..)
  · exact keepsRanges_applyStanding ..

theorem keepsRanges_untrackedRelease (g : Nat) (s : State) : s.KeepsRanges (untrackedRelease g s) := by
  unfold untrackedRelease
  dsimp only
  split
  · exact keepsRanges_setGate ..
  · exact keepsRanges_ite (fun _ => .refl s) fun _ => keepsRanges_setGate ..

theorem keepsRanges_contactOpens (g : Nat) (s : State) : s.KeepsRanges (contactOpens g s) := by
  unfold contactOpens
  dsimp only
  split
  · exact (keepsRanges_setGate ..).trans (keepsRanges_gateAlarm ..)
  all_goals exact keepsRanges_setGate ..

theorem keepsRanges_contactCloses (g : Nat) (s : State) : s.KeepsRanges (contactCloses g s) := by
  unfold contactCloses
  dsimp only
  split
  · exact keepsRanges_setGate ..
  · exact (keepsRanges_setGate ..).trans (keepsRanges_gateAlarm ..)
  · exact (keepsRanges_setGate ..).trans (keepsRanges_gateAlarm ..)
  all_goals exact keepsRanges_setGate ..

theorem keepsRanges_configureGate (g : Nat) (c : GateConfig) (in0 in1 : Bool) (s : State) :
    s.KeepsRanges (configureGate g c in0 in1 s) := by
  have partnered : s.KeepsRanges { s with gates := repartner g c.partner s.gates } := keepsRanges_of_ranged rfl
  unfold configureGate
  dsimp only
  refine State.KeepsRanges.trans (partnered.trans ?_) (keepsRanges_applyStanding ..)
  exact keepsRanges_ite (fun _ => keepsRanges_setGate ..) fun _ => (keepsRanges_clearAlarm ..).trans (keepsRanges_setGate ..)

theorem keepsRanges_setMode (g : Nat) (m : ControlMode) (s : State) : s.KeepsRanges (setMode g m s) :=
  (keepsRanges_setGate ..).trans (keepsRanges_applyStanding ..)

theorem keepsRanges_orderMode {gate : Nat} {m : ControlMode} {act : State → State} (acts : ∀ s : State, s.KeepsRanges (act s)) (s : State) :
    s.KeepsRanges (orderMode gate m act s).1 := by
  unfold orderMode
  split
  · exact .refl s
  · split
    · exact .refl s
    · exact (keepsRanges_setMode ..).trans (acts _)

/-! ## Decisions (R80 to R92) -/

theorem keepsRanges_refusePunch (g : Nat) (p : Passage) (reason : Denial) (see : Bool) (s : State) :
    s.KeepsRanges (refusePunch g p reason see s).state :=
  keepsRanges_ite (fun _ => keepsRanges_journalDirect ..) fun _ => .refl s

theorem keepsRanges_commitNow (display g : Nat) (p : Passage) (entry : Option JournalOutcome) (w : WorkerRecord) (s : State) :
    s.KeepsRanges (commitNow display g p entry w s).state := by
  change s.KeepsRanges (commitPunch g p entry false w s)
  rw [commitPunch_frame]
  exact keepsRanges_of_ranged rfl

theorem keepsRanges_acceptPunch (display g : Nat) (p : Passage) (w : WorkerRecord) (s : State) :
    s.KeepsRanges (acceptPunch display g p w s).state := by
  have committed := (keepsRanges_journalClaim s).trans (keepsRanges_commitNow display g p (some .passed) w _)
  unfold acceptPunch
  dsimp only
  split
  · split
    · exact committed
    · exact (keepsRanges_journalClaim s).trans (keepsRanges_of_ranged rfl)
  · exact committed.trans (keepsRanges_setGate ..)

theorem keepsRanges_fireExit (g : Nat) (p : Passage) (w : WorkerRecord) (s : State) : s.KeepsRanges (fireExit g p w s).state := by
  unfold fireExit
  split
  · exact (keepsRanges_journalClaim s).trans (keepsRanges_commitNow ..)
  · exact keepsRanges_commitNow ..

theorem keepsRanges_exitPunch (g : Nat) (p : Passage) (w : WorkerRecord) (s : State) : s.KeepsRanges (exitPunch g p w s).state := by
  unfold exitPunch
  split
  · exact keepsRanges_acceptPunch ..
  · exact (keepsRanges_commitNow ..).trans (keepsRanges_untrackedRelease ..)

theorem keepsRanges_entryPunch (g : Nat) (p : Passage) (w : WorkerRecord) (s : State) : s.KeepsRanges (entryPunch g p w s).state := by
  unfold entryPunch
  split
  · exact keepsRanges_refusePunch ..
  · split
    · exact keepsRanges_acceptPunch ..
    · exact keepsRanges_refusePunch ..

theorem keepsRanges_releaseUntimed (g : Nat) (w : WorkerRecord) (s : State) : s.KeepsRanges (releaseUntimed g w s).state :=
  State.KeepsRanges.trans (t := setWorker { w with presence := .outside, changed := true } s) (keepsRanges_of_ranged rfl)
    (keepsRanges_untrackedRelease ..)

theorem keepsRanges_decidePunch (g : Nat) (p : Passage) (s : State) : s.KeepsRanges (decidePunch g p s).state := by
  unfold decidePunch
  split
  · exact keepsRanges_refusePunch ..
  · split
    · split
      · exact keepsRanges_refusePunch ..
      · exact keepsRanges_releaseUntimed ..
    · split
      · split
        · exact keepsRanges_refusePunch ..
        · exact keepsRanges_fireExit ..
      · split
        · exact .refl s
        · split
          · exact keepsRanges_entryPunch ..
          · exact keepsRanges_exitPunch ..

/-! ## The close (R144, R147) -/

theorem keepsRanges_readyIfDue (s : State) : s.KeepsRanges (readyIfDue s) := by
  have summed : s.KeepsRanges { s with period := (readyEvent s).period } := keepsRanges_of_ranged rfl
  exact keepsRanges_ite (fun _ => summed.trans (keepsRanges_queueReport ..)) fun _ => .refl s

theorem keepsRanges_deliver (k : Nat) (s : State) : s.KeepsRanges (deliver k s).1 := by
  rw [(deliver_frame k s).1]
  exact keepsRanges_of_ranged rfl

end Sys2Proof.Machine
end

section
/-! PROOFS. Every operation of a reader loop keeps the loops in their order (Tables 4.2, 4.6; R54, R68, R70, R71, R75): the law of one loop,
the exchange, the requests, and the return of a verdict. -/

namespace Sys2Proof.Machine

/-! ## One loop in order -/

/-- Bindings in ascending order of address, at most eight, each an address and a gate of the part (R54). -/
def RowsInTable (rows : List (Nat × Nat)) : Prop :=
  rows.Pairwise (fun a b => a.1 < b.1) ∧ rows.length ≤ 8 ∧ ∀ x ∈ rows, (1 ≤ x.1 ∧ x.1 ≤ 8) ∧ x.2 ≤ 15

/-- The loop is in a state in which it polls (Table 4.6). -/
def LoopState.Exchanging (l : LoopState) : Prop := l.mode ≠ .off ∧ l.mode ≠ .testing

/-- The frame in hand is one of the loop's state, and the frames of a test are counted (R75, Table 4.6). -/
def LoopState.FrameInMode (l : LoopState) : Prop :=
  match l.exchange with
  | .testing k n => l.mode = .testing ∧ 1 ≤ n ∧ n ≤ k ∧ k ≤ 255 ∧ l.good + l.checkFailed + l.aborted + 1 = n
  | .idle => True
  | _ => l.Exchanging

/-- The law of one loop, part by part. -/
structure LoopState.Ordered (l : LoopState) : Prop where
  config : l.config.inTable = true
  rows : RowsInTable l.wiring
  deadRun : l.deadRun ≤ 64
  validRun : l.validRun ≤ 32
  inHand : l.FrameInMode

theorem rowsInTable_iff (l : LoopState) : RowsInTable l.wiring ↔
    (l.positions.Pairwise fun a b => a.address < b.address) ∧ l.positions.length ≤ 8 ∧
      ∀ p ∈ l.positions, (1 ≤ p.address ∧ p.address ≤ 8) ∧ p.gate ≤ 15 := by
  simp [RowsInTable, LoopState.wiring, List.pairwise_map]

theorem LoopState.inOrder_iff (l : LoopState) : l.inOrder = true ↔ l.Ordered := by
  have parts : l.inOrder = true ↔ l.config.inTable = true ∧ RowsInTable l.wiring ∧ l.deadRun ≤ 64 ∧ l.validRun ≤ 32 ∧ l.FrameInMode := by
    rw [rowsInTable_iff]
    simp only [LoopState.inOrder, LoopState.FrameInMode, LoopState.Exchanging, Bool.and_eq_true, decide_eq_true_eq, List.all_eq_true,
      within_iff, and_assoc]
    cases l.exchange <;> simp [and_assoc]
  rw [parts]
  exact ⟨fun ⟨config, rows, dead, valid, hand⟩ => ⟨config, rows, dead, valid, hand⟩,
    fun ⟨config, rows, dead, valid, hand⟩ => ⟨config, rows, dead, valid, hand⟩⟩

/-- A loop whose answer is awaited polls (Table 4.6). -/
theorem LoopState.Ordered.exchanging {l : LoopState} (h : l.Ordered) (notIdle : l.exchange ≠ .idle)
    (notTesting : ∀ k n, l.exchange ≠ .testing k n) : l.Exchanging := by
  have frame := h.inHand
  unfold LoopState.FrameInMode at frame
  split at frame
  · exact absurd ‹_› (notTesting _ _)
  · exact absurd ‹_› notIdle
  · exact frame

theorem LoopState.frameInMode_idle {l : LoopState} (idle : l.exchange = .idle) : l.FrameInMode := by
  simp [LoopState.FrameInMode, idle]

theorem LoopState.frameInMode_of_exchanging {l : LoopState} (polls : l.Exchanging) (notTesting : ∀ k n, l.exchange ≠ .testing k n) :
    l.FrameInMode := by
  unfold LoopState.FrameInMode
  split
  · exact absurd ‹_› (notTesting _ _)
  · trivial
  · exact polls

theorem pollOf_not_testing (a : Option Nat) (k n : Nat) : pollOf a ≠ .testing k n := by
  cases a <;> simp [pollOf]

/-- A loop in TRAINING, UP or LOST goes on with its next POLL. -/
theorem LoopState.Ordered.polling {l : LoopState} (h : l.Ordered) (polls : l.Exchanging) (a : Option Nat) :
    LoopState.Ordered { l with exchange := pollOf a } :=
  ⟨h.config, h.rows, h.deadRun, h.validRun, frameInMode_of_exchanging polls (pollOf_not_testing a)⟩

/-! ## A loop replaced -/

theorem keepsRanges_setLoop {s : State} {l : Nat} {y : LoopState} (ordered : (s.loopAt l).Ordered → y.Ordered) :
    s.KeepsRanges (s.setLoop l y) := by
  refine ⟨id, id, id, fun inOrder m => ?_, id, id⟩
  rw [State.loopAt_setLoop]
  split
  · rename_i here
    have before := (LoopState.inOrder_iff _).mp (inOrder ⟨l, here.2⟩)
    exact (LoopState.inOrder_iff y).mpr (ordered before)
  · exact inOrder m

theorem keepsRanges_deliverToGates (l : Nat) (s : State) : s.KeepsRanges (deliverToGates l s) := keepsRanges_applyStandings ..

theorem keepsRanges_readerEvent (l address : Nat) (cause : ReaderCause) (code : Nat) (s : State) :
    s.KeepsRanges (readerEvent l address cause code s) := keepsRanges_queueReport ..

theorem keepsRanges_changeMode {s : State} {l : Nat} (cause : LoopCause) {y : LoopState} (ordered : (s.loopAt l).Ordered → y.Ordered) :
    s.KeepsRanges (changeMode l cause y s) :=
  ((keepsRanges_setLoop ordered).trans (keepsRanges_queueReport ..)).trans (keepsRanges_deliverToGates ..)

theorem keepsRanges_setExchange {s : State} {l : Nat} {e : Exchange} (polls : (s.loopAt l).Ordered → (s.loopAt l).Exchanging)
    (notTesting : ∀ k n, e ≠ .testing k n) : s.KeepsRanges (setExchange l e s) :=
  keepsRanges_setLoop fun h =>
    ⟨h.config, h.rows, h.deadRun, h.validRun, LoopState.frameInMode_of_exchanging (polls h) notTesting⟩

theorem deliverToGates_loopAt (l m : Nat) (s : State) : (deliverToGates l s).loopAt m = s.loopAt m :=
  State.loopAt_of_loops (applyStandings_loops _ s) m

theorem changeMode_loopAt (l : Fin 4) (cause : LoopCause) (y : LoopState) (s : State) : (changeMode l cause y s).loopAt l = y :=
  (deliverToGates_loopAt ..).trans (State.loopAt_setLoop_self s l y)

/-! ## The exchange (R60, R62, R65 to R71) -/

/-- The loop as it enters UP, from a state in which it polls (R62). -/
theorem LoopState.Ordered.enterUp {l : LoopState} (h : l.Ordered) : l.enterUp.Ordered :=
  ⟨h.config, h.rows, h.deadRun, h.validRun, frameInMode_of_exchanging ⟨nofun, nofun⟩ (pollOf_not_testing _)⟩

/-- The loop as it enters TRAINING (R62). -/
theorem LoopState.Ordered.train {l : LoopState} (h : l.Ordered) : l.train.Ordered :=
  ⟨h.config, h.rows, Nat.zero_le _, h.validRun, frameInMode_of_exchanging ⟨nofun, nofun⟩ nofun⟩

theorem keepsRanges_finishExchange (l : Nat) (answer : Answer) (s : State) : s.KeepsRanges (finishExchange l answer s) := by
  unfold finishExchange
  dsimp only
  split
  · exact .refl s
  · exact .refl s
  · rename_i training
    have polls : (s.loopAt l).Exchanging := by simp [LoopState.Exchanging, training]
    exact keepsRanges_ite (fun _ => keepsRanges_changeMode _ LoopState.Ordered.enterUp) fun _ =>
      keepsRanges_setLoop fun h => h.polling polls _
  · rename_i up
    have polls : (s.loopAt l).Exchanging := by simp [LoopState.Exchanging, up]
    refine keepsRanges_ite (fun _ => keepsRanges_changeMode _ fun h => ?_) fun _ => keepsRanges_setLoop fun h => h.polling polls _
    exact ⟨h.config, h.rows, h.deadRun, Nat.zero_le _, LoopState.frameInMode_of_exchanging ⟨nofun, nofun⟩ (pollOf_not_testing _)⟩
  · rename_i lost
    have polls : (s.loopAt l).Exchanging := by simp [LoopState.Exchanging, lost]
    exact keepsRanges_ite (fun _ => keepsRanges_changeMode _ LoopState.Ordered.train) fun _ =>
      keepsRanges_setLoop fun h => h.polling polls _

/-- After the end of an exchange in which an answer was awaited the loop polls. -/
theorem finishExchange_exchanging {l : Fin 4} {answer : Answer} {s : State} {address : Nat}
    (awaits : (s.loopAt l).exchange = .awaiting address) (h : ((finishExchange l answer s).loopAt l).Ordered) :
    ((finishExchange l answer s).loopAt l).Exchanging := by
  have waiting : (s.loopAt l).Ordered → (s.loopAt l).Exchanging := fun h =>
    h.exchanging (by simp [awaits]) (by simp [awaits])
  unfold finishExchange at h ⊢
  dsimp only at h ⊢
  split
  · rename_i off
    rw [off] at h
    exact waiting h
  · rename_i testing
    rw [testing] at h
    exact waiting h
  all_goals
    rename_i mode
    split
    · rw [changeMode_loopAt]
      exact ⟨nofun, nofun⟩
    · rw [State.loopAt_setLoop_self]
      simp [LoopState.Exchanging, mode]

/-- A settled answer moves runs within their limits and rows in their places (R68, R70, R71). -/
theorem LoopState.Ordered.settled {l : LoopState} (h : l.Ordered) (address : Nat) (answer : Answer) :
    (l.settled address answer).Ordered where
  config := h.config
  rows := by
    rw [LoopState.settled_wiring]
    exact h.rows
  deadRun := by
    unfold LoopState.settled
    dsimp only
    split <;> omega
  validRun := by
    have before := h.validRun
    unfold LoopState.settled
    dsimp only
    repeat' split
    all_goals omega
  inHand := h.inHand

theorem keepsRanges_settleAnswer (l address : Nat) (answer : Answer) (s : State) : s.KeepsRanges (settleAnswer l address answer s) := by
  have settled : s.KeepsRanges (s.setLoop l ((s.loopAt l).settled address answer)) := keepsRanges_setLoop fun h => h.settled address answer
  unfold settleAnswer
  dsimp only
  split
  · refine settled.trans (.trans ?_ (keepsRanges_deliverToGates ..))
    exact keepsRanges_ite (fun _ => .refl _) fun _ => keepsRanges_readerEvent ..
  · exact (settled.trans (keepsRanges_readerEvent ..)).trans (keepsRanges_deliverToGates ..)
  · exact settled

theorem settleAnswer_loopAt (l : Fin 4) (address : Nat) (answer : Answer) (s : State) :
    (settleAnswer l address answer s).loopAt l = (s.loopAt l).settled address answer := by
  have at_l := State.loopAt_setLoop_self s l ((s.loopAt l).settled address answer)
  unfold settleAnswer
  dsimp only
  split
  · rw [deliverToGates_loopAt]
    split <;> exact at_l
  · rw [deliverToGates_loopAt]
    exact at_l
  · exact at_l

theorem keepsRanges_takePunchAnswer {l : Fin 4} {s : State} {awaited : Nat} (awaits : (s.loopAt l).exchange = .awaiting awaited)
    (address sequence badge : Nat) : s.KeepsRanges (takePunchAnswer l address sequence badge s) := by
  have exchanged : ∀ e : Exchange, (∀ k n, e ≠ .testing k n) → s.KeepsRanges (setExchange l e s) := fun e =>
    keepsRanges_setExchange fun h => h.exchanging (by simp [awaits]) (by simp [awaits])
  unfold takePunchAnswer
  dsimp only
  split
  · exact keepsRanges_finishExchange ..
  · split
    · exact keepsRanges_ite (fun _ => exchanged _ nofun) fun _ => exchanged _ nofun
    · exact exchanged _ nofun

theorem keepsRanges_actOnAnswer {l : Fin 4} {s : State} {awaited : Nat} (awaits : (s.loopAt l).exchange = .awaiting awaited)
    (address : Nat) (answer : Answer) : s.KeepsRanges (actOnAnswer l address answer s) := by
  have settled := keepsRanges_settleAnswer l address answer s
  have still : ((settleAnswer l address answer s).loopAt l).exchange = .awaiting awaited := by
    rw [settleAnswer_loopAt]
    exact awaits
  unfold actOnAnswer
  dsimp only
  split
  · exact settled.trans (keepsRanges_finishExchange ..)
  · exact settled.trans (keepsRanges_finishExchange ..)
  · exact settled.trans (keepsRanges_finishExchange ..)
  · exact (settled.trans (keepsRanges_readerEvent ..)).trans (keepsRanges_finishExchange ..)
  · exact settled.trans (keepsRanges_takePunchAnswer still ..)

theorem LoopState.Ordered.latch {l : LoopState} (h : l.Ordered) (r : Receiver) : (l.latch r).Ordered :=
  ⟨h.config, h.rows, h.deadRun, h.validRun, h.inHand⟩

theorem keepsRanges_latch (l : Nat) (r : Receiver) (s : State) : s.KeepsRanges (s.setLoop l ((s.loopAt l).latch r)) :=
  keepsRanges_setLoop fun h => h.latch r

theorem keepsRanges_abortAnswer {l : Fin 4} {s : State} {awaited : Nat} (awaits : (s.loopAt l).exchange = .awaiting awaited)
    (address : Nat) (r : Receiver) : s.KeepsRanges (abortAnswer l address r s) := by
  let latched := s.setLoop l ((s.loopAt l).latch r)
  have still : ((settleAnswer l address .corrupted latched).loopAt l).exchange = .awaiting awaited := by
    rw [settleAnswer_loopAt, State.loopAt_setLoop_self]
    exact awaits
  have ended := ((keepsRanges_latch l r s).trans (keepsRanges_settleAnswer l address .corrupted _)).trans
    (keepsRanges_finishExchange l .corrupted _)
  exact ended.trans (keepsRanges_setExchange (finishExchange_exchanging still) nofun)

theorem keepsRanges_whileAwaiting {l : Fin 4} {f : Nat → State → State} {s : State}
    (acts : ∀ address, (s.loopAt l).exchange = .awaiting address → s.KeepsRanges (f address s)) :
    Leaves s.KeepsRanges (whileAwaiting l f s) := by
  refine keepsRanges_whileLive ?_
  split
  · exact acts _ ‹_›
  · exact .refl s

/-! ## Requests of a loop (R54, R61, R63, R74, R76) -/

theorem LoopState.wiring_map {f : Position → Position} (keeps : ∀ p, (f p).address = p.address ∧ (f p).gate = p.gate) (l : LoopState) :
    LoopState.wiring { l with positions := l.positions.map f } = l.wiring := by
  simp [LoopState.wiring, Function.comp_def, keeps]

theorem LoopState.Ordered.started {l : LoopState} (h : l.Ordered) : l.started.Ordered where
  config := h.config
  rows := (LoopState.wiring_map (f := Position.cleared) (fun _ => ⟨rfl, rfl⟩) l).symm ▸ h.rows
  deadRun := Nat.zero_le _
  validRun := Nat.zero_le _
  inHand := frameInMode_of_exchanging ⟨nofun, nofun⟩ nofun

theorem LoopState.Ordered.stopped {l : LoopState} (h : l.Ordered) : l.stopped.Ordered :=
  ⟨h.config, h.rows, h.deadRun, h.validRun, frameInMode_idle rfl⟩

/-- The loop at the first of the frames of a test (R74, R75). -/
theorem LoopState.Ordered.tested {l : LoopState} (h : l.Ordered) {k : Nat} (inRange : 1 ≤ k ∧ k ≤ 255) :
    LoopState.Ordered { l with mode := .testing, good := 0, checkFailed := 0, aborted := 0, exchange := .testing k 1 } :=
  ⟨h.config, h.rows, h.deadRun, h.validRun, ⟨rfl, Nat.le_refl 1, inRange.1, inRange.2, rfl⟩⟩

/-- A configuration that R54 admits lies in Table 4.2, and its bindings stand in their places. -/
theorem LoopState.Ordered.configured {l : LoopState} (h : l.Ordered) {f : LoopFields} {c : LoopConfig}
    (valid : loopConfigOf f = some c) : LoopState.Ordered { l with config := c, positions := l.bound f } := by
  have inTable : LoopFieldsInTable f := by
    by_contra outside
    simp [loopConfigOf_outside outside] at valid
  obtain ⟨rate, coding, check, made, -⟩ := loopConfigOf_inTable inTable
  obtain rfl := Option.some.inj (made.symm.trans valid)
  obtain ⟨-, -, -, npre, npre', nsync, nsync', window, window', nmiss, nmiss', dlos, dlos', clos, clos', few, apart, bindings⟩ := inTable
  have stored := sorted_bindings_perm f.positions
  refine ⟨?_, (rowsInTable_iff _).mpr ⟨?_, ?_, ?_⟩, h.deadRun, h.validRun, ?_⟩
  · simp [LoopConfig.inTable, within_iff, *]
  · exact List.pairwise_map.mpr (sorted_bindings_ascend apart)
  · simpa [LoopState.bound, stored.length_eq] using few
  · intro p member
    obtain ⟨b, carried, rfl⟩ := List.mem_map.mp member
    obtain ⟨low, high, gate, -⟩ := bindings b (stored.mem_iff.mp carried)
    exact ⟨⟨low, high⟩, gate⟩
  · exact h.inHand

theorem keepsRanges_loopConfig (tag loop : Nat) (fields : LoopFields) (s : State) :
    Leaves s.KeepsRanges (execLoopConfig tag loop fields s) := by
  unfold execLoopConfig
  refine keepsRanges_serve _ _ ?_
  split
  · exact .refl s
  · split
    · exact .refl s
    · split
      · exact .refl s
      · rename_i c valid
        exact (keepsRanges_setLoop fun h => h.configured valid).trans (keepsRanges_applyStandings ..)

theorem keepsRanges_loopStart (tag loop : Nat) (s : State) : Leaves s.KeepsRanges (execLoopStart tag loop s) := by
  unfold execLoopStart
  refine keepsRanges_serve _ _ ?_
  split
  · exact .refl s
  · dsimp only
    split
    · exact .refl s
    · exact keepsRanges_changeMode _ LoopState.Ordered.started

theorem keepsRanges_loopStop (tag loop : Nat) (s : State) : Leaves s.KeepsRanges (execLoopStop tag loop s) := by
  unfold execLoopStop
  refine keepsRanges_serve _ _ ?_
  split
  · exact .refl s
  · dsimp only
    split
    · exact keepsRanges_setLoop fun h => ⟨h.config, h.rows, h.deadRun, h.validRun, h.inHand⟩
    · exact keepsRanges_changeMode _ LoopState.Ordered.stopped

theorem keepsRanges_loopTest (tag loop k : Nat) (s : State) : Leaves s.KeepsRanges (execLoopTest tag loop k s) := by
  unfold execLoopTest
  refine keepsRanges_serve _ _ ?_
  split
  · exact .refl s
  · rename_i inRange
    obtain ⟨-, count⟩ : within 0 loop 3 = true ∧ within 1 k 255 = true := by simpa using inRange
    dsimp only
    split
    · exact .refl s
    · exact keepsRanges_changeMode _ fun h => h.tested ((within_iff ..).mp count)

theorem keepsRanges_loopStatus (tag loop : Nat) (clear : Bool) (s : State) : Leaves s.KeepsRanges (execLoopStatus tag loop clear s) := by
  unfold execLoopStatus
  refine keepsRanges_serve _ _ ?_
  split
  · exact .refl s
  · exact keepsRanges_ite (fun _ => keepsRanges_setLoop fun h => ⟨h.config, h.rows, h.deadRun, h.validRun, h.inHand⟩) fun _ => .refl s

/-! ## Events of an exchange (R60, R62, R75) -/

theorem keepsRanges_pollSent (loop : Fin 4) (s : State) : Leaves s.KeepsRanges (execPollSent loop s) := by
  refine keepsRanges_whileLive ?_
  dsimp only
  split
  · rename_i a sending
    refine keepsRanges_setLoop fun h => ⟨h.config, h.rows, h.deadRun, h.validRun, ?_⟩
    exact LoopState.frameInMode_of_exchanging (h.exchanging (by simp [sending]) (by simp [sending])) nofun
  · exact .refl s

theorem keepsRanges_wakeSent (loop : Fin 4) (s : State) : Leaves s.KeepsRanges (execWakeSent loop s) := by
  refine keepsRanges_whileLive ?_
  dsimp only
  split
  · rename_i sending _
    refine keepsRanges_setLoop fun h => ⟨h.config, h.rows, h.deadRun, h.validRun, ?_⟩
    exact LoopState.frameInMode_of_exchanging (h.exchanging (by simp [sending]) (by simp [sending])) nofun
  · exact keepsRanges_changeMode _ LoopState.Ordered.enterUp
  · exact .refl s

theorem keepsRanges_abortQuietEnded (loop : Fin 4) (s : State) : Leaves s.KeepsRanges (execAbortQuietEnded loop s) := by
  refine keepsRanges_whileLive ?_
  dsimp only
  split
  · rename_i quiet
    exact keepsRanges_setLoop fun h => h.polling (h.exchanging (by simp [quiet]) (by simp [quiet])) _
  · exact .refl s

/-- One TEST frame counted, and the next begun (R75). -/
theorem LoopState.Ordered.countNext {l : LoopState} (h : l.Ordered) {k n : Nat} (testing : l.exchange = .testing k n) (more : n < k)
    (r : Receiver) (outcome : TestOutcome) : LoopState.Ordered { (l.latch r).count outcome with exchange := .testing k (n + 1) } := by
  have frame := h.inHand
  unfold LoopState.FrameInMode at frame
  rw [testing] at frame
  obtain ⟨mode, one, -, high, counted⟩ := frame
  cases outcome
  all_goals
    refine ⟨h.config, h.rows, h.deadRun, h.validRun, ⟨mode, by omega, more, high, ?_⟩⟩
    simp only [LoopState.count, LoopState.latch]
    omega

/-- The loop OFF at the end of its test (R75). -/
theorem LoopState.Ordered.testEnded {l : LoopState} (h : l.Ordered) (r : Receiver) (outcome : TestOutcome) :
    LoopState.Ordered { (l.latch r).count outcome with mode := .off, tracker := .search, exchange := .idle } := by
  cases outcome
  all_goals exact ⟨h.config, h.rows, h.deadRun, h.validRun, frameInMode_idle rfl⟩

theorem keepsRanges_endTest (l : Fin 4) (k : Nat) (r : Receiver) (outcome : TestOutcome) (s : State) :
    s.KeepsRanges (endTest l k (((s.loopAt l).latch r).count outcome) s) := by
  let y := ((s.loopAt l).latch r).count outcome
  let report := Report.loopTestDone l k y.good y.checkFailed y.aborted
  have ended : s.KeepsRanges (s.setLoop l { y with mode := .off, tracker := .search, exchange := .idle }) :=
    keepsRanges_setLoop fun h => h.testEnded r outcome
  have replaced : (queueReport report (s.setLoop l y)).setLoop l { y with mode := .off, tracker := .search, exchange := .idle } =
      queueReport report (s.setLoop l { y with mode := .off, tracker := .search, exchange := .idle }) :=
    congrArg (queueReport report) (State.setLoop_setLoop ..)
  unfold endTest changeMode
  dsimp only
  rw [replaced]
  exact ((ended.trans (keepsRanges_queueReport ..)).trans (keepsRanges_queueReport ..)).trans (keepsRanges_deliverToGates ..)

theorem keepsRanges_testFrameSettled (loop : Fin 4) (line : List Bool) (s : State) :
    Leaves s.KeepsRanges (execTestFrameSettled loop line s) := by
  refine keepsRanges_whileLive ?_
  dsimp only
  split
  · rename_i k n testing
    exact keepsRanges_ite (fun more => keepsRanges_setLoop fun h => h.countNext testing more _ _) fun _ => keepsRanges_endTest ..
  · exact .refl s

/-! ## The verdict returned (R66, R72, R79) -/

theorem LoopState.takeVerdict_wiring (l : LoopState) (o : Offer) (v : Verdict) : (l.takeVerdict o v).wiring = l.wiring := by
  refine LoopState.wiring_map (fun p => ?_) l
  unfold Position.record
  split <;> exact ⟨rfl, rfl⟩

theorem keepsRanges_decideInHand {s : State} {l : Nat} {o : Offer} (offers : (s.loopAt l).exchange = .offering o) (b : Position) :
    s.KeepsRanges (decideInHand l o b s) := by
  let d := decidePunch b.gate (o.passage l b.direction) s
  have loops : d.state.loopAt l = s.loopAt l := State.loopAt_of_loops (Prod.mk.inj (decidePunch_desk ..)).1 l
  have returned : d.state.KeepsRanges (d.state.setLoop l ((d.state.loopAt l).takeVerdict o d.verdict)) := by
    refine keepsRanges_setLoop fun h => ⟨h.config, ?_, h.deadRun, h.validRun, ?_⟩
    · rw [LoopState.takeVerdict_wiring]
      exact h.rows
    · rw [loops] at h ⊢
      exact LoopState.frameInMode_of_exchanging (h.exchanging (by simp [offers]) (by simp [offers])) nofun
  exact ((keepsRanges_decidePunch ..).trans returned).trans (keepsRanges_of_ranged rfl)

/-- The offer that the arbiter takes is in the hand of the loop it names (R79). -/
theorem nextOffer_offering {s : State} {l : Nat} {o : Offer} (next : s.nextOffer = some (l, o)) : (s.loopAt l).exchange = .offering o := by
  obtain ⟨m, -, taken⟩ := List.exists_of_findSome?_eq_some next
  obtain ⟨held, offer, same⟩ := Option.map_eq_some_iff.mp taken
  obtain ⟨rfl, rfl⟩ := Prod.mk.inj same
  unfold LoopState.offer at offer
  split at offer
  · rename_i offering
    rw [offering, Option.some.inj offer]
  · cases offer

theorem keepsRanges_takePunch (s : State) : s.KeepsRanges (takePunch s) := by
  unfold takePunch
  split
  · exact .refl s
  · rename_i l o next
    split
    · exact .refl s
    · let taken : State := { s with punch := ⟨some o, l⟩ }
      have offers : (taken.loopAt l).exchange = .offering o := nextOffer_offering (s := s) next
      have inHand : s.KeepsRanges taken := keepsRanges_of_ranged rfl
      exact inHand.trans (keepsRanges_decideInHand offers _)

/-! ## Every loop at once (R78, R163) -/

theorem keepsRanges_mapLoops {s : State} {f : LoopState → LoopState} (ordered : ∀ l : LoopState, l.Ordered → (f l).Ordered) :
    s.KeepsRanges { s with loops := mapUnits (fun _ l => f l) s.loops } := by
  refine ⟨id, id, id, fun inOrder m => ?_, id, id⟩
  have at_m : ({ s with loops := mapUnits (fun _ l => f l) s.loops } : State).loopAt m = f (s.loopAt m) :=
    vector_getD_mapUnits (fun _ l => f l) s.loops m LoopState.cold m.isLt
  rw [at_m]
  exact (LoopState.inOrder_iff _).mpr (ordered _ ((LoopState.inOrder_iff _).mp (inOrder m)))

theorem LoopState.Ordered.warm {l : LoopState} (h : l.Ordered) : l.warm.Ordered where
  config := h.config
  rows := (LoopState.wiring_map (f := Position.absent) (fun _ => ⟨rfl, rfl⟩) l).symm ▸ h.rows
  deadRun := Nat.zero_le _
  validRun := Nat.zero_le _
  inHand := by
    cases intent : l.intent <;> simp [LoopState.FrameInMode, LoopState.Exchanging, LoopState.warm, intent]

theorem keepsRanges_stopWork (s : State) : s.KeepsRanges (stopWork s) := by
  have stopped : s.KeepsRanges { s with loops := mapUnits (fun _ l => l.stop) s.loops } :=
    keepsRanges_mapLoops fun l h => ⟨h.config, h.rows, h.deadRun, h.validRun, LoopState.frameInMode_idle rfl⟩
  exact stopped.trans (keepsRanges_of_ranged rfl)

end Sys2Proof.Machine
end

section
/-! PROOFS. The zones of the bells (Sections 10.1, 10.5, 10.6): a cadence started, the pending queue joined and taken up, submissions to several
zones, and the order that every operation keeps (R154, R158, R159). -/

namespace Sys2Proof.Machine

/-! ## A cadence started and the queue taken up (R154, R158) -/

/-- What starts stands in the first step of its cadence, under the class it was submitted with (R154). -/
theorem startSounding_some {b : Bells} {c : Nat} {cls : BellClass} {x : Sounding} (starts : b.startSounding c cls = some x) :
    x.cls = cls ∧ x.inStep = true := by
  unfold Bells.startSounding at starts
  split at starts
  · obtain rfl := Option.some.inj starts
    exact ⟨rfl, rfl⟩
  · split at starts
    · cases starts
    · rename_i d _
      obtain ⟨first, head, rfl⟩ := Option.map_eq_some_iff.mp starts
      obtain ⟨rest, steps⟩ := List.head?_eq_some_iff.mp head
      exact ⟨rfl, by simp [Sounding.inStep, Sounding.step, steps]⟩

/-- The first entry whose cadence is not empty is taken up, those before it completing at once (R154, R158). -/
theorem takeUpQueue_eq (b : Bells) (queue : List QueuedBell) :
    b.takeUpQueue queue = match queue.dropWhile fun q => (b.startSounding q.cadence q.cls).isNone with
      | [] => ⟨none, []⟩
      | q :: rest => ⟨b.startSounding q.cadence q.cls, rest⟩ := by
  induction queue with
  | nil => rfl
  | cons q rest ih =>
    unfold Bells.takeUpQueue
    cases starts : b.startSounding q.cadence q.cls with
    | none => simpa [starts] using ih
    | some x => simp [starts]

/-- A submission joins a queue in order behind its class and the higher ones, and before the lower ones (R158). -/
theorem joinQueue_eq (q : QueuedBell) (queue : List QueuedBell) (descends : queue.Pairwise fun a b => b.cls.rank ≤ a.cls.rank) :
    joinQueue q queue =
      queue.filter (fun x => q.cls.rank ≤ x.cls.rank) ++ [q] ++ queue.filter (fun x => x.cls.rank < q.cls.rank) := by
  induction queue with
  | nil => rfl
  | cons x rest ih =>
    obtain ⟨below, descends'⟩ := List.pairwise_cons.mp descends
    unfold joinQueue
    by_cases behind : q.cls.rank ≤ x.cls.rank
    · have notBefore : ¬ x.cls.rank < q.cls.rank := by omega
      simp [behind, notBefore, ih descends']
    · have before : ∀ y ∈ x :: rest, y.cls.rank < q.cls.rank := by
        intro y member
        obtain rfl | member := List.mem_cons.mp member
        · omega
        · have := below y member
          omega
      have none : (x :: rest).filter (fun y => q.cls.rank ≤ y.cls.rank) = [] :=
        List.filter_eq_nil_iff.mpr fun y member => by simpa using before y member
      have all : (x :: rest).filter (fun y => y.cls.rank < q.cls.rank) = x :: rest :=
        List.filter_eq_self.mpr fun y member => by simpa using before y member
      rw [if_neg behind, none, all]
      rfl

theorem mem_joinQueue (q x : QueuedBell) (queue : List QueuedBell) : x ∈ joinQueue q queue ↔ x = q ∨ x ∈ queue := by
  induction queue with
  | nil => simp [joinQueue]
  | cons y rest ih =>
    unfold joinQueue
    split
    · simp only [List.mem_cons, ih]
      tauto
    · simp

/-! ## Submissions to several zones (R156, R159, R160) -/

/-- One submission to each of several zones, each decided by the zone as it stood. -/
theorem foldl_submit (named : Nat → Bool) (c : Nat) (cls : BellClass) (b : Bells) :
    ((List.range 4).filter named).foldl (fun b z => b.submit z c cls) b =
      { b with zones := Vector.ofFn fun z => if named z then (b.submitTo b.zones[z] c cls).1 else b.zones[z] } := by
  let zs : List (Fin 4) := (List.finRange 4).filter fun z => named z
  have names : (List.range 4).filter named = zs.map Fin.val := by
    rw [show List.range 4 = (List.finRange 4).map Fin.val by decide, List.filter_map]
    rfl
  have distinct : zs.Nodup := (List.nodup_finRange 4).filter _
  have member : ∀ z, z ∈ zs ↔ named z = true := fun z => by simp [zs]
  rw [names, List.foldl_map]
  refine (foldl_submitAll (fun _ => [⟨c, cls⟩]) zs distinct b).trans ?_
  simp only [member]
  rfl

/-! ## The order of a zone (R158, R159) -/

/-- At most four entries, in descending order of class, and never EVACUATION (R158). -/
structure QueueInOrder (queue : List QueuedBell) : Prop where
  short : queue.length ≤ 4
  descends : queue.Pairwise fun a b => b.cls.rank ≤ a.cls.rank
  mild : ∀ q ∈ queue, q.cls ≠ .evacuation

/-- The law of one zone, part by part. -/
structure Zone.Ordered (fire : Bool) (z : Zone) : Prop where
  queue : QueueInOrder z.queue
  underFire : z.evacuating = true → fire = true
  inStep : ∀ x ∈ z.sounding, x.inStep = true

theorem Zone.inOrder_iff (z : Zone) (fire : Bool) : z.inOrder fire = true ↔ z.Ordered fire := by
  have parts : z.inOrder fire = true ↔ (z.queue.length ≤ 4 ∧ (z.queue.Pairwise fun a b => b.cls.rank ≤ a.cls.rank) ∧
      ∀ q ∈ z.queue, q.cls ≠ .evacuation) ∧ (z.evacuating = true → fire = true) ∧ ∀ x ∈ z.sounding, x.inStep = true := by
    cases evacuating : z.evacuating <;> simp [Zone.inOrder, evacuating, Option.all_eq_true, and_assoc]
  rw [parts]
  exact ⟨fun ⟨⟨short, descends, mild⟩, fire, step⟩ => ⟨⟨short, descends, mild⟩, fire, step⟩,
    fun ⟨⟨short, descends, mild⟩, fire, step⟩ => ⟨⟨short, descends, mild⟩, fire, step⟩⟩

theorem zonesInOrder_iff (s : State) : s.ZonesInOrder ↔ ∀ z : Fin 4, (s.bells.zones[z]).Ordered s.fire :=
  forall_congr' fun z => by rw [Bells.zoneAt_fin, Zone.inOrder_iff]

/-- A zone that sounds a class other than EVACUATION does not evacuate. -/
theorem Zone.evacuating_iff (z : Zone) : z.evacuating = true ↔ ∃ x ∈ z.sounding, x.cls = .evacuation := by
  unfold Zone.evacuating
  cases z.sounding <;> simp

theorem QueueInOrder.nil : QueueInOrder [] := ⟨Nat.zero_le 4, .nil, by simp⟩

theorem QueueInOrder.sublist {l m : List QueuedBell} (h : QueueInOrder m) (sub : l.Sublist m) : QueueInOrder l :=
  ⟨sub.length_le.trans h.short, h.descends.sublist sub, fun q member => h.mild q (sub.subset member)⟩

theorem QueueInOrder.join {queue : List QueuedBell} (h : QueueInOrder queue) (room : queue.length < 4) {q : QueuedBell}
    (mild : q.cls ≠ .evacuation) : QueueInOrder (joinQueue q queue) where
  short := by
    rw [joinQueue_length]
    exact room
  descends := joinQueue_ordered q queue h.descends
  mild := by
    intro x member
    obtain rfl | member := (mem_joinQueue q x queue).mp member
    · exact mild
    · exact h.mild x member

theorem Zone.Ordered.silent (fire : Bool) : Zone.silent.Ordered fire := ⟨.nil, by simp [Zone.evacuating, Zone.silent], by simp [Zone.silent]⟩

/-- A zone that sounds what has just started (R154). -/
theorem Zone.ordered_started {fire : Bool} {queue : List QueuedBell} (h : QueueInOrder queue) {b : Bells} {c : Nat} {cls : BellClass}
    {x : Sounding} (starts : b.startSounding c cls = some x) (mild : cls = .evacuation → fire = true) :
    Zone.Ordered fire ⟨some x, queue⟩ := by
  obtain ⟨same, inStep⟩ := startSounding_some starts
  refine ⟨h, fun evacuating => ?_, by simpa using inStep⟩
  simp only [Zone.evacuating, same, beq_iff_eq] at evacuating
  exact mild evacuating

theorem Zone.ordered_takeUpQueue (fire : Bool) (b : Bells) {queue : List QueuedBell} (h : QueueInOrder queue) :
    (b.takeUpQueue queue).Ordered fire := by
  induction queue with
  | nil => exact .silent fire
  | cons q rest ih =>
    have later := h.sublist (List.sublist_cons_self q rest)
    unfold Bells.takeUpQueue
    split
    · exact Zone.ordered_started later ‹_› fun evacuation => absurd evacuation (h.mild q List.mem_cons_self)
    · exact ih later

theorem Zone.ordered_startIn {fire : Bool} (b : Bells) {queue : List QueuedBell} (h : QueueInOrder queue) (c : Nat) {cls : BellClass}
    (mild : cls = .evacuation → fire = true) : (b.startIn c cls queue).Ordered fire := by
  unfold Bells.startIn
  split
  · exact Zone.ordered_started h ‹_› mild
  · exact Zone.ordered_takeUpQueue fire b h

theorem Zone.Ordered.queueBell {fire : Bool} {z : Zone} (h : z.Ordered fire) {q : QueuedBell} (mild : q.cls ≠ .evacuation) :
    (queueBell z q).1.Ordered fire := by
  unfold Machine.queueBell
  split
  · exact ⟨h.queue.join ‹_› mild, h.underFire, h.inStep⟩
  · split
    · rename_i last held
      split
      · have held : z.queue ≠ [] := fun empty => by simp [empty] at held
        have positive := List.length_pos_iff.mpr held
        have short := h.queue.short
        have room : z.queue.dropLast.length < 4 := by
          rw [List.length_dropLast]
          omega
        exact ⟨(h.queue.sublist (List.dropLast_sublist _)).join room mild, h.underFire, h.inStep⟩
      · exact h
    · exact h

/-- A zone keeps its order over a submission, where EVACUATION is submitted only under fire and to a zone that does not sound it (R158). -/
theorem Zone.Ordered.submitTo {fire : Bool} {z : Zone} (h : z.Ordered fire) (b : Bells) (c : Nat) {cls : BellClass}
    (fit : cls = .evacuation → fire = true ∧ z.evacuating = false) : (b.submitTo z c cls).1.Ordered fire := by
  have started := Zone.ordered_startIn b h.queue c fun evacuation => (fit evacuation).1
  unfold Bells.submitTo
  split
  · exact started
  · rename_i x sounding
    split
    · exact started
    · rename_i outranked
      refine h.queueBell fun evacuation => outranked ?_
      obtain ⟨-, other⟩ := fit evacuation
      have lower : x.cls ≠ .evacuation := by simpa [Zone.evacuating, sounding] using other
      have evacuation : cls = .evacuation := evacuation
      rw [evacuation]
      cases kind : x.cls with
      | evacuation => exact absurd kind lower
      | _ => decide

theorem Zone.Ordered.moveOn {fire : Bool} {z : Zone} (h : z.Ordered fire) (b : Bells) {x : Sounding} (sounding : z.sounding = some x) :
    (b.moveOn x z.queue).Ordered fire := by
  have sounds : ∀ y : Sounding, y.cls = x.cls → y.inStep = true → Zone.Ordered fire ⟨some y, z.queue⟩ := fun y same inStep => by
    refine ⟨h.queue, fun evacuating => h.underFire ?_, by simpa using inStep⟩
    simpa [Zone.evacuating, sounding, same] using evacuating
  have first : ∀ (n : Nat) (y : CadenceStep), x.steps.head? = some y →
      Sounding.inStep { x with index := 0, repeatNo := n, down := y.tenths } = true := fun n y head => by
    obtain ⟨rest, steps⟩ := List.head?_eq_some_iff.mp head
    simp [Sounding.inStep, Sounding.step, steps]
  unfold Bells.moveOn
  split
  · rename_i next _ at_next
    obtain ⟨inside, step⟩ := List.getElem?_eq_some_iff.mp at_next
    exact sounds _ rfl (by simp [Sounding.inStep, Sounding.step, inside, step])
  · rename_i head
    split
    · exact sounds _ rfl (first _ _ head)
    · split
      · exact sounds _ rfl (first _ _ head)
      · exact Zone.ordered_takeUpQueue fire b h.queue
  · exact Zone.ordered_takeUpQueue fire b h.queue

theorem Zone.Ordered.tick {fire : Bool} {z : Zone} (h : z.Ordered fire) : z.tick.Ordered fire := by
  unfold Zone.tick
  split
  · rename_i x sounding
    refine ⟨h.queue, fun evacuating => h.underFire ?_, fun y held => ?_⟩
    · simpa [Zone.evacuating, sounding] using evacuating
    · obtain rfl := Option.some.inj (Option.mem_def.mp held)
      obtain ⟨inside, below⟩ : x.index < x.steps.length ∧ x.down ≤ (x.step.map (·.tenths)).getD 0 := by
        simpa [Sounding.inStep] using h.inStep x sounding
      simp only [Sounding.inStep, Sounding.step, inside, decide_true, Bool.true_and]
      exact decide_eq_true ((Nat.sub_le x.down 1).trans below)
  · exact h

/-! ## The zones of the part -/

/-- The bells changed with the zones kept in their order. -/
theorem keepsRanges_bells {s : State} {b : Bells}
    (ordered : (∀ z : Fin 4, (s.bells.zones[z]).Ordered s.fire) → ∀ z : Fin 4, (b.zones[z]).Ordered s.fire) :
    s.KeepsRanges { s with bells := b } :=
  ⟨id, id, id, id, fun h => (zonesInOrder_iff _).mpr (ordered ((zonesInOrder_iff s).mp h)), id⟩

/-- Every zone changed by a function of it alone. -/
theorem keepsRanges_mapZones {s : State} {b : Bells} {f : Fin 4 → Zone → Zone} (made : b.zones = Vector.ofFn fun z => f z s.bells.zones[z])
    (ordered : ∀ (z : Fin 4) (x : Zone), x.Ordered s.fire → (f z x).Ordered s.fire) : s.KeepsRanges { s with bells := b } := by
  refine keepsRanges_bells fun h z => ?_
  rw [made]
  simpa using ordered z _ (h z)

theorem keepsRanges_setZone {s : State} {z : Fin 4} {x : Zone} (ordered : (s.bells.zoneAt z).Ordered s.fire → x.Ordered s.fire) :
    s.KeepsRanges { s with bells := s.bells.setZone z x } := by
  refine keepsRanges_bells fun h y => ?_
  rw [← Bells.zoneAt_fin, Bells.zoneAt_setZone]
  split
  · rw [Bells.zoneAt_fin] at ordered
    exact ordered (h z)
  · rw [Bells.zoneAt_fin]
    exact h y

theorem Zone.Ordered.submittedTo {fire : Bool} (b : Bells) {due : List QueuedBell} (mild : ∀ q ∈ due, q.cls ≠ .evacuation) :
    ∀ {z : Zone}, z.Ordered fire → (b.submittedTo due z).Ordered fire := by
  induction due with
  | nil => exact id
  | cons q rest ih =>
    intro z h
    have decided := h.submitTo b q.cadence fun evacuation => absurd evacuation (mild q List.mem_cons_self)
    exact ih (fun x member => mild x (List.mem_cons_of_mem q member)) decided

theorem keepsRanges_dueCheck (cal : Calendar) (v : Validity) (m : Nat) (s : State) :
    s.KeepsRanges { s with bells := s.bells.dueCheck cal v m } := by
  by_cases due : v = .set ∧ s.bells.highWater < m
  · obtain ⟨rfl, above⟩ := due
    rw [dueCheck_eq cal above]
    refine keepsRanges_mapZones (f := fun z x => s.bells.submittedTo (s.bells.dueIn cal m z) x) rfl fun z x h => ?_
    refine h.submittedTo s.bells fun q member => ?_
    obtain ⟨-, ⟨shift, -⟩ | ⟨fixed, -⟩⟩ := (mem_dueIn ..).mp member
    · simp [shift]
    · simp [fixed]
  · rw [Bells.dueCheck, if_neg due]
    exact .refl s

theorem keepsRanges_tenthTick (s : State) : s.KeepsRanges (tenthTick s) :=
  keepsRanges_ite (fun _ => keepsRanges_mapZones (f := fun _ x => x.tick) rfl fun _ _ h => h.tick) fun _ => .refl s

theorem keepsRanges_tickPeriod (s : State) : s.KeepsRanges (tickPeriod s) := by
  let ended : State := { s with bells := { s.bells with tickElapsed := 0, tickPlace := (s.bells.tickPlace + 1) % 10 } }
  have reloaded : s.KeepsRanges ended := keepsRanges_of_ranged rfl
  exact keepsRanges_ite (fun _ => keepsRanges_of_ranged rfl) fun _ => reloaded.trans (keepsRanges_tenthTick ended)

theorem keepsRanges_cadenceStepEnded (zone : Fin 4) (s : State) : Leaves s.KeepsRanges (execCadenceStepEnded zone s) := by
  refine keepsRanges_whileLive ?_
  dsimp only
  split
  · rename_i x sounding
    exact keepsRanges_ite (fun _ => keepsRanges_setZone fun h => h.moveOn s.bells sounding) fun _ => .refl s
  · exact .refl s

end Sys2Proof.Machine
end

section
/-! PROOFS. The time and the follower in their ranges (Tables 1.1, 1.2; R1, R2, R5, R9 to R14): the law of each block, and every operation on
them. -/

namespace Sys2Proof.Machine

/-! ## The Timebase (Table 1.1) -/

/-- The law of the Timebase, part by part. -/
structure Timebase.InRange (t : Timebase) : Prop where
  day : t.day ≤ 65535
  second : t.second ≤ 86399
  trimLow : -128 ≤ t.trim
  trimHigh : t.trim ≤ 127
  divider : t.divider ≤ 32895
  holding : t.mark = .holding → t.secondOfMinute = 59

theorem timeInRange_iff (s : State) : s.TimeInRange ↔ s.time.InRange :=
  ⟨fun ⟨day, second, low, high, divider, holding⟩ => ⟨day, second, low, high, divider, holding⟩,
    fun ⟨day, second, low, high, divider, holding⟩ => ⟨day, second, low, high, divider, holding⟩⟩

theorem Timebase.InRange.reload {t : Timebase} (h : t.InRange) : t.reload ≤ 32895 := by
  have high := h.trimHigh
  unfold Timebase.reload
  omega

/-- The time moved on, under a mark that is HOLDING only in a second 59 (R2, R11). -/
theorem Timebase.InRange.advance {t : Timebase} (h : t.InRange) {n : Nat} (le : n ≤ 60) {m : Mark}
    (holding : m = .holding → (t.advance n).secondOfMinute = 59) : Timebase.InRange { t.advance n with mark := m } := by
  have day := h.day
  have second := h.second
  unfold Timebase.advance at *
  split
  · exact ⟨day, by dsimp only; omega, h.trimLow, h.trimHigh, h.divider, by simp_all [Timebase.secondOfMinute]⟩
  · exact ⟨by dsimp only; omega, by dsimp only; omega, h.trimLow, h.trimHigh, h.divider, by simp_all [Timebase.secondOfMinute]⟩

/-- A divider loaded anew (R1). -/
theorem Timebase.InRange.reloaded {t : Timebase} (h : t.InRange) {n : Nat} (le : n ≤ 32895) : Timebase.InRange { t with divider := n } :=
  ⟨h.day, h.second, h.trimLow, h.trimHigh, le, h.holding⟩

theorem Timebase.InRange.unmarked {t : Timebase} (h : t.InRange) {m : Mark} (running : m ≠ .holding) :
    Timebase.InRange { t with mark := m } :=
  ⟨h.day, h.second, h.trimLow, h.trimHigh, h.divider, fun holding => absurd holding running⟩

theorem Timebase.InRange.count {t : Timebase} (h : t.InRange) : t.count.InRange := by
  have advanced : t.mark ≠ .holding → (t.advance 1).InRange := fun running => by
    have same : t.advance 1 = { t.advance 1 with mark := t.mark } := by
      rw [Timebase.advance_eq]
    rw [same]
    exact h.advance (by decide) fun holding => absurd holding running
  unfold Timebase.count
  split
  · exact advanced (by simp [*])
  · split
    · rename_i at58
      refine h.advance (by decide) fun _ => ?_
      have inDay := h.second
      unfold Timebase.secondOfMinute at at58 ⊢
      rw [Timebase.advance_of_lt (by omega)]
      dsimp only
      omega
    · exact advanced (by simp [*])
  · exact h.unmarked nofun
  · split
    · exact h.advance (by decide) nofun
    · exact advanced (by simp [*])

theorem Timebase.InRange.secondEvent {t : Timebase} (h : t.InRange) (working : Bool) : (t.secondEvent working).InRange := by
  unfold Timebase.secondEvent
  cases working with
  | true => exact h.count.reloaded h.reload
  | false => exact Timebase.InRange.reloaded (t := t.coast) (h.advance (by decide) nofun) h.reload

theorem Timebase.InRange.restart {t : Timebase} (h : t.InRange) : t.restart.InRange :=
  ⟨h.day, h.second, h.trimLow, h.trimHigh, h.reload, nofun⟩

theorem Timebase.InRange.align {t : Timebase} (h : t.InRange) : t.align.InRange := by
  unfold Timebase.align
  dsimp only
  split
  · exact ⟨h.day, (Nat.sub_le ..).trans h.second, h.trimLow, h.trimHigh, h.reload, nofun⟩
  · have moved : Timebase.InRange { t.advance (60 - t.secondOfMinute) with mark := .none } := h.advance (by omega) nofun
    exact moved.restart

/-! ## The follower (Table 1.2) -/

/-- The law of the follower, part by part. -/
structure Follower.InRange (f : Follower) : Prop where
  enable : f.state = .off ↔ f.enable = false
  window : 1 ≤ f.window ∧ f.window ≤ 30
  minuteWindow : 1 ≤ f.minuteWindow ∧ f.minuteWindow ≤ 30
  missing : f.missingRun ≤ 2
  wide : f.wideRun ≤ 2
  phase : -30 ≤ f.phase ∧ f.phase ≤ 29
  locked : f.state = .locked → f.missingRun ≤ 1 ∧ f.wideRun ≤ 1

theorem followerInRange_iff (s : State) : s.FollowerInRange ↔ s.follower.InRange :=
  ⟨fun ⟨enable, low, high, low', high', missing, wide, phase, phase', locked⟩ =>
      ⟨enable, ⟨low, high⟩, ⟨low', high'⟩, missing, wide, ⟨phase, phase'⟩, locked⟩,
    fun ⟨enable, ⟨low, high⟩, ⟨low', high'⟩, missing, wide, ⟨phase, phase'⟩, locked⟩ =>
      ⟨enable, low, high, low', high', missing, wide, phase, phase', locked⟩⟩

theorem phaseError_inRange (second : Nat) : -30 ≤ phaseError (second % 60) ∧ phaseError (second % 60) ≤ 29 := by
  unfold phaseError
  split <;> omega

/-! ## The two blocks changed -/

theorem keepsRanges_setTime {s : State} {t : Timebase} (keeps : s.time.InRange → t.InRange) : s.KeepsRanges { s with time := t } :=
  ⟨fun h => (timeInRange_iff _).mpr (keeps ((timeInRange_iff s).mp h)), id, id, id, id, id⟩

theorem keepsRanges_setFollower {s : State} {f : Follower} (keeps : s.follower.InRange → f.InRange) :
    s.KeepsRanges { s with follower := f } :=
  ⟨id, fun h => (followerInRange_iff _).mpr (keeps ((followerInRange_iff s).mp h)), id, id, id, id⟩

theorem keepsRanges_followerEvent {s : State} (cause : ClockCause) {f : Follower} (keeps : s.follower.InRange → f.InRange) :
    s.KeepsRanges (followerEvent cause f s) :=
  (keepsRanges_setFollower keeps).trans (keepsRanges_queueReport ..)

theorem keepsRanges_clearMark (s : State) : s.KeepsRanges (clearMark s) := keepsRanges_setTime fun h => h.unmarked nofun

/-! ## The minute event and the second event (R1 to R3, R14) -/

theorem keepsRanges_minuteEvent (s : State) : s.KeepsRanges (minuteEvent s) := by
  have closed : s.KeepsRanges (if s.time.validity = .set then autoClose s.plantMinute s else s) := by
    refine keepsRanges_ite (fun _ => ?_) fun _ => .refl s
    rw [autoClose_frame]
    exact keepsRanges_of_ranged rfl
  exact closed.trans (keepsRanges_dueCheck ..)

theorem keepsRanges_noteMinute (before : Nat) (s : State) : s.KeepsRanges (noteMinute before s) := by
  have windowed : s.KeepsRanges { s with follower := { s.follower with minuteWindow := s.follower.window } } :=
    keepsRanges_setFollower fun h => ⟨h.enable, h.window, h.window, h.missing, h.wide, h.phase, h.locked⟩
  exact keepsRanges_ite (fun _ => .refl s) fun _ =>
    windowed.trans (keepsRanges_ite (fun _ => keepsRanges_minuteEvent _) fun _ => .refl _)

/-- A follower in LOCKED whose second miss in a row takes it to HOLDOVER (R14). -/
theorem keepsRanges_missImpulse {s : State} (locked : s.follower.state = .locked) : s.KeepsRanges (missImpulse s) := by
  refine keepsRanges_ite (fun first => keepsRanges_setFollower fun h => ?_) fun _ =>
    (keepsRanges_clearMark s).trans (keepsRanges_followerEvent _ fun h => ?_)
  · have runs := h.locked locked
    have once : s.follower.missingRun + 1 < 2 := first
    exact ⟨h.enable, h.window, h.minuteWindow, by dsimp only; omega, h.wide, h.phase, fun _ => ⟨by dsimp only; omega, runs.2⟩⟩
  · have kept : s.follower.InRange := h
    have runs := kept.locked locked
    have enabled : s.follower.enable = true := by simpa [locked] using kept.enable
    exact ⟨by simp [enabled], h.window, h.minuteWindow, Nat.succ_le_succ runs.1, h.wide, h.phase, nofun⟩

theorem keepsRanges_windowWatch (s : State) : s.KeepsRanges (windowWatch s) := by
  refine keepsRanges_ite (fun ⟨_, locked, _⟩ => ?_) fun _ => .refl s
  exact keepsRanges_ite
    (fun _ => keepsRanges_setFollower fun h => ⟨h.enable, h.window, h.minuteWindow, h.missing, h.wide, h.phase, h.locked⟩)
    fun _ => keepsRanges_missImpulse locked

theorem keepsRanges_gateSeconds (s : State) : s.KeepsRanges (gateSeconds s) :=
  keepsRanges_ite (fun _ => keepsRanges_of_ranged rfl) fun _ => .refl s

theorem keepsRanges_backupSecond (s : State) : s.KeepsRanges (backupSecond s) := by
  rw [backupSecond_eq]
  exact keepsRanges_of_ranged rfl

theorem keepsRanges_secondEvent (s : State) : s.KeepsRanges (secondEvent s) := by
  have counted : s.KeepsRanges { s with time := s.time.secondEvent s.live } := keepsRanges_setTime fun h => h.secondEvent _
  exact (((counted.trans (keepsRanges_noteMinute ..)).trans (keepsRanges_windowWatch _)).trans (keepsRanges_gateSeconds _)).trans
    (keepsRanges_backupSecond _)

theorem keepsRanges_crystalPeriod (s : State) : s.KeepsRanges (crystalPeriod s) := by
  have divided : s.KeepsRanges (dividerPeriod s) :=
    keepsRanges_ite (fun _ => keepsRanges_secondEvent s) fun _ =>
      keepsRanges_setTime fun h => h.reloaded ((Nat.sub_le ..).trans h.divider)
  unfold crystalPeriod
  split
  · exact divided.trans (keepsRanges_tickPeriod _)
  · exact .refl s

/-! ## Impulses (R8, R10 to R13) -/

/-- An accepted impulse records its line and its phase error (R10). -/
theorem Follower.InRange.accepted {f : Follower} (h : f.InRange) (line : MasterLine) (second : Nat) :
    Follower.InRange { f with lastLine := some line, phase := phaseError (second % 60) } :=
  ⟨h.enable, h.window, h.minuteWindow, h.missing, h.wide, phaseError_inRange second, h.locked⟩

theorem keepsRanges_alignTo {s : State} {f : Follower} (keeps : s.follower.InRange → f.InRange) (running : f.state ≠ .off) :
    s.KeepsRanges (alignTo f s) := by
  have aligned : s.KeepsRanges { s with time := s.time.align } := keepsRanges_setTime fun h => h.align
  refine (aligned.trans (keepsRanges_followerEvent _ fun h => ?_)).trans (keepsRanges_noteMinute ..)
  have kept := keeps h
  have enabled : f.enable = true := by simpa [running] using kept.enable
  exact ⟨by simp [enabled], kept.window, kept.minuteWindow, Nat.zero_le _, Nat.zero_le _, kept.phase,
    fun _ => ⟨Nat.zero_le _, Nat.zero_le _⟩⟩

theorem correctionOf_running (e : Int) : correctionOf e ≠ .holding := by
  unfold correctionOf
  repeat' split
  all_goals nofun

theorem keepsRanges_disciplineIn {s : State} {f : Follower} (keeps : s.follower.InRange → f.InRange) :
    s.KeepsRanges (disciplineIn f s) := by
  let marked : Timebase := { s.time with mark := if s.time.mark = .none then correctionOf f.phase else s.time.mark }
  have corrected : s.KeepsRanges { s with time := marked } := keepsRanges_setTime fun h => by
    have same : s.time.mark ≠ .none → marked = s.time := fun mark => by simp [marked, mark]
    by_cases mark : s.time.mark = .none
    · exact h.unmarked (by simpa [mark] using correctionOf_running f.phase)
    · rw [same mark]
      exact h
  refine corrected.trans (keepsRanges_setFollower (s := { s with time := marked }) fun h => ?_)
  have kept := keeps h
  exact ⟨kept.enable, kept.window, kept.minuteWindow, Nat.zero_le _, Nat.zero_le _, kept.phase, fun _ => ⟨Nat.zero_le _, Nat.zero_le _⟩⟩

/-- A follower in LOCKED whose second impulse in a row outside the window takes it to SEARCH (R13). -/
theorem keepsRanges_disciplineOut {s : State} {f : Follower} (keeps : s.follower.InRange → f.InRange) (locked : f.state = .locked) :
    s.KeepsRanges (disciplineOut f s) := by
  refine keepsRanges_ite (fun first => keepsRanges_setFollower fun h => ?_) fun _ =>
    (keepsRanges_clearMark s).trans (keepsRanges_followerEvent _ fun h => ?_)
  · have kept := keeps h
    have runs := kept.locked locked
    have once : f.wideRun + 1 < 2 := first
    exact ⟨kept.enable, kept.window, kept.minuteWindow, kept.missing, by dsimp only; omega, kept.phase,
      fun _ => ⟨runs.1, by dsimp only; omega⟩⟩
  · have kept := keeps h
    have runs := kept.locked locked
    have enabled : f.enable = true := by simpa [locked] using kept.enable
    exact ⟨by simp [enabled], kept.window, kept.minuteWindow, kept.missing, Nat.succ_le_succ runs.2, kept.phase, nofun⟩

theorem keepsRanges_takeImpulse (line : MasterLine) (s : State) : s.KeepsRanges (takeImpulse line s) := by
  have accepted := fun h : s.follower.InRange => h.accepted line s.time.second
  unfold takeImpulse
  dsimp only
  split
  · exact .refl s
  · exact keepsRanges_alignTo accepted (by simp [*])
  · exact keepsRanges_alignTo accepted (by simp [*])
  · rename_i locked
    exact keepsRanges_ite (fun _ => .refl s) fun _ =>
      keepsRanges_ite (fun _ => keepsRanges_disciplineIn accepted) fun _ => keepsRanges_disciplineOut accepted locked

theorem Follower.InRange.hold {f : Follower} (h : f.InRange) (line : MasterLine) : (f.hold line).InRange := by
  rw [Follower.hold_eq]
  exact ⟨h.enable, h.window, h.minuteWindow, h.missing, h.wide, h.phase, h.locked⟩

theorem keepsRanges_qualifyImpulse (l : ActiveLine) (s : State) : s.KeepsRanges (qualifyImpulse l s) := by
  have held : s.KeepsRanges { s with follower := s.follower.hold l.line } := keepsRanges_setFollower fun h => h.hold l.line
  exact keepsRanges_ite (fun _ => .refl s) fun _ => held.trans (keepsRanges_takeImpulse ..)

/-! ## Clock requests (R5, R6, R9, R15) -/

theorem keepsRanges_followerClockSet (s : State) : s.KeepsRanges (followerClockSet s) := by
  have searching : s.follower.state ≠ .off → s.KeepsRanges (followerEvent .clockSet { s.follower with state := .search } s) :=
    fun running => keepsRanges_followerEvent _ fun h => by
      have enabled : s.follower.enable = true := by simpa [running] using h.enable
      exact ⟨by simp [enabled], h.window, h.minuteWindow, h.missing, h.wide, h.phase, nofun⟩
  unfold followerClockSet
  split
  · exact .refl s
  · exact .refl s
  · exact searching (by simp [*])
  · exact searching (by simp [*])

theorem keepsRanges_setClock {day second : Nat} (inRange : day ≤ 65535 ∧ second ≤ 86399) (s : State) :
    s.KeepsRanges (setClock day second s) := by
  let time : Timebase := { { s.time with day := day, second := second }.restart with validity := .set }
  let follower : Follower := { s.follower with minuteWindow := s.follower.window }
  have loaded : s.KeepsRanges { s with time := time } := keepsRanges_setTime fun h =>
    ⟨inRange.1, inRange.2, h.trimLow, h.trimHigh, h.reload, nofun⟩
  have windowed : ({ s with time := time } : State).KeepsRanges { s with time := time, follower := follower } :=
    keepsRanges_setFollower (s := { s with time := time }) fun h => ⟨h.enable, h.window, h.window, h.missing, h.wide, h.phase, h.locked⟩
  refine ((loaded.trans windowed).trans ?_).trans (keepsRanges_followerClockSet _)
  rw [timeStep_eq]
  exact keepsRanges_of_ranged rfl

theorem keepsRanges_clockSet (tag day second : Nat) (s : State) : Leaves s.KeepsRanges (execClockSet tag day second s) := by
  refine keepsRanges_serve _ _ ?_
  split
  · exact .refl s
  · rename_i valid
    exact keepsRanges_setClock (by simpa [within_iff] using valid) s

theorem keepsRanges_setEnable (enable : Bool) (s : State) : s.KeepsRanges (setEnable enable s) := by
  have off : s.KeepsRanges (followerEvent .disable { s.follower with enable := false, state := .off } (clearMark s)) :=
    (keepsRanges_clearMark s).trans (keepsRanges_followerEvent _ fun h =>
      ⟨by simp, h.window, h.minuteWindow, h.missing, h.wide, h.phase, nofun⟩)
  unfold setEnable
  split
  · exact keepsRanges_followerEvent _ fun h => ⟨by simp, h.window, h.minuteWindow, Nat.zero_le _, Nat.zero_le _, h.phase, nofun⟩
  · exact off
  · exact off
  · exact off
  all_goals exact .refl s

theorem keepsRanges_clockConfig (tag : Nat) (enable : Bool) (window : Nat) (trim : Int) (s : State) :
    Leaves s.KeepsRanges (execClockConfig tag enable window trim s) := by
  refine keepsRanges_serve _ _ ?_
  dsimp only
  split
  · exact .refl s
  · rename_i valid
    obtain ⟨⟨inWindow, low⟩, high⟩ : ((1 ≤ window ∧ window ≤ 30) ∧ -128 ≤ trim) ∧ trim ≤ 127 := by simpa [within_iff] using valid
    let time : Timebase := { s.time with trim := trim }
    have trimmed : s.KeepsRanges { s with time := time } := keepsRanges_setTime fun h =>
      ⟨h.day, h.second, low, high, h.divider, h.holding⟩
    have windowed : ({ s with time := time } : State).KeepsRanges
        { s with time := time, follower := { s.follower with window := window } } :=
      keepsRanges_setFollower (s := { s with time := time }) fun h =>
        ⟨h.enable, inWindow, h.minuteWindow, h.missing, h.wide, h.phase, h.locked⟩
    exact (trimmed.trans windowed).trans (keepsRanges_setEnable ..)

theorem keepsRanges_clockRead (tag : Nat) (clear : Bool) (s : State) : Leaves s.KeepsRanges (execClockRead tag clear s) :=
  keepsRanges_serve _ _ (keepsRanges_ite
    (fun _ => keepsRanges_setFollower fun h => ⟨h.enable, h.window, h.minuteWindow, h.missing, h.wide, h.phase, h.locked⟩)
    fun _ => .refl s)

end Sys2Proof.Machine
end

section
/-! PROOFS. Every step keeps the ranges: the requests of the calendar and of the bells, fire, the starts, every command, and the statement. -/

namespace Sys2Proof.Machine

/-! ## The calendar (R18 to R20, R23, R25, R27) -/

/-- The law of the calendar, table by table. -/
structure Calendar.InTable (c : Calendar) : Prop where
  shifts : ∀ code d, c.shiftOf code = some d → ShiftInTable d
  rotations : ∀ crew, 1 ≤ crew → crew ≤ 8 → (c.rotationOf crew).inTable = true
  tally : TallyInTable c.tally
  rates : ∀ grade : Fin 16, c.rates[grade] ≤ 65535

theorem calendarInTable_iff (s : State) : s.CalendarInTable ↔ s.calendar.InTable := by
  constructor
  · rintro ⟨shifts, rotations, tally, rates⟩
    refine ⟨fun code d defined => ?_, fun crew low high => ?_, tally, rates⟩
    · obtain ⟨low, high⟩ := Calendar.shiftOf_some defined
      exact shifts ⟨code - 1, by omega⟩ d (by simpa [Nat.sub_add_cancel low] using defined)
    · simpa [Nat.sub_add_cancel low] using rotations ⟨crew - 1, by omega⟩
  · rintro ⟨shifts, rotations, tally, rates⟩
    exact ⟨fun i d defined => shifts _ d defined, fun i => rotations _ (by omega) (by omega), tally, rates⟩

theorem keepsRanges_setCalendar {s : State} {c : Calendar} (keeps : s.calendar.InTable → c.InTable) :
    s.KeepsRanges { s with calendar := c } :=
  ⟨id, id, fun h => (calendarInTable_iff _).mpr (keeps ((calendarInTable_iff s).mp h)), id, id, id⟩

theorem sortBreaks_perm (breaks : List Break) : (sortBreaks breaks).Perm breaks := by
  unfold sortBreaks
  split
  · split
    · exact .swap ..
    · exact .refl _
  · exact .refl _

/-- The breaks of a definition in ascending order meet the conditions of R18 as they did. -/
theorem shiftInTable_sortBreaks {d : ShiftDef} (h : ShiftInTable d) : ShiftInTable { d with breaks := sortBreaks d.breaks } := by
  have sorted := sortBreaks_perm d.breaks
  obtain ⟨start, low, high, entry, late, leave, unit, threshold, cap, delay, delay', few, bounds, apart, flags, lead, lead', zones, cadence,
    cadence'⟩ := h
  refine ⟨start, low, high, entry, late, leave, unit, threshold, cap, delay, delay', sorted.length_eq.trans_le few,
    fun b member => bounds b (sorted.mem_iff.mp member), ?_, flags, lead, lead', zones, cadence, cadence'⟩
  exact (sorted.pairwise_iff fun {_ _} => Or.symm).mpr apart

/-- One code's definition replaced, or deleted (R19, R20). -/
theorem Calendar.InTable.setShift {c : Calendar} (h : c.InTable) {code : Nat} (inRange : 1 ≤ code ∧ code ≤ 15) {o : Option ShiftDef}
    (fit : ∀ d ∈ o, ShiftInTable d) : Calendar.InTable { c with shifts := c.shifts.setIfInBounds (code - 1) o } := by
  refine ⟨fun j d defined => ?_, h.rotations, h.tally, h.rates⟩
  by_cases same : j = code
  · subst same
    rw [Calendar.shiftOf_inRange inRange, vector_getD_setIfInBounds, if_pos ⟨rfl, by omega⟩] at defined
    exact fit d defined
  · rw [Calendar.shiftOf_set c o same inRange.1] at defined
    exact h.shifts j d defined

theorem Calendar.InTable.setRotation {c : Calendar} (h : c.InTable) {crew : Nat} {r : Rotation} (fit : r.inTable = true) :
    Calendar.InTable { c with rotations := c.rotations.setIfInBounds (crew - 1) r } := by
  refine ⟨h.shifts, fun other low high => ?_, h.tally, h.rates⟩
  unfold Calendar.rotationOf
  rw [vector_getD_setIfInBounds]
  split
  · exact fit
  · exact h.rotations other low high

theorem Calendar.InTable.setRates {c : Calendar} (h : c.InTable) {rates : List GradeRate} (fit : ∀ r ∈ rates, r.rate ≤ 65535) :
    Calendar.InTable { c with rates := rates.foldl (fun v r => v.setIfInBounds r.grade r.rate) c.rates } := by
  have bounded : ∀ v : Vector Nat 16, (∀ grade : Fin 16, v[grade] ≤ 65535) →
      ∀ grade : Fin 16, (rates.foldl (fun v r => v.setIfInBounds r.grade r.rate) v)[grade] ≤ 65535 := by
    clear h
    induction rates with
    | nil => exact fun _ bounds => bounds
    | cons r rest ih =>
      refine fun v bounds => ih (fun x member => fit x (List.mem_cons_of_mem r member)) _ fun grade => ?_
      simp only [Fin.getElem_fin, Vector.getElem_setIfInBounds grade.isLt]
      split
      · exact fit r List.mem_cons_self
      · exact bounds grade
  exact ⟨h.shifts, h.rotations, h.tally, bounded c.rates h.rates⟩

theorem keepsRanges_shiftDefine (tag code : Nat) (fields : ShiftDef) (s : State) :
    Leaves s.KeepsRanges (execShiftDefine tag code fields s) := by
  refine keepsRanges_serve _ _ ?_
  split
  · exact .refl s
  · rename_i valid
    obtain ⟨inRange, fit⟩ : (1 ≤ code ∧ code ≤ 15) ∧ ShiftInTable fields := by
      simpa [within_iff, shiftDefValid_iff] using valid
    split
    · exact .refl s
    · refine keepsRanges_setCalendar fun h => h.setShift inRange fun d defined => ?_
      obtain rfl := Option.some.inj (Option.mem_def.mp defined)
      exact shiftInTable_sortBreaks fit

theorem keepsRanges_shiftDelete (tag code : Nat) (s : State) : Leaves s.KeepsRanges (execShiftDelete tag code s) := by
  refine keepsRanges_serve _ _ ?_
  split
  · exact .refl s
  · rename_i valid
    have inRange : 1 ≤ code ∧ code ≤ 15 := by simpa [within_iff] using valid
    split
    · exact .refl s
    · split
      · exact .refl s
      · exact keepsRanges_setCalendar fun h => h.setShift inRange nofun

theorem keepsRanges_crewDefine (tag crew n anchor : Nat) (pattern : List Nat) (s : State) :
    Leaves s.KeepsRanges (execCrewDefine tag crew n anchor pattern s) := by
  refine keepsRanges_serve _ _ ?_
  split
  · exact .refl s
  · rename_i valid
    obtain ⟨-, -, one, most, day, rfl, codes⟩ := (crewDefineValid_iff crew n anchor pattern).mp (by simpa using valid)
    refine keepsRanges_setCalendar fun h => h.setRotation ?_
    simpa [Rotation.inTable, within_iff, day, one, most] using codes

theorem keepsRanges_tallyConfig (tag : Nat) (params : TallyParams) (s : State) :
    Leaves s.KeepsRanges (execTallyConfig tag params s) := by
  refine keepsRanges_serve _ _ ?_
  split
  · exact .refl s
  · rename_i valid
    have fit : TallyInTable params := (tallyParamsValid_iff params).mp (by simpa using valid)
    exact keepsRanges_setCalendar fun h => ⟨h.shifts, h.rotations, fit, h.rates⟩

theorem keepsRanges_rateSet (tag : Nat) (rates : List GradeRate) (s : State) : Leaves s.KeepsRanges (execRateSet tag rates s) := by
  refine keepsRanges_serve _ _ ?_
  split
  · exact .refl s
  · rename_i valid
    obtain ⟨-, -, inRange, -⟩ := (ratesValid_iff rates).mp (by simpa using valid)
    exact keepsRanges_setCalendar fun h => h.setRates fun r member => (inRange r member).2

/-! ## Bell requests (R159, R160) -/

/-- One submission to each of several zones. -/
theorem keepsRanges_submissions {s : State} {b : Bells} {named : Nat → Bool} {c : Nat} {cls : BellClass}
    (made : b.zones = Vector.ofFn fun z => if named z then (s.bells.submitTo s.bells.zones[z] c cls).1 else s.bells.zones[z])
    (fit : ∀ z : Fin 4, named z = true → cls = .evacuation → s.fire = true ∧ (s.bells.zones[z]).evacuating = false) :
    s.KeepsRanges { s with bells := b } := by
  refine keepsRanges_bells fun h z => ?_
  rw [made]
  simp only [Fin.getElem_fin, Vector.getElem_ofFn]
  split
  · exact (h z).submitTo s.bells c (fit z ‹_›)
  · exact h z

/-- The zones that ZONE_CONFIG adds to the fire mask and that do not sound evacuation (R159). -/
def Bells.adds (b : Bells) (mask z : Nat) : Bool := (!inMask b.fireMask z && !(b.zoneAt z).evacuating) && inMask mask z

/-- Evacuation submitted to the zones added (R159). -/
theorem foldl_added (mask : Nat) (b : Bells) :
    ((maskMembers mask 4).filter fun z => !inMask b.fireMask z && !(({ b with fireMask := mask } : Bells).zoneAt z).evacuating).foldl
        (fun b z => b.submit z 0 .evacuation) { b with fireMask := mask } =
      { b with
        fireMask := mask
        zones := Vector.ofFn fun z => if b.adds mask z then (b.submitTo b.zones[z] 0 .evacuation).1 else b.zones[z] } := by
  have cadences : ({ b with fireMask := mask } : Bells).cadences = b.cadences := rfl
  rw [maskMembers, List.filter_filter]
  refine (foldl_submit (b.adds mask) 0 .evacuation { b with fireMask := mask }).trans ?_
  simp only [submitTo_congr cadences]

theorem keepsRanges_zoneConfig (tag mask : Nat) (s : State) : Leaves s.KeepsRanges (execZoneConfig tag mask s) := by
  refine keepsRanges_serve _ _ ?_
  split
  · exact .refl s
  · dsimp only [okay]
    split
    · rename_i fire
      rw [foldl_added]
      refine keepsRanges_submissions (b := { s.bells with fireMask := mask, zones := _ }) rfl fun z added _ => ⟨fire, ?_⟩
      rw [← Bells.zoneAt_fin]
      obtain ⟨⟨-, quiet⟩, -⟩ : (inMask s.bells.fireMask z = false ∧ (s.bells.zoneAt z).evacuating = false) ∧ inMask mask z = true := by
        simpa [Bells.adds] using added
      exact quiet
    · exact keepsRanges_of_ranged rfl

/-- The bells after BELL_MANUAL are those after its submissions one by one. -/
theorem submitManual_bells (cadence : Nat) (zs : List Nat) : ∀ b : Bells,
    (b.submitManual cadence zs).1 = zs.foldl (fun b z => b.submit z cadence .manual) b := by
  induction zs with
  | nil => exact fun _ => rfl
  | cons z rest ih => exact fun b => ih _

theorem keepsRanges_bellManual (tag mask cadence : Nat) (s : State) : Leaves s.KeepsRanges (execBellManual tag mask cadence s) := by
  refine keepsRanges_serve _ _ ?_
  split
  · exact .refl s
  · dsimp only [okayWith]
    rw [submitManual_bells, maskMembers, foldl_submit]
    exact keepsRanges_submissions rfl nofun

theorem keepsRanges_bellSilence (tag mask : Nat) (s : State) : Leaves s.KeepsRanges (execBellSilence tag mask s) := by
  refine keepsRanges_serve _ _ ?_
  split
  · exact .refl s
  · refine keepsRanges_mapZones rfl fun z x h => ?_
    split
    · exact .silent s.fire
    · exact h

/-! ## Fire (R111, R112, R159) -/

theorem keepsRanges_standingsTaken (s : State) : s.KeepsRanges (s.standingsTaken fun _ => true) := by
  have taken := keepsRanges_applyStandings (allGates.filter fun _ => true) s
  rwa [applyStandings_filter] at taken

theorem resolveAll_ranged (x : Nat → Gate) (gs : List Nat) : ∀ s : State, (resolveAll x gs s).ranged = s.ranged := by
  have one : ∀ (y : Gate) (g : Nat) (s : State), (y.resolveFire g s).ranged = s.ranged := by
    intro y g s
    unfold Gate.resolveFire
    split
    · rw [resolvePassage_frame]
      rfl
    · rfl
  induction gs with
  | nil => exact fun _ => rfl
  | cons g rest ih => exact fun s => (ih _).trans (one (x g) g s)

/-- Fire taken: no zone sounded evacuation before, and the zones of the fire mask sound it under fire (R159). -/
theorem keepsRanges_freed {s resolved : State} (clear : s.fire = false) (same : resolved.ranged = s.ranged) :
    s.KeepsRanges (s.freed resolved) := by
  let alarmed : State := { s with
    fire := true, link := s.link.queue (.fireEvent true (s.time.day * 86400 + s.time.second)), bells := s.bells.evacuate s.bells.fireMask }
  have evacuated : s.bells.evacuate s.bells.fireMask = { s.bells with
      zones := Vector.ofFn fun z =>
        if inMask s.bells.fireMask z then (s.bells.submitTo s.bells.zones[z] 0 .evacuation).1 else s.bells.zones[z] } :=
    foldl_submit _ 0 .evacuation s.bells
  have sounding : s.ZonesInOrder → alarmed.ZonesInOrder := fun h => by
    have before := (zonesInOrder_iff s).mp h
    refine (zonesInOrder_iff alarmed).mpr fun z => ?_
    have ordered := before z
    rw [clear] at ordered
    have quiet : (s.bells.zones[z]).evacuating = false := by simpa using mt ordered.underFire
    have under : (s.bells.zones[z]).Ordered true := ⟨ordered.queue, fun _ => rfl, ordered.inStep⟩
    have decided := under.submitTo s.bells 0 (cls := .evacuation) fun _ => ⟨rfl, quiet⟩
    change ((s.bells.evacuate s.bells.fireMask).zones[z]).Ordered true
    rw [evacuated]
    simp only [Fin.getElem_fin, Vector.getElem_ofFn]
    split
    · exact decided
    · exact under
  have taken : s.KeepsRanges alarmed := ⟨id, id, id, id, sounding, (s.link.queue_reports _).2⟩
  refine taken.trans (keepsRanges_of_ranged ?_)
  simp only [State.ranged, Prod.mk.injEq] at same ⊢
  obtain ⟨time, follower, calendar, loops, -⟩ := same
  exact ⟨time, follower, calendar, loops, rfl, rfl, rfl⟩

/-- Fire is taken by a part that works, and once (R111). -/
theorem exec_fireTaken_idle {s : State} (idle : ¬ (s.Works ∧ s.fire = false)) : exec .fireTaken s = .next s := by
  change execFireTaken s = _
  by_cases works : s.Works
  · have fire : s.fire = true := by simpa using fun clear => idle ⟨works, clear⟩
    rw [execFireTaken, whileLive_working works]
    exact congrArg Host.Outcome.next (if_pos fire)
  · exact whileLive_not_working works _

theorem keepsRanges_fireTaken (s : State) : Leaves s.KeepsRanges (exec .fireTaken s) := by
  by_cases taken : s.Works ∧ s.fire = false
  · rw [exec_fireTaken taken.1 taken.2]
    exact leaves_next ((keepsRanges_freed taken.2 (resolveAll_ranged ..)).trans (keepsRanges_standingsTaken _))
  · rw [exec_fireTaken_idle taken]
    exact leaves_next (.refl s)

/-- Fire is cleared by a part that works and has taken it (R111). -/
theorem exec_fireCleared_idle {s : State} (idle : ¬ (s.Works ∧ s.fire = true)) : exec .fireCleared s = .next s := by
  change execFireCleared s = _
  by_cases works : s.Works
  · have clear : (!s.fire) = true := by simpa using fun fire => idle ⟨works, fire⟩
    rw [execFireCleared, whileLive_working works]
    exact congrArg Host.Outcome.next (if_pos clear)
  · exact whileLive_not_working works _

/-- Once fire is clear no zone sounds evacuation any more (R159). -/
theorem Zone.Ordered.fireCleared {fire : Bool} {z : Zone} (h : z.Ordered fire) :
    (if z.evacuating then Zone.silent else z).Ordered false := by
  split
  · exact .silent false
  · exact ⟨h.queue, fun evacuating => absurd evacuating ‹_›, h.inStep⟩

theorem keepsRanges_fireCleared (s : State) : Leaves s.KeepsRanges (exec .fireCleared s) := by
  by_cases taken : s.Works ∧ s.fire = true
  · let cleared : State := { s with
      fire := false, link := s.link.queue (.fireEvent false (s.time.day * 86400 + s.time.second)), bells := s.bells.onFireCleared }
    have silenced : s.ZonesInOrder → cleared.ZonesInOrder := fun h => (zonesInOrder_iff cleared).mpr fun z => by
      have at_z : cleared.bells.zones[z] = if (s.bells.zones[z]).evacuating then Zone.silent else s.bells.zones[z] := by
        simp [cleared, Bells.onFireCleared, mapUnits]
      rw [at_z]
      exact ((zonesInOrder_iff s).mp h z).fireCleared
    have kept : s.KeepsRanges cleared := ⟨id, id, id, id, silenced, (s.link.queue_reports _).2⟩
    rw [exec_fireCleared taken.1 taken.2]
    exact leaves_next (kept.trans (keepsRanges_standingsTaken cleared))
  · rw [exec_fireCleared_idle taken]
    exact leaves_next (.refl s)

/-! ## Starts (R165, R166) -/

theorem Follower.InRange.warm {f : Follower} (h : f.InRange) (v : InputLevels) : (f.warm v).InRange := by
  refine ⟨?_, h.window, h.minuteWindow, Nat.zero_le _, Nat.zero_le _, h.phase, fun _ => ⟨Nat.zero_le _, Nat.zero_le _⟩⟩
  by_cases off : f.state = .off <;> simpa [Follower.warm, Follower.sample, Follower.clearLatches, off] using h.enable

theorem zones_replicate_ordered (fire : Bool) (z : Fin 4) : (Vector.replicate 4 Zone.silent)[z].Ordered fire := by
  rw [Fin.getElem_fin, Vector.getElem_replicate]
  exact .silent fire

theorem keepsRanges_warmBegun (cause : StartCause) (duration : Nat) (v : InputLevels) (s : State) :
    s.KeepsRanges (s.warmBegun cause duration v) where
  time h := (timeInRange_iff _).mpr (((timeInRange_iff s).mp h).unmarked nofun)
  follower h := (followerInRange_iff _).mpr (((followerInRange_iff s).mp h).warm v)
  calendar := id
  loops := id
  zones _ := (zonesInOrder_iff _).mpr fun z => by
    have silent : (s.warmBegun cause duration v).bells.zones = Vector.replicate 4 Zone.silent := by
      simp only [State.warmBegun, Bells.warm, Bells.raiseMark_eq]
    rw [silent]
    exact zones_replicate_ordered _ z
  reports _ := Nat.succ_le_succ (Nat.zero_le 31)

theorem keepsRanges_restartVoid (s : State) (g : Nat) : s.KeepsRanges (restartVoid s g) := by
  unfold restartVoid
  split
  · exact (keepsRanges_setGate ..).trans (keepsRanges_resolvePassage ..)
  · exact .refl s

theorem keepsRanges_begun (v : InputLevels) (s : State) : s.KeepsRanges (s.begun v) := by
  have warmed : s.KeepsRanges { s with loops := mapUnits (fun _ l => l.warm) s.loops } := keepsRanges_mapLoops fun l h => h.warm
  exact warmed.trans (keepsRanges_of_ranged rfl)

theorem keepsRanges_warmStart (cause : StartCause) (duration : Nat) (v : InputLevels) (s : State) :
    s.KeepsRanges (warmStart cause duration v s) := by
  rw [warmStart_begun]
  have voided := (keepsRanges_warmBegun cause duration v s).trans (keepsRanges_foldl keepsRanges_restartVoid allGates _)
  exact ((voided.trans (keepsRanges_readyIfDue _)).trans (keepsRanges_begun v _)).trans (keepsRanges_applyStandings ..)

theorem reset_calendarInTable : State.reset.CalendarInTable := by
  have undefined : ∀ i : Fin 15, State.reset.calendar.shiftOf (i.val + 1) = none := by decide
  exact ⟨fun i d defined => by simp [undefined i] at defined, by decide, by decide, by decide⟩

/-- A cold start puts every block in its ranges, whatever the part was. -/
theorem keepsRanges_coldStart (cause : StartCause) (v : InputLevels) (s : State) : s.KeepsRanges (coldStart cause v s) where
  time _ := (by decide : State.reset.TimeInRange)
  follower _ := (by decide : State.reset.FollowerInRange)
  calendar _ := reset_calendarInTable
  loops _ := (by decide : State.reset.LoopsInOrder)
  zones _ := (zonesInOrder_iff _).mpr fun z => zones_replicate_ordered _ z
  reports _ := Nat.succ_le_succ (Nat.zero_le 31)

theorem keepsRanges_restoreStart (v : InputLevels) (s : State) : s.KeepsRanges (restoreStart v s) := by
  unfold restoreStart
  split
  · exact keepsRanges_warmStart ..
  · exact keepsRanges_coldStart ..

theorem keepsRanges_startAfter (kind : Nat) (v : InputLevels) (s : State) : s.KeepsRanges (startAfter kind v s) :=
  keepsRanges_ite (fun _ => keepsRanges_warmStart ..) fun _ =>
    keepsRanges_ite (fun _ => keepsRanges_coldStart ..) fun _ => .refl s

theorem keepsRanges_replySent (levels : InputLevels) (s : State) : Leaves s.KeepsRanges (execReplySent levels s) := by
  refine keepsRanges_whileLive ?_
  split
  · exact .refl s
  · have freed : s.KeepsRanges { s with link := { s.link with held := none } } := keepsRanges_of_ranged rfl
    exact freed.trans (keepsRanges_ite (fun _ => keepsRanges_startAfter ..) fun _ => .refl _)

theorem keepsRanges_mainLoss (vbakLow : Bool) (s : State) : Leaves s.KeepsRanges (execMainLoss vbakLow s) := by
  refine leaves_next ?_
  split
  · exact .refl s
  · let lost : State := { s with supply := { s.supply with
      state := .backup, duration := 0, startOwed := false, retention := if vbakLow then .lost else s.supply.retention } }
    have supplied : s.KeepsRanges lost := keepsRanges_of_ranged rfl
    exact supplied.trans (keepsRanges_stopWork lost)

theorem keepsRanges_mainRestored (levels : InputLevels) (s : State) : Leaves s.KeepsRanges (execMainRestored levels s) := by
  let restored : State := { s with supply := { s.supply with state := .run } }
  have supplied : s.KeepsRanges restored := keepsRanges_of_ranged rfl
  refine leaves_next ?_
  split
  · exact .refl s
  · exact keepsRanges_ite (fun _ => supplied.trans (keepsRanges_restoreStart levels restored)) fun _ => keepsRanges_of_ranged rfl

theorem keepsRanges_resetnReleased (levels : InputLevels) (s : State) : Leaves s.KeepsRanges (execResetnReleased levels s) := by
  have released : s.KeepsRanges s.pinHigh := keepsRanges_of_ranged rfl
  refine leaves_next (keepsRanges_ite (fun _ => .refl s) fun _ => ?_)
  dsimp only
  split
  · exact released
  · exact keepsRanges_ite (fun _ => released.trans (keepsRanges_restoreStart levels s.pinHigh)) fun _ =>
      released.trans (keepsRanges_warmStart .resetn 0 levels s.pinHigh)

/-! ## Requests of the close and of the link, and an answer received (R60, R141, R147, R169) -/

theorem keepsRanges_periodClose (tag number : Nat) (s : State) : Leaves s.KeepsRanges (execPeriodClose tag number s) := by
  have closed : s.KeepsRanges (closePeriod number s) := keepsRanges_of_ranged rfl
  refine keepsRanges_serve _ _ ?_
  split
  · exact .refl s
  · split
    · exact .refl s
    · split
      · exact .refl s
      · exact closed.trans (keepsRanges_readyIfDue _)

theorem keepsRanges_closeRead (tag k : Nat) (rewind : Bool) (s : State) : Leaves s.KeepsRanges (execCloseRead tag k rewind s) := by
  have rewound : s.KeepsRanges (if rewind then rewindStream s else s) :=
    keepsRanges_ite (fun _ => keepsRanges_of_ranged rfl) fun _ => .refl s
  refine keepsRanges_serve _ _ ?_
  split
  · exact .refl s
  · split
    · exact .refl s
    · exact rewound.trans (keepsRanges_deliver k _)

theorem keepsRanges_reportFetch (tag k : Nat) (s : State) : Leaves s.KeepsRanges (execReportFetch tag k s) := by
  refine keepsRanges_serve _ _ ?_
  split
  · exact .refl s
  · exact ⟨id, id, id, id, id, fun fits => (List.drop_sublist ..).length_le.trans fits⟩

theorem keepsRanges_loopAnswerReceived (loop : Fin 4) (line : List Bool) (s : State) :
    Leaves s.KeepsRanges (execLoopAnswerReceived loop line s) := by
  refine keepsRanges_whileAwaiting fun address awaits => ?_
  dsimp only
  split
  · refine (keepsRanges_latch ..).trans (keepsRanges_actOnAnswer (awaited := address) ?_ ..)
    rw [State.loopAt_setLoop_self]
    exact awaits
  · exact .refl s

/-! ## Every command -/

theorem exec_keepsRanges (i : Instr) (s : State) : Leaves s.KeepsRanges (exec i s) := by
  cases i with
  | clockSet tag day second => exact keepsRanges_clockSet tag day second s
  | clockConfig tag enable window trim => exact keepsRanges_clockConfig tag enable window trim s
  | clockRead tag clear => exact keepsRanges_clockRead tag clear s
  | shiftDefine tag code fields => exact keepsRanges_shiftDefine tag code fields s
  | shiftDelete tag code => exact keepsRanges_shiftDelete tag code s
  | crewDefine tag crew n anchor pattern => exact keepsRanges_crewDefine tag crew n anchor pattern s
  | tallyConfig tag params => exact keepsRanges_tallyConfig tag params s
  | rateSet tag rates => exact keepsRanges_rateSet tag rates s
  | loopConfig tag loop fields => exact keepsRanges_loopConfig tag loop fields s
  | loopStart tag loop => exact keepsRanges_loopStart tag loop s
  | loopStop tag loop => exact keepsRanges_loopStop tag loop s
  | loopTest tag loop k => exact keepsRanges_loopTest tag loop k s
  | loopStatus tag loop clear => exact keepsRanges_loopStatus tag loop clear s
  | gateCommandNormal tag gate => exact keepsRanges_serve _ _ (keepsRanges_orderMode .refl s)
  | gateCommandFree tag gate => exact keepsRanges_serve _ _ (keepsRanges_orderMode .refl s)
  | gateCommandLockdown tag gate => exact keepsRanges_serve _ _ (keepsRanges_orderMode (keepsRanges_lockdownPassage gate) s)
  | gateConfig tag gate fields in0 in1 =>
    simp only [exec, execGateConfig]
    refine keepsRanges_serve _ _ ?_
    split
    · split
      · exact .refl s
      · exact keepsRanges_configureGate ..
    · exact .refl s
  | periodClose tag number => exact keepsRanges_periodClose tag number s
  | closeRead tag k rewind => exact keepsRanges_closeRead tag k rewind s
  | zoneConfig tag mask => exact keepsRanges_zoneConfig tag mask s
  | bellManual tag mask cadence => exact keepsRanges_bellManual tag mask cadence s
  | bellSilence tag mask => exact keepsRanges_bellSilence tag mask s
  | reportFetch tag k => exact keepsRanges_reportFetch tag k s
  | calendarReadShift | calendarReadCrew | calendarReadDay | calendarReadTally | calendarReadRates | workerPut | workerGet | workerRemove
  | workerPresence | collectChanged | gateCommandRelease | gateRead | musterRead | journalRead | journalRelease | closeRelease | periodRead
  | cadenceDefine | bellEntryPut | bellEntryRemove | bellRead | restart | factoryClear | status =>
    simp only [exec, execCalendarReadShift, execCalendarReadCrew, execCalendarReadDay, execCalendarReadTally, execCalendarReadRates,
      execWorkerPut, execWorkerGet, execWorkerRemove, execWorkerPresence, execCollectChanged, execGateCommandRelease, execGateRead,
      execMusterRead, execJournalRead, execJournalRelease, execCloseRelease, execPeriodRead, execCadenceDefine, execBellEntryPut,
      execBellEntryRemove, execBellRead, execRestart, execFactoryClear, execStatus]
    refine keepsRanges_serve _ _ ?_
    repeat' split
    all_goals exact keepsRanges_of_ranged rfl
  | unknownKind kind tag body =>
    simp only [exec, execUnknownKind]
    split
    · exact keepsRanges_serve _ _ (.refl s)
    · split
      · exact leaves_next (.refl s)
      · exact keepsRanges_serve _ _ (.refl s)
  | requestOverrun | stationFrameDiscarded | byteGapTimeout | hingedReleaseExpired =>
    simp only [exec, execRequestOverrun, execStationFrameDiscarded, execByteGapTimeout, execHingedReleaseExpired]
    refine keepsRanges_whileLive ?_
    repeat' split
    all_goals exact keepsRanges_of_ranged rfl
  | replySent levels => exact keepsRanges_replySent levels s
  | secondEvent =>
    refine leaves_next ?_
    split
    · exact keepsRanges_secondEvent s
    · exact .refl s
  | impulseEvent line => exact keepsRanges_whileLive (keepsRanges_qualifyImpulse line s)
  | readyEvent => exact keepsRanges_whileLive (keepsRanges_readyIfDue s)
  | cadenceStepEnded zone => exact keepsRanges_cadenceStepEnded zone s
  | pollSent loop => exact keepsRanges_pollSent loop s
  | wakeSent loop => exact keepsRanges_wakeSent loop s
  | verdictSent loop =>
    simp only [exec, execVerdictSent]
    refine keepsRanges_whileLive ?_
    split
    · exact keepsRanges_finishExchange ..
    · exact .refl s
  | responseWindowExpired loop => exact keepsRanges_whileAwaiting fun address awaits => keepsRanges_actOnAnswer awaits ..
  | loopAnswerReceived loop line => exact keepsRanges_loopAnswerReceived loop line s
  | loopFrameAborted loop line | huntBoundExpired loop line =>
    exact keepsRanges_whileAwaiting fun address awaits =>
      keepsRanges_ite (fun _ => keepsRanges_abortAnswer awaits ..) fun _ => .refl s
  | abortQuietEnded loop => exact keepsRanges_abortQuietEnded loop s
  | testFrameSettled loop line => exact keepsRanges_testFrameSettled loop line s
  | punchTaken =>
    simp only [exec, execPunchTaken]
    exact keepsRanges_whileLive (keepsRanges_ite (fun _ => .refl s) fun _ => keepsRanges_takePunch s)
  | passagePulse gate input =>
    simp only [exec, execPassagePulse]
    exact keepsRanges_whileLive (keepsRanges_ite (fun _ => .refl s) fun _ =>
      (keepsRanges_setGate ..).trans (keepsRanges_passagePulse ..))
  | turnstileReleaseExpired gate =>
    exact keepsRanges_whileLive (keepsRanges_ite (fun _ => keepsRanges_endArming ..) fun _ => .refl s)
  | heldOpenExpired gate =>
    simp only [exec, execHeldOpenExpired]
    refine keepsRanges_whileLive ?_
    split
    · exact (keepsRanges_setGate ..).trans (keepsRanges_gateAlarm ..)
    · exact .refl s
  | contactOpens gate =>
    exact keepsRanges_whileLive (keepsRanges_ite (fun _ => keepsRanges_contactOpens ..) fun _ => .refl s)
  | contactCloses gate =>
    exact keepsRanges_whileLive (keepsRanges_ite (fun _ => keepsRanges_contactCloses ..) fun _ => .refl s)
  | fireTaken => exact keepsRanges_fireTaken s
  | fireCleared => exact keepsRanges_fireCleared s
  | mainLoss vbakLow => exact keepsRanges_mainLoss vbakLow s
  | backupLow =>
    refine leaves_next ?_
    split
    · exact .refl s
    · exact keepsRanges_of_ranged rfl
  | mainRestored levels => exact keepsRanges_mainRestored levels s
  | resetnLow | firstPower =>
    refine leaves_next (State.KeepsRanges.trans ?_ (keepsRanges_stopWork _))
    exact keepsRanges_of_ranged rfl
  | resetnReleased levels => exact keepsRanges_resetnReleased levels s
  | tenthTick =>
    let ticked : State := { s with bells := { s.bells with tickElapsed := 0, tickPlace := (s.bells.tickPlace + 1) % 10 } }
    have reloaded : s.KeepsRanges ticked := keepsRanges_of_ranged rfl
    exact leaves_next (reloaded.trans (keepsRanges_tenthTick ticked))

theorem step_keepsRanges {s t : State} (next : step s = .next t) : s.KeepsRanges t := by
  unfold step at next
  split at next
  · obtain rfl := Host.Outcome.next.inj next
    exact keepsRanges_crystalPeriod s
  · rename_i rest _
    have taken : s.KeepsRanges (s.withPending rest) := keepsRanges_of_ranged rfl
    exact taken.trans (exec_keepsRanges _ _ t next)

/-- Settles O59: each range by its part of what every step keeps. -/
theorem everyStepKeepsTheRanges : Obligations.EveryStepKeepsTheRanges :=
  ⟨fun _ h _ next => (step_keepsRanges next).time h, fun _ h _ next => (step_keepsRanges next).follower h,
    fun _ h _ next => (step_keepsRanges next).calendar h, fun _ h _ next => (step_keepsRanges next).loops h,
    fun _ h _ next => (step_keepsRanges next).zones h, fun _ h _ next => (step_keepsRanges next).reports h⟩

end Sys2Proof.Machine
end

section
/-! PROOFS. The bell tables (Sections 10.1, 10.4, 10.6): CADENCE_DEFINE, BELL_ENTRY and ZONE_CONFIG, and after them the statement about
them. -/

namespace Sys2Proof.Machine

/-! ## CADENCE_DEFINE (R153) -/

theorem stepLevelOf_eq (level : Nat) : stepLevelOf level = if level ≤ 1 then some (level == 0) else none :=
  match level with
  | 0 | 1 => rfl
  | n + 2 => (if_neg (by omega)).symm

/-- The steps of a CADENCE_DEFINE, when every one of them is in range (R153). -/
theorem cadenceStepsOf_eq (steps : List StepFields) :
    cadenceStepsOf steps =
      if ∀ x ∈ steps, x.level ≤ 1 ∧ 1 ≤ x.tenths ∧ x.tenths ≤ 255 then some (steps.map fun x => ⟨x.level == 0, x.tenths⟩) else none := by
  induction steps with
  | nil => rfl
  | cons f rest ih =>
    rw [cadenceStepsOf, stepLevelOf_eq, ih]
    by_cases level : f.level ≤ 1
    · by_cases valid : ∀ x ∈ rest, x.level ≤ 1 ∧ 1 ≤ x.tenths ∧ x.tenths ≤ 255
      · simp [level, eq_true valid, within_iff]
      · simp [eq_false valid]
    · simp [level]

theorem exec_cadenceDefine {s : State} (ready : s.Ready) (tag cadence : Nat) (steps : List StepFields) (repeats : Nat) :
    exec (.cadenceDefine tag cadence steps repeats) s = .next (
      if 1 ≤ cadence ∧ cadence ≤ 7 ∧ 1 ≤ steps.length ∧ steps.length ≤ 8 ∧ 1 ≤ repeats ∧ repeats ≤ 15 ∧
          ∀ x ∈ steps, x.level ≤ 1 ∧ 1 ≤ x.tenths ∧ x.tenths ≤ 255 then
        State.answered { s with bells := { s.bells with
          cadences := s.bells.cadences.setIfInBounds (cadence - 1)
            (some ⟨steps.map fun x => ⟨x.level == 0, x.tenths⟩, repeats⟩) } } 0x58 tag .ok .nothing
      else s.answered 0x58 tag .badValue .nothing) := by
  change execCadenceDefine tag cadence steps repeats s = _
  rw [execCadenceDefine, serve_ready ready, cadenceStepsOf_eq]
  by_cases valid : ∀ x ∈ steps, x.level ≤ 1 ∧ 1 ≤ x.tenths ∧ x.tenths ≤ 255
  · have counts : (within 1 cadence 7 && within 1 (steps.map fun x => (⟨x.level == 0, x.tenths⟩ : CadenceStep)).length 8
        && within 1 repeats 15) = true ↔
        1 ≤ cadence ∧ cadence ≤ 7 ∧ 1 ≤ steps.length ∧ steps.length ≤ 8 ∧ 1 ≤ repeats ∧ repeats ≤ 15 := by
      simp only [Bool.and_eq_true, within_iff, List.length_map, and_assoc]
    rw [if_pos valid]
    simp only [eq_true valid, and_true, ← counts]
    cases within 1 cadence 7 && within 1 (steps.map fun x => (⟨x.level == 0, x.tenths⟩ : CadenceStep)).length 8 && within 1 repeats 15 <;>
      rfl
  · rw [if_neg valid, if_neg fun ⟨_, _, _, _, _, _, inRange⟩ => valid inRange]
    rfl

/-! ## BELL_ENTRY (R155) -/

theorem exec_bellEntryPut {s : State} (ready : s.Ready) (tag slot minute days zones cadence : Nat) :
    exec (.bellEntryPut tag slot minute days zones cadence) s = .next (
      if slot ≤ 31 ∧ minute ≤ 1439 ∧ days ≤ 127 ∧ zones ≤ 15 ∧ 1 ≤ cadence ∧ cadence ≤ 7 then
        State.answered { s with bells := { s.bells with
          fixed := s.bells.fixed.setIfInBounds slot (some ⟨minute, days, zones, cadence⟩) } } 0x59 tag .ok .nothing
      else s.answered 0x59 tag .badValue .nothing) := by
  change execBellEntryPut tag slot minute days zones cadence s = _
  have inRange : (within 0 slot 31 && within 0 minute 1439 && within 0 days 127 && within 0 zones 15 && within 1 cadence 7) = true ↔
      slot ≤ 31 ∧ minute ≤ 1439 ∧ days ≤ 127 ∧ zones ≤ 15 ∧ 1 ≤ cadence ∧ cadence ≤ 7 := by
    simp only [Bool.and_eq_true, within_iff, Nat.zero_le, true_and, and_assoc]
  rw [execBellEntryPut, serve_ready ready]
  simp only [← inRange]
  cases within 0 slot 31 && within 0 minute 1439 && within 0 days 127 && within 0 zones 15 && within 1 cadence 7 <;> rfl

/-- A field refused above its last value. -/
theorem not_within_zero (v hi : Nat) : (!within 0 v hi) = true ↔ hi < v := by
  rw [Bool.not_eq_true', not_within_iff, or_iff_right (Nat.not_lt_zero v)]

theorem exec_bellEntryRemove {s : State} (ready : s.Ready) (tag slot : Nat) :
    exec (.bellEntryRemove tag slot) s = .next (
      if 31 < slot then s.answered 0x59 tag .badValue .nothing
      else if s.bells.fixed.getD slot none = none then s.answered 0x59 tag .notFound .nothing
      else State.answered { s with bells := { s.bells with fixed := s.bells.fixed.setIfInBounds slot none } } 0x59 tag .ok .nothing) := by
  change execBellEntryRemove tag slot s = _
  rw [execBellEntryRemove, serve_ready ready]
  simp only [not_within_zero, Option.isNone_iff_eq_none]
  split
  · rfl
  · split <;> rfl

/-! ## ZONE_CONFIG (R159) -/

/-- A zone that does not sound evacuation sounds it at once, whatever it sounded, and keeps its queue (R158, R159). -/
theorem submitTo_evacuation (b : Bells) {z : Zone} (quiet : z.evacuating = false) :
    (b.submitTo z 0 .evacuation).1 = ⟨some ⟨0, .evacuation, [⟨true, 10⟩, ⟨false, 10⟩], none, 0, 1, 10⟩, z.queue⟩ := by
  unfold Bells.submitTo
  split
  · rfl
  · rename_i x sounding
    have lower : x.cls.rank < BellClass.evacuation.rank := by
      have other : x.cls ≠ .evacuation := by simpa [Zone.evacuating, sounding] using quiet
      cases kind : x.cls with
      | evacuation => exact absurd kind other
      | _ => decide
    rw [if_pos lower]
    rfl

theorem Bells.adds_iff (b : Bells) (mask : Nat) (z : Fin 4) :
    b.adds mask z = true ↔ mask.testBit z = true ∧ b.fireMask.testBit z = false ∧ b.zones[z].evacuating = false := by
  rw [← Bells.zoneAt_fin]
  simp [Bells.adds, inMask]
  tauto

/-- Evacuation submitted to the zones added, as the statement writes the zones (R159). -/
theorem added_zones (b : Bells) (mask : Nat) :
    (fun z : Fin 4 => if b.adds mask z then (b.submitTo b.zones[z] 0 .evacuation).1 else b.zones[z]) = fun z : Fin 4 =>
      if mask.testBit z = true ∧ b.fireMask.testBit z = false ∧ b.zones[z].evacuating = false then
        ⟨some ⟨0, .evacuation, [⟨true, 10⟩, ⟨false, 10⟩], none, 0, 1, 10⟩, b.zones[z].queue⟩
      else b.zones[z] :=
  funext fun z => ite_congr (propext (b.adds_iff mask z)) (fun ⟨_, _, quiet⟩ => submitTo_evacuation b quiet) fun _ => rfl

theorem exec_zoneConfig {s : State} (ready : s.Ready) (tag mask : Nat) :
    exec (.zoneConfig tag mask) s = .next (
      if 15 < mask then s.answered 0x5A tag .badValue .nothing
      else State.answered { s with bells := { s.bells with
        fireMask := mask
        zones := Vector.ofFn fun z =>
          if s.fire = true ∧ mask.testBit z = true ∧ s.bells.fireMask.testBit z = false ∧ s.bells.zones[z].evacuating = false then
            ⟨some ⟨0, .evacuation, [⟨true, 10⟩, ⟨false, 10⟩], none, 0, 1, 10⟩, s.bells.zones[z].queue⟩
          else s.bells.zones[z] } } 0x5A tag .ok .nothing) := by
  change execZoneConfig tag mask s = _
  rw [execZoneConfig, serve_ready ready]
  simp only [not_within_zero, foldl_added, added_zones]
  split
  · rfl
  · cases s.fire with
    | true =>
      simp only [true_and, if_true]
      rfl
    | false =>
      have same : Vector.ofFn (fun z : Fin 4 => s.bells.zones[z]) = s.bells.zones := Vector.ofFn_getElem
      simp only [Bool.false_eq_true, false_and, if_false, same]
      rfl

/-- Settles O46: each request by its equation. -/
theorem bellTablesAreReplacedWhole : Obligations.BellTablesAreReplacedWhole := fun _ tag ready =>
  ⟨exec_cadenceDefine ready tag, exec_bellEntryPut ready tag, exec_bellEntryRemove ready tag, exec_zoneConfig ready tag⟩

end Sys2Proof.Machine
end

section
/-! PROOFS. Submissions to the zones (Sections 10.1, 10.5, 10.7): a start, a zone's decision, BELL_MANUAL and BELL_SILENCE, and after them
the statement about them. -/

namespace Sys2Proof.Machine

/-! ## A start (R154) -/

/-- The place of cadence c + 1 in the table. -/
theorem Bells.cadenceOf_succ (b : Bells) (c : Fin 7) : b.cadenceOf (c + 1) = b.cadences[c] := by
  have inRange : within 1 (c + 1) 7 = true := (within_iff ..).mpr (by omega)
  simp [Bells.cadenceOf, inRange, Vector.getD]

theorem startSounding_empty {b : Bells} {c : Fin 7} (empty : b.cadences[c] = none) (cls : BellClass) :
    b.startSounding (c + 1) cls = none := by
  rw [Bells.startSounding, if_neg (Nat.succ_ne_zero c), Bells.cadenceOf_succ, empty]

theorem startSounding_defined {b : Bells} {c : Fin 7} {d : Cadence} (defined : b.cadences[c] = some d) {first : CadenceStep}
    (head : d.steps.head? = some first) (cls : BellClass) :
    b.startSounding (c + 1) cls = some ⟨c + 1, cls, d.steps, some d.repeats, 0, 1, first.tenths⟩ := by
  rw [Bells.startSounding, if_neg (Nat.succ_ne_zero c), Bells.cadenceOf_succ, defined]
  exact congrArg (Option.map _) head

theorem startIn_eq (b : Bells) (c : Nat) (cls : BellClass) (queue : List QueuedBell) :
    b.startIn c cls queue = match b.startSounding c cls with
      | some x => ⟨some x, queue⟩
      | none => match queue.dropWhile fun q => (b.startSounding q.cadence q.cls).isNone with
        | [] => ⟨none, []⟩
        | q :: rest => ⟨b.startSounding q.cadence q.cls, rest⟩ := by
  unfold Bells.startIn
  cases b.startSounding c cls with
  | some x => rfl
  | none => exact takeUpQueue_eq b queue

/-! ## A zone's decision (R158) -/

/-- Queueing in a queue in order: a free place, else the place of a lower last entry, else none. -/
theorem queueBell_eq (z : Zone) (q : QueuedBell) (descends : z.queue.Pairwise fun p q => q.cls.rank ≤ p.cls.rank) :
    queueBell z q =
      if z.queue.length < 4 then
        ({ z with queue := z.queue.filter (fun x => q.cls.rank ≤ x.cls.rank) ++ [q] ++
          z.queue.filter (fun x => x.cls.rank < q.cls.rank) }, .queued)
      else if ∃ last ∈ z.queue.getLast?, last.cls.rank < q.cls.rank then
        ({ z with queue := z.queue.dropLast.filter (fun x => q.cls.rank ≤ x.cls.rank) ++ [q] ++
          z.queue.dropLast.filter (fun x => x.cls.rank < q.cls.rank) }, .queued)
      else (z, .dropped) := by
  rw [queueBell, joinQueue_eq q z.queue descends, joinQueue_eq q z.queue.dropLast (descends.sublist (List.dropLast_sublist _))]
  refine ite_congr rfl (fun _ => rfl) fun _ => ?_
  cases z.queue.getLast? with
  | none => exact (if_neg (by simp)).symm
  | some last => exact ite_congr (by simp) (fun _ => rfl) fun _ => rfl

/-! ## BELL_MANUAL and BELL_SILENCE (R160) -/

/-- Each named zone's outcome is decided from the bells as they stood: the zones before it change nothing of it. -/
theorem submitManual_outcomes (cadence : Nat) {zs : List Nat} (distinct : zs.Nodup) : ∀ b : Bells,
    (b.submitManual cadence zs).2 = zs.map fun z => ⟨z, (b.submitTo (b.zoneAt z) cadence .manual).2⟩ := by
  induction zs with
  | nil => exact fun _ => rfl
  | cons z rest ih =>
    intro b
    obtain ⟨apart, distinct'⟩ := List.nodup_cons.mp distinct
    refine congrArg (List.cons _) ((ih distinct' _).trans (List.map_congr_left fun y later => ?_))
    have other : y ≠ z := fun same => apart (same ▸ later)
    have cadences : (b.setZone z (b.submitTo (b.zoneAt z) cadence .manual).1).cadences = b.cadences := rfl
    rw [submitTo_congr cadences, Bells.zoneAt_setZone, if_neg fun ⟨same, _⟩ => other same]

theorem exec_bellManual {s : State} (ready : s.Ready) (tag mask cadence : Nat) :
    exec (.bellManual tag mask cadence) s = .next (
      if cadence < 1 ∨ 7 < cadence ∨ 15 < mask then s.answered 0x5B tag .badValue .nothing
      else State.answered { s with bells := { s.bells with
        zones := Vector.ofFn fun z =>
          if mask.testBit z then (s.bells.submitTo s.bells.zones[z] cadence .manual).1 else s.bells.zones[z] } } 0x5B tag .ok
        (.outcomes ((maskMembers mask 4).map fun z => ⟨z, (s.bells.submitTo (s.bells.zoneAt z) cadence .manual).2⟩))) := by
  change execBellManual tag mask cadence s = _
  have refused : (!(within 1 cadence 7 && within 0 mask 15)) = true ↔ cadence < 1 ∨ 7 < cadence ∨ 15 < mask := by
    rw [Bool.not_and, Bool.or_eq_true, not_within_zero, Bool.not_eq_true', not_within_iff, or_assoc]
  have distinct : (maskMembers mask 4).Nodup := List.nodup_range.filter _
  rw [execBellManual, serve_ready ready]
  simp only [refused, submitManual_outcomes cadence distinct, submitManual_bells]
  rw [maskMembers, foldl_submit]
  split <;> rfl

theorem exec_bellSilence {s : State} (ready : s.Ready) (tag mask : Nat) :
    exec (.bellSilence tag mask) s = .next (
      if 15 < mask then s.answered 0x5C tag .badValue .nothing
      else State.answered { s with bells := { s.bells with
        zones := Vector.ofFn fun z =>
          if mask.testBit z && !s.bells.zones[z].evacuating then ⟨none, []⟩ else s.bells.zones[z] } } 0x5C tag .ok
        (.silenced ((List.range 4).filter fun z => mask.testBit z && !(s.bells.zoneAt z).evacuating))) := by
  change execBellSilence tag mask s = _
  have silenced : (maskMembers mask 4).filter (fun z => !(s.bells.zoneAt z).evacuating) =
      (List.range 4).filter fun z => mask.testBit z && !(s.bells.zoneAt z).evacuating := by
    rw [maskMembers, List.filter_filter]
    exact List.filter_congr fun z _ => Bool.and_comm ..
  have named : ∀ z : Fin 4, ((List.range 4).filter fun z => mask.testBit z && !(s.bells.zoneAt z).evacuating).contains z.val =
      (mask.testBit z && !s.bells.zones[z].evacuating) := fun z => by
    rw [← Bells.zoneAt_fin, Bool.eq_iff_iff, List.contains_iff_mem, List.mem_filter, List.mem_range]
    exact and_iff_right z.isLt
  rw [execBellSilence, serve_ready ready]
  simp only [not_within_zero, silenced, mapUnits, named]
  split <;> rfl

/-- Settles O47: a start by the cadence's place in the table, a zone's decision by its sounding class, and each request by its equation. -/
theorem submissionsAreDecidedByClass : Obligations.SubmissionsAreDecidedByClass := by
  refine ⟨fun b cls => ⟨rfl, fun c => ⟨fun empty => startSounding_empty empty cls,
      fun d defined first head => startSounding_defined defined head cls⟩⟩, ?_, fun s tag mask cadence ready => ⟨?_, ?_⟩⟩
  · intro b ⟨sounding, queue⟩ c cls descends begun joined
    have begins : b.startIn c cls queue = begun := startIn_eq b c cls queue
    unfold Bells.submitTo
    cases sounding with
    | none => exact congrArg (·, BellOutcome.started) begins
    | some y =>
      exact ite_congr rfl (fun _ => congrArg (·, BellOutcome.preempted) begins) fun _ => queueBell_eq ⟨some y, queue⟩ ⟨c, cls⟩ descends
  · rw [exec_bellManual ready]
    simp only [Bool.and_true]
    rfl
  · exact exec_bellSilence ready tag mask

end Sys2Proof.Machine
end

section
/-! PROOFS. The playing of a cadence (Sections 10.1, 10.5, 10.8): a step's end, the tenth tick and the BELL outputs, and after them the
statement about them. -/

namespace Sys2Proof.Machine

/-! ## The step after a step's end (R154) -/

section
variable {x : Sounding} (b : Bells) (queue : List QueuedBell)

theorem moveOn_next {y : CadenceStep} (next : x.steps[x.index + 1]? = some y) :
    b.moveOn x queue = ⟨some { x with index := x.index + 1, down := y.tenths }, queue⟩ := by
  rw [Bells.moveOn, next]

theorem moveOn_endless {first : CadenceStep} (last : x.steps[x.index + 1]? = none) (head : x.steps.head? = some first)
    (endless : x.repeats = none) : b.moveOn x queue = ⟨some { x with index := 0, down := first.tenths }, queue⟩ := by
  simp only [Bells.moveOn, last, head, endless]

theorem moveOn_repeats {first : CadenceStep} {r : Nat} (last : x.steps[x.index + 1]? = none) (head : x.steps.head? = some first)
    (repeats : x.repeats = some r) :
    b.moveOn x queue =
      if x.repeatNo < r then ⟨some { x with index := 0, repeatNo := x.repeatNo + 1, down := first.tenths }, queue⟩
      else b.takeUpQueue queue := by
  simp only [Bells.moveOn, last, head, repeats]

end

/-! ## CADENCE_STEP_ENDED (R154, R158, log 3) -/

theorem setZone_fin (b : Bells) (z : Fin 4) (x : Zone) : b.setZone z x = { b with zones := b.zones.set z x } := by
  have same : b.zones.setIfInBounds z x = b.zones.set z x := by
    apply Vector.ext
    intro i inside
    rw [Vector.getElem_setIfInBounds inside, Vector.getElem_set]
  rw [Bells.setZone, same]

theorem exec_cadenceStepEnded {s : State} (works : s.Works) {z : Fin 4} {x : Sounding} (sounding : s.bells.zones[z].sounding = some x) :
    exec (.cadenceStepEnded z) s = .next (
      if x.down = 0 then
        { s with bells := { s.bells with zones := s.bells.zones.set z (s.bells.moveOn x s.bells.zones[z].queue) } }
      else s) := by
  change execCadenceStepEnded z s = _
  rw [execCadenceStepEnded, whileLive_working works]
  simp only [Bells.zoneAt_fin, sounding, setZone_fin]

/-! ## TENTH_TICK (R154, logs 1 and 30) -/

theorem Zone.tick_eq (z : Zone) : z.tick = { z with sounding := z.sounding.map fun x => { x with down := x.down - 1 } } := by
  obtain ⟨sounding, queue⟩ := z
  cases sounding <;> rfl

theorem exec_tenthTick_working {s : State} (works : s.Works) :
    exec .tenthTick s = .next { s with bells := { s.bells with
      tickElapsed := 0, tickPlace := (s.bells.tickPlace + 1) % 10
      zones := Vector.ofFn fun i => { s.bells.zones[i] with
        sounding := s.bells.zones[i].sounding.map fun x => { x with down := x.down - 1 } } } } := by
  have live : State.live { s with bells := { s.bells with tickElapsed := 0, tickPlace := (s.bells.tickPlace + 1) % 10 } } = true :=
    State.live_of_works works
  rw [exec_tenthTick, execTenthTick, tenthTick, if_pos live]
  simp only [mapUnits, Zone.tick_eq]

/-! ## The outputs (R154, R162, R163) -/

theorem State.bell_iff (s : State) (z : Fin 4) :
    s.bell z = true ↔ s.Works ∧ ∃ x ∈ s.bells.zones[z].sounding, ∃ step ∈ x.steps[x.index]?, step.on = true := by
  rw [State.bell, Bool.and_eq_true, State.live_iff, Bells.zoneAt_fin]
  refine and_congr_right fun _ => ?_
  cases s.bells.zones[z].sounding with
  | none => simp
  | some x =>
    unfold Sounding.step
    cases step : x.steps[x.index]? <;> simp [step]

/-- Settles O48: the outputs, and while the part works a downcounter that runs, a step's end by what comes after it, and the tick. -/
theorem cadencesPlayStepByStep : Obligations.CadencesPlayStepByStep := by
  refine ⟨State.bell_iff, fun s z works => ⟨fun x sounding runs => ?_, fun x sounding ended _ first head => ?_,
    exec_tenthTick_working works⟩⟩
  · rw [exec_cadenceStepEnded works sounding, if_neg runs]
  · rw [exec_cadenceStepEnded works sounding, if_pos ended]
    cases next : x.steps[x.index + 1]? with
    | some y => rw [moveOn_next _ _ next]
    | none =>
      by_cases endless : x.repeats = none
      · rw [moveOn_endless _ _ next head endless, if_pos endless]
      · obtain ⟨r, repeats⟩ := Option.ne_none_iff_exists'.mp endless
        have again : (∃ n ∈ x.repeats, x.repeatNo < n) ↔ x.repeatNo < r := by simp [repeats]
        rw [moveOn_repeats _ _ next head repeats, if_neg endless]
        simp only [again]
        split
        · rfl
        · rw [takeUpQueue_eq]
          cases s.bells.zones[z].queue.dropWhile fun q => (s.bells.startSounding q.cadence q.cls).isNone <;> rfl

end Sys2Proof.Machine
end
